-- ==== Sys2Proof/Word.lean ====
section
/-! DEFINITION. The word type of the Z1236 (18-bit registers, R4) and the plain data types that operands and state
share: berths, quays, phases, masters, field cards, host frames, mooring frames, memory entries. -/

namespace Sys2Proof

/-- A register word: 18 bits (R4). -/
abbrev Word := BitVec 18
/-- A byte of external memory. -/
abbrev Byte := BitVec 8
/-- Berth number (R2, R3). -/
abbrev Berth := Fin 12
/-- Tender number: 0 TA, 1 TB, 2 TC. -/
abbrev Tender := Fin 3

/-- The two quays (R3). -/
inductive Quay | north | south
deriving DecidableEq, Repr

/-- The quay of a berth (R3). -/
def Berth.quay (n : Berth) : Quay := if n.val < 6 then .north else .south

/-- The phases of a berth. -/
inductive Phase | u | v | w
deriving DecidableEq, Repr

/-- The two switches of a half-bridge. -/
inductive Side | high | low
deriving DecidableEq, Repr

/-- A value for each of the three phases. -/
structure Tri (α : Type) where
  u : α
  v : α
  w : α
deriving DecidableEq, Repr

namespace Tri
variable {α β γ : Type}

/-- The value of one phase. -/
def get (t : Tri α) : Phase → α
  | .u => t.u | .v => t.v | .w => t.w

/-- Replace the value of one phase. -/
def set (t : Tri α) (p : Phase) (x : α) : Tri α :=
  match p with
  | .u => { t with u := x } | .v => { t with v := x } | .w => { t with w := x }

/-- Apply `f` to the value of one phase. -/
def mod (t : Tri α) (p : Phase) (f : α → α) : Tri α := t.set p (f (t.get p))

/-- Apply `f` to each phase. -/
def map (f : α → β) (t : Tri α) : Tri β := ⟨f t.u, f t.v, f t.w⟩

/-- Combine two phase by phase. -/
def zip (f : α → β → γ) (a : Tri α) (b : Tri β) : Tri γ := ⟨f a.u b.u, f a.v b.v, f a.w b.w⟩

/-- The same value in each phase. -/
def all (x : α) : Tri α := ⟨x, x, x⟩

/-- The three values, U first. -/
def toList (t : Tri α) : List α := [t.u, t.v, t.w]

end Tri

/-- Phase numbers: 0 U, 1 V, 2 W. -/
def Phase.idx : Phase → Nat
  | .u => 0 | .v => 1 | .w => 2

/-- Access codes (R6). -/
inductive Acc | ro | rw | w1c | wo | rc | rwl
deriving DecidableEq, Repr

/-- One row of a field card. `min` and `max` are the stated range (two's complement when `sgn`); `zero` allows 0
beside the range; `ld` says that a record of the field's manifest section loads it. -/
structure Field where
  hi : Nat
  lo : Nat
  acc : Acc
  rst : Nat := 0
  ld : Bool := false
  min : Int := 0
  max : Int
  sgn : Bool := false
  zero : Bool := false
deriving DecidableEq, Repr

/-- The card of `count` registers of one layout from address (or offset) `base`. -/
structure Card where
  base : Nat
  count : Nat := 1
  fields : List Field
deriving DecidableEq, Repr

/-- The block of the address map that an address lies in (R33). -/
inductive Block
  | page
  | tender (t : Tender)
  | berth (n : Berth)
  | unmapped
deriving DecidableEq, Repr

/-- Master IDs (R29). -/
inductive Master
  | self | host | moor | loader | dock
  | lane (l : Fin 5)
  | factory
deriving DecidableEq, Repr

/-- The 4-bit ID of a master (R29). -/
def Master.id : Master → Nat
  | .self => 0 | .host => 1 | .moor => 2 | .loader => 3 | .dock => 4 | .lane l => 8 + l.val | .factory => 15

/-- Levels of the sampled and latched input pins; `faultn` and `hintn` are the levels at which everything outside the
device leaves the two open-drain lines. -/
structure Pins where
  compat : Bool
  testen : Bool
  wake : Bool
  tripnN : Bool
  tripnS : Bool
  faultn : Bool := true
  hintn : Bool := true
deriving DecidableEq, Repr

/-- The wake sources (R95, PWR_WAKECFG). -/
inductive WakeSource
  | pin | hcsn | mooring
  | dmd (n : Berth) (rising : Bool)
deriving DecidableEq, Repr

/-- What a TRIPN pin does: it has been low for `ns` nanoseconds, or it is high again. -/
inductive TripnLevel
  | low (ns : Nat)
  | high
deriving DecidableEq, Repr

/-- The half-bridges with an interlock (R197, R366). -/
inductive HalfBridge
  | berth (n : Berth) (p : Phase)
  | tender (t : Tender)
deriving DecidableEq, Repr

/-- The two causes of a brake trip (R209). -/
inductive BrakeCause | level | maxOn
deriving DecidableEq, Repr

/-- A set of raw converter codes: currents and terminal voltages (R222). -/
structure RawSet where
  i : Tri Int
  v : Tri Int
deriving DecidableEq, Repr

/-- The sums of the 256 conversions of each channel in an offset calibration, and whether each channel answered. -/
structure CalSums where
  i : Tri Int
  v : Tri Int
  iTimeout : Tri Bool
  vTimeout : Tri Bool
deriving DecidableEq, Repr

/-- The channels of a sample that have not completed 2 µs after their hold instant (R223). -/
structure Channels where
  i : Tri Bool
  v : Tri Bool
deriving DecidableEq, Repr

/-- What a self-test brings: for a berth the converter codes at the two levels of R231, for a lane or a tender whether it
passes (R544, R549, R550). -/
structure SelfTest where
  hi : RawSet
  lo : RawSet
  pass : Bool
deriving DecidableEq, Repr

/-- Where a corrected storage error lies (R264): a lane's register file, or the parameter RAM, with the lane that read it (R406). -/
inductive LaneStore
  | lane (l : Fin 5)
  | param (l : Fin 5)
deriving DecidableEq, Repr

/-- Where an uncorrectable parameter-RAM error lies (R264). -/
inductive ParamArea
  | berth (n : Berth)
  | engine
deriving DecidableEq, Repr

/-- Why a start fails (R292, R304). -/
inductive StartFailure | openLoop | reverseBrake | probeCut | probeMiss | homing
deriving DecidableEq, Repr

/-- The result of converting one sensor (R339): a die temperature in 1/64 K, or an NTC voltage with VAN, in mV. -/
inductive Reading
  | die (t : Int)
  | ntc (v van : Nat)
deriving DecidableEq, Repr

/-- What the tender measures for one period: the feedback voltage in µV, the mean sense voltage in µV, TSWt before the
high-side turn-off in 0.5 mV, the high-side turn-on edge (soft, and its time in ticks), and whether the result came too
late (R367 to R370, R385). -/
structure TenderMeas where
  vfb : Int
  sense : Int
  vin : Int
  soft : Bool
  edge : Nat
  late : Bool
deriving DecidableEq, Repr

/-- The tender edges of a period (R366). -/
inductive TenderEdgeKind | periodStart | highOff | lowOn | lowOff
deriving DecidableEq, Repr

/-- A host frame as received: whole words (18 bits, or 16 in the compatibility view), the bits of a last partial word,
edges after the frame, and for FETCH how many response words the host clocked (R415 to R426). -/
structure RawFrame where
  words : List Nat
  partialBits : Nat
  trail : Bool
  clocked : Nat
deriving DecidableEq, Repr

/-- A mooring frame (R488). `crc` is the received check word's CRC. -/
structure MFrame where
  typ : Nat
  len : Nat
  mark : Bool
  src : Nat
  hops : Nat
  dst : Nat
  pay : List Word
  crc : Nat
deriving DecidableEq, Repr

/-- A slot as it arrives on port A (R487): full or empty, echo bit, contents. -/
structure MSlot where
  echo : Bool
  frame : Option MFrame
deriving DecidableEq, Repr

/-- What a chain segment delivers in a turn (R502): which port, and the frame (none: IDLE). -/
inductive MPort | a | b
deriving DecidableEq, Repr

/-- What one journal slot reads as (R467, R475). -/
inductive SlotRead
  | blank
  | valid (typ : Nat) (boot rseq : Nat)
  | bad
deriving DecidableEq, Repr

/-- The parts that can be docked, by PART code (R540). -/
inductive Part
  | berth (n : Berth)
  | lane (l : Fin 5)
  | tender (t : Tender)
  | memory
  | portA
  | portB
deriving DecidableEq, Repr

/-- A saved thermal copy: three stages of each node, in the format of R13 (R478). -/
abbrev ThermalCopy := List (Int × Int × Int)

end Sys2Proof
end

