-- ==== Sys2Proof/Syntax.lean ====
section
/-! DEFINITION. The commands of the Z1236: one constructor for each row of spec/opcode_table.json, in the table's order,
with the operands the row's rule needs (the table itself gives no fields; log entry 1). -/

namespace Sys2Proof

/-- One command. A `v : Word` operand is the data word of the host write that the row names; the other operands are
what the row's event brings with it. -/
inductive Instr
  | powerOn (rstnLow : Bool)
  | vanReset (risen : Bool)
  | coreReset (risen : Bool)
  | rstnLow (ns : Nat)
  | pwrReset (v : Word)
  | resetRelease (pins : Pins)
  | brownOutWarning
  | brownOutDeassert
  | sagdone
  | sagResume
  | pwrSagclr (v : Word)
  | vsupOvervoltage (above : Bool)
  | vioRangeLost
  | vioReturn
  | vanLow (below : Bool)
  | coreBranchLow (branch : Fin 4) (below : Bool)
  | regionSkew (pair : Fin 10) (exceeds : Bool)
  | fabricStall (acc : Option (Master × Fin 8 × Nat))
  | pwrSleep (v : Word)
  | idlePolicy
  | sleepTenderStop
  | sleepFlushSave
  | sleepPointOfNoReturn
  | wakeEvent (src : WakeSource)
  | referenceFound
  | refSearchTimeout
  | refStopBeforeCommit
  | referenceLost
  | referenceReturn
  | calibrationStep (corr : Nat) (trimmed : Bool)
  | loadHeaders
  | slotCheck (saved : Option ThermalCopy)
  | mfCmd (v : Word)
  | mfKeycmd (v : Word)
  | keyProgramDone (ok : Bool)
  | firstGateRelease
  | vgdWaitExpired
  | wtStart (v : Word)
  | wtStop (v : Word)
  | wtExpiry (k : Fin 24)
  | wtCfgWrite (k : Fin 24) (v : Word)
  | shadowWrite (m : Master) (n : Berth) (sh : Fin 10) (v : Word)
  | loadPoint (n : Berth)
  | bpLoad (n : Berth) (v : Word)
  | loadall (v : Word)
  | pwmEnable (n : Berth) (v : Word)
  | pwmStart (n : Berth)
  | pwmDisable (n : Berth) (v : Word)
  | pwmEdge (n : Berth) (c : Nat)
  | deadTimeEnd (n : Berth) (p : Phase)
  | realignStretchEnd (n : Berth)
  | bpForce (m : Master) (n : Berth) (v : Word)
  | tripnTrip (q : Quay) (l : TripnLevel)
  | blankWindowEnd (n : Berth)
  | safeStateTrip (n : Berth)
  | tripClear (n : Berth) (v : Word)
  | debugHalt (v : Word)
  | debugResume (v : Word)
  | edgeMeasured (n : Berth) (p : Phase) (sd : Side) (soft : Bool) (ticks : Nat) (vb : Int)
  | pumpFail
  | pumpRecover
  | bootstrapUndervoltage (n : Berth) (p : Phase) (below : Bool)
  | interlockEvent (b : HalfBridge)
  | interlockClear (b : HalfBridge)
  | shortCircuitDetect (n : Berth) (p : Phase) (shunt : Int)
  | scBlankEnd (n : Berth) (p : Phase) (shunt : Int)
  | vgdUndervoltage (q : Quay)
  | vgdUvDeassert (q : Quay)
  | vgdOvervoltage (above : Bool)
  | chopperOn (q : Quay)
  | chopperOff (q : Quay)
  | chopperMinTimeEnd (q : Quay)
  | brakeTrip (q : Quay) (c : BrakeCause)
  | brakeTripDeassert (q : Quay)
  | sample (n : Berth)
  | resultSet (n : Berth) (raw : RawSet)
  | conversionTimeout (n : Berth) (late : Channels) (raw : RawSet)
  | busConversion (q : Quay) (v : Int)
  | bsCalRun (n : Berth) (v : Word)
  | offsetCalDone (n : Berth) (sums : CalSums)
  | laneTakeToken
  | package (n : Berth)
  | divRestore (n : Berth)
  | lossSearchWindow (n : Berth)
  | residueMismatch (l : Fin 5) (uncorr : Bool)
  | storageErrorCorrected (w : LaneStore)
  | uncorrectableParameterError (a : ParamArea) (l : Fin 5)
  | laneSelftestDone (l : Fin 5) (pass : Bool)
  | blClr (n : Berth) (v : Word)
  | start (n : Berth)
  | listenEnd (n : Berth)
  | reverseBrakeBurst (n : Berth)
  | shortBrakeEnd (n : Berth)
  | cicadaScanEnd (n : Berth)
  | clickPulse (n : Berth)
  | alignmentEnd (n : Berth)
  | handOff (n : Berth)
  | startFail (n : Berth) (why : StartFailure)
  | startRetry (n : Berth)
  | restart (n : Berth) (v : Word)
  | rotorLost (n : Berth)
  | stopComplete (n : Berth) (timeout : Bool)
  | home (n : Berth) (v : Word)
  | homingEndStop (n : Berth)
  | homingTimeout (n : Berth)
  | slip (n : Berth)
  | demandEvaluation (n : Berth)
  | dmdEdge (n : Berth) (level : Bool) (tick : Fin 256)
  | bdHdem (n : Berth) (v : Word)
  | demandSourceWrite (n : Berth) (v : Word)
  | apply (n : Berth) (v : Word)
  | modelUpdate
  | thConv (v : Word)
  | roundComplete (rs : List (Fin 10 × Reading))
  | thReadmit (v : Word)
  | junctionComparator (site : Fin 6)
  | junctionComparatorRelease (site : Fin 6)
  | tenderStripUndervoltage
  | tenderStripUvEnd
  | tenderSample (t : Tender) (m : TenderMeas)
  | tenderEdge (t : Tender) (e : TenderEdgeKind) (bootOk : Bool)
  | tenderTimingChange (t : Tender)
  | zeroCurrent (t : Tender) (sense : Int) (ticks : Nat)
  | currentLimit (t : Tender) (sense : Int) (ticks : Nat)
  | limitTimeExpiry (t : Tender)
  | startDelayEnd (t : Tender) (vfb : Nat)
  | rampEnd (t : Tender) (vfb : Nat)
  | hiccupEnd (t : Tender) (vfb : Nat)
  | stopDelayEnd (t : Tender)
  | stopRampEnd (t : Tender)
  | tenderEnable (t : Tender) (v : Word)
  | tenderDisable (t : Tender) (v : Word)
  | tdCmdClr (t : Tender) (v : Word)
  | tenderOvervoltage (t : Tender)
  | pgoodLost (t : Tender)
  | pgoodSet (t : Tender)
  | retryReset (t : Tender)
  | collectorDecision
  | brokenPair (src : Fin 256)
  | brokenSafeStateLine (n : Berth)
  | pendingClear (a : Nat) (v : Word)
  | clrrec (v : Word)
  | faultInjection (target : Fin 256 ⊕ Berth) (p q unlocked : Bool)
  | nop (f : RawFrame)
  | write (f : RawFrame)
  | read (f : RawFrame)
  | fetch (f : RawFrame)
  | barrier (f : RawFrame)
  | fencerel (f : RawFrame)
  | entryRun (k : Nat) (stall : Option Nat)
  | entryComplete (k : Nat)
  | go (v : Word)
  | memoryEntryStart
  | memoryEntryComplete (incoming : List Nat)
  | pollRetry (sel : Fin 4)
  | pollTimeout (sel : Fin 4)
  | mount
  | mountDone
  | logDisable (v : Word)
  | lazyExpiry
  | pageProgramDone (ok : Bool)
  | sectorPrepare
  | sectorPrepareDone
  | lossMarker
  | flush (v : Word)
  | flushComplete
  | saveth
  | savepar
  | trig (event : Option (Fin 256))
  | traceFreeze
  | traceEnterBuffer
  | bypassOpen
  | joinTimeout (carrier : Bool)
  | slotStart (arrived : Option MSlot)
  | slotLoss
  | carrierLoss
  | heal
  | portBDead
  | chainTurn (p : MPort) (heard : Option MFrame)
  | probeTimer
  | probe (f : MFrame)
  | loop (f : MFrame)
  | ring (f : MFrame)
  | ringSwitch
  | claim (f : MFrame)
  | claimTimer
  | anchorElected
  | announce (f : MFrame)
  | announceTimer
  | takenExpiry (node : Fin 512)
  | roll (v : Word)
  | rollCallStart
  | rollFrame (f : MFrame)
  | rolldone (f : MFrame)
  | echoSlot
  | echoMeasured (roundTrip : Nat)
  | timePeriod
  | time (f : MFrame) (tick : Fin 256)
  | notime
  | demsend
  | demand (f : MFrame)
  | fault (f : MFrame)
  | faultCopy
  | ledsend
  | ledger (f : MFrame)
  | ilvsend (v : Word)
  | interleave (f : MFrame)
  | ilvautoOffset
  | wake (v : Word)
  | mlRledclr (v : Word)
  | propose (v : Word)
  | confirm (v : Word)
  | pilotconf (v : Word)
  | withdraw (v : Word)
  | proposalWindowEnd
  | application
  | safePointTimeout
  | csignRecords (f : MFrame)
  | csignPropose (f : MFrame)
  | csignConfirm (f : MFrame)
  | csignWithdraw (f : MFrame)
  | csignResult (f : MFrame)
  | sendprop (v : Word)
  | sendconf (v : Word)
  | txcmdWithdraw (v : Word)
  | dock (v : Word)
  | drydockEntry (n : Berth)
  | undock (v : Word)
  | selftest (v : Word)
  | selftestDone (p : Part) (r : SelfTest)
  | reload (v : Word)
  | reloadDone
  | cancelq (v : Word)
  | seaTrialFail (n : Berth)
  | seaTrialEnd (n : Berth)
  | registerWrite (m : Master) (a : Nat) (v : Word)
  | hostFrameRejected (f : RawFrame)
  | slotArrival (sl : MSlot)
  | dmdConversion (n : Berth) (mv : Nat)
  | thermalStopWindowEnd (t : Tender)
  | configStorageCorrected
  | configStorageUncorrectable
  | edgeTimeSaturation (n : Berth) (p : Phase) (sd : Side) (vb : Int)
deriving DecidableEq, Repr

end Sys2Proof
end

