-- ==== Sys2Proof/Machine/Cards.lean ====
section
/-! DEFINITION. The field cards of the spec as data: for every register its fields, access codes (R6), reset
values (R9), ranges and whether a manifest record loads the field (R110). Bits a card does not list are reserved:
they read 0 and ignore writes (R5). -/

namespace Sys2Proof

/-- The field is loaded from its manifest section by a record (R110). -/
def Field.loaded (f : Field) : Field := { f with ld := true }
/-- The range the card states for an unsigned field. -/
def Field.range (f : Field) (a b : Int) : Field := { f with min := a, max := b }
/-- The range the card states for a two's-complement field. -/
def Field.srange (f : Field) (a b : Int) : Field := { f with min := a, max := b, sgn := true }
/-- The field takes every code in its width but values below `a`, other than 0 (R211: MAXON is 0 or at least 40). -/
def Field.zeroOr (f : Field) (a : Int) : Field := { f with min := a, zero := true }

end Sys2Proof

namespace Sys2Proof.Machine

/-- Bits `hi` to `lo`, access RO (R6). -/
def ro (hi lo : Nat) (rst : Nat := 0) : Field :=
  { hi := hi, lo := lo, acc := .ro, rst := rst, max := 2 ^ (hi + 1 - lo) - 1 }
/-- Bits `hi` to `lo`, access RW (R6). -/
def rw (hi lo : Nat) (rst : Nat := 0) : Field :=
  { hi := hi, lo := lo, acc := .rw, rst := rst, max := 2 ^ (hi + 1 - lo) - 1 }
/-- Bits `hi` to `lo`, access W1C (R6). -/
def w1c (hi lo : Nat) (rst : Nat := 0) : Field :=
  { hi := hi, lo := lo, acc := .w1c, rst := rst, max := 2 ^ (hi + 1 - lo) - 1 }
/-- Bits `hi` to `lo`, access WO (R6). -/
def wo (hi lo : Nat) (rst : Nat := 0) : Field :=
  { hi := hi, lo := lo, acc := .wo, rst := rst, max := 2 ^ (hi + 1 - lo) - 1 }
/-- Bits `hi` to `lo`, access RC (R6). -/
def rc (hi lo : Nat) (rst : Nat := 0) : Field :=
  { hi := hi, lo := lo, acc := .rc, rst := rst, max := 2 ^ (hi + 1 - lo) - 1 }
/-- Bits `hi` to `lo`, access RWL (R6); loaded from the protection section. -/
def rwl (hi lo : Nat) (rst : Nat := 0) : Field :=
  { hi := hi, lo := lo, acc := .rwl, rst := rst, ld := true, max := 2 ^ (hi + 1 - lo) - 1 }
/-- A register at one address. -/
def reg (a : Nat) (fs : List Field) : Card := { base := a, fields := fs }
/-- `n` registers of one layout at consecutive addresses. -/
def regs (a n : Nat) (fs : List Field) : Card := { base := a, count := n, fields := fs }

/-- GLB_ registers (R28, R43, R72, R155, R173 and the identity cards). -/
def glbCards : List Card :=
  [ reg 0x0000 [ro 17 0 0x01236],
    reg 0x0001 [ro 17 10 0x56, ro 9 0 0x053],
    reg 0x0002 [ro 11 8 1, ro 7 0 0],
    reg 0x0003 [ro 0 0],
    reg 0x0004 [w1c 15 0],
    reg 0x0005 [ro 8 8 1, ro 7 7, ro 6 6 1, ro 5 0],
    reg 0x0010 [w1c 9 0],
    reg 0x0011 [ro 9 0],
    reg 0x0020 [wo 2 2, wo 1 1, wo 0 0],
    reg 0x0021 [rw 0 0] ]

/-- PWR_ registers (chapters 3 and 6). -/
def pwrCards : List Card :=
  [ reg 0x0100 [ro 9 9, ro 8 8, ro 7 7, ro 6 6, ro 5 5, ro 4 1],
    reg 0x0101 [w1c 8 8, w1c 7 7, w1c 6 6, w1c 5 5, w1c 4 1],
    reg 0x0102 [ro 8 0],
    reg 0x0103 [((rw 13 9 5).range 2 15).loaded, ((rw 8 0 0x50).range 65 400).loaded],
    reg 0x0104 [((rw 17 0 0xC8).range 20 20000).loaded],
    reg 0x0105 [(rw 11 0).loaded],
    reg 0x0106 [(rw 8 8).loaded, (rw 7 7 1).loaded, (rw 6 6).loaded, ((rw 5 4).range 0 2).loaded,
      ((rw 3 2).range 0 2).loaded, ((rw 1 0).range 0 2).loaded],
    reg 0x0107 [wo 0 0],
    reg 0x0108 [(rw 17 17).loaded, ((rw 13 0 0x64).range 1 16383).loaded],
    reg 0x0109 [(rw 15 15 1).loaded, (rw 14 14 1).loaded, (rw 13 13 1).loaded, (rw 12 12).loaded, (rw 11 0).loaded],
    reg 0x010A [wo 17 0],
    reg 0x010B [wo 17 0],
    reg 0x010C [ro 17 0],
    reg 0x010D [ro 17 0 0x898],
    reg 0x0110 [((rw 6 0 0x58).range 70 95).loaded],
    reg 0x0111 [ro 2 2, ro 1 1, ro 0 0],
    reg 0x0112 [w1c 2 0],
    reg 0x0114 [w1c 2 2, ro 1 1, (rw 0 0 1).loaded],
    reg 0x0120 [rwl 3 3, rwl 2 2, rwl 1 1, rwl 0 0],
    reg 0x0121 [(rwl 15 10 0x0A).range 5 50, (rwl 9 0 0x244).range 200 660],
    reg 0x0122 [(rwl 9 0 0x276).range 210 690],
    reg 0x0123 [(rwl 17 0).zeroOr 40],
    reg 0x0124 [(rwl 15 10 0x0A).range 5 50, (rwl 9 0 0x244).range 200 660],
    reg 0x0125 [(rwl 9 0 0x276).range 210 690],
    reg 0x0126 [(rwl 17 0).zeroOr 40],
    reg 0x0127 [w1c 7 7, w1c 6 6, ro 5 5, ro 4 4, ro 3 3, ro 2 2, ro 1 1, ro 0 0] ]

/-- The two registers of each watch timer (R143 to R146). -/
def wtCards : List Card :=
  (List.range 24).flatMap fun k =>
    [ reg (0x0220 + 2 * k) [((rw 7 4).range 0 11).loaded, ((rw 2 0).range 0 3).loaded],
      reg (0x0221 + 2 * k) [(rw 17 0).loaded] ]

/-- TIDE_ registers (chapter 5). -/
def tideCards : List Card :=
  [ regs 0x0200 3 [ro 17 0],
    reg 0x0203 [w1c 4 4, ro 3 3 1, ro 2 2, ro 1 0],
    reg 0x0204 [ro 14 14, w1c 13 13, w1c 12 12, ro 11 11, ro 5 1 0x10, ro 0 0],
    reg 0x0205 [ro 7 0],
    reg 0x0206 [ro 17 0],
    reg 0x0210 [wo 6 6, wo 5 5, (wo 4 0).range 0 23],
    reg 0x0211 [w1c 17 0],
    reg 0x0212 [w1c 5 0] ] ++ wtCards

/-- FC_ registers (chapter 13). The reset of a reserved map entry is 0 (R393, `resetWord`). -/
def fcCards : List Card :=
  [ reg 0x0400 [rwl 6 4 1, rwl 3 1 1, rwl 0 0],
    reg 0x0401 [ro 4 4, ro 3 3, ro 2 2, ro 1 1, ro 0 0],
    reg 0x0402 [wo 0 0],
    reg 0x0404 [rw 8 8, rw 7 0],
    reg 0x0405 [rw 17 0],
    reg 0x0406 [rw 5 0],
    regs 0x0410 3 [ro 17 0],
    reg 0x0413 [ro 17 15, ro 14 11, ro 10 8, ro 7 0],
    reg 0x0414 [ro 15 0],
    reg 0x0415 [ro 17 16, ro 15 0],
    reg 0x0416 [ro 7 0],
    regs 0x0417 14 [ro 17 0],
    reg 0x0425 [ro 3 0],
    regs 0x0440 14 [w1c 17 0],
    reg 0x044E [w1c 3 0],
    regs 0x0460 14 [ro 17 0],
    reg 0x046E [ro 3 0],
    reg 0x046F [ro 11 0],
    regs 0x0480 2 [ro 17 0],
    regs 0x0490 3 [ro 11 0],
    regs 0x0500 256 [rwl 5 3 4, (rwl 2 0 1).range 0 6] ]

/-- The thermal levels of one set (R347): WARN, THR, STOP, HARD. -/
def levelCards (a : Nat) : List Card :=
  [ reg a [(rwl 17 0 0x1F40).srange (-2560) 12800], reg (a + 1) [(rwl 17 0 0x21C0).srange (-2560) 12800],
    reg (a + 2) [(rwl 17 0 0x2580).srange (-2560) 12800], reg (a + 3) [(rwl 17 0 0x2BC0).srange (-2560) 12800] ]

/-- The reset masks of TH_NBR0 to TH_NBR9. -/
def nbrResets : List Nat :=
  [0x2C, 0x2C, 0x0B, 0x07, 0x0C, 0x03, 0x81, 0x41, 0x202, 0x102]

/-- TH_ registers (chapter 11). -/
def thCards : List Card :=
  [ reg 0x0800 [(rw 4 1).loaded, (rw 0 0).loaded],
    reg 0x0801 [ro 11 11, ro 10 10, ro 9 9, ro 8 8, ro 7 7],
    reg 0x0802 [w1c 7 0],
    reg 0x0803 [wo 9 0],
    reg 0x0804 [wo 9 0],
    reg 0x0805 [ro 9 0],
    reg 0x0806 [((rw 17 0 0xC000).range 0x1000 0x10000).loaded],
    reg 0x0807 [((rw 17 0 0x40).range 1 6400).loaded],
    reg 0x0808 [((rw 17 0 0x140).range 64 1280).loaded],
    reg 0x0809 [((rw 17 0 0x1F40).srange (-2560) 9600).loaded],
    reg 0x080A [((rw 17 0 0x500).range 320 2560).loaded],
    regs 0x0810 10 [ro 17 0],
    regs 0x0820 10 [ro 17 0] ] ++
  (nbrResets.zipIdx.map fun p => reg (0x0830 + p.2) [(rw 9 0 p.1).loaded]) ++
  [ regs 0x0840 4 [((rw 17 0 0xD6B).range 1000 10000).loaded],
    regs 0x0844 4 [((rw 17 0 0x3E8).range 100 262143).loaded],
    reg 0x084C [(rwl 17 0 0x64).range 20 500],
    reg 0x084D [(rwl 17 0 0x3E8).range 100 10000],
    reg 0x084E [(rwl 17 0 0x3E8).range 100 2000] ] ++
  levelCards 0x0850 ++ levelCards 0x0854 ++
  [ reg 0x0858 [(rwl 17 0 0x21C0).srange (-2560) 10816], reg 0x0859 [(rwl 17 0 0x2440).srange (-2560) 10816],
    reg 0x085A [(rwl 17 0 0x26C0).srange (-2560) 10816],
    reg 0x085B [(rwl 17 0 0x140).range 64 1280],
    regs 0x085C 3 [(rwl 17 0 0x64).range 5 500],
    reg 0x0860 [(rw 6 0).range 0 84],
    regs 0x0861 7 [ro 17 0],
    regs 0x0868 4 [ro 15 0],
    regs 0x086C 2 [ro 14 0],
    regs 0x0870 15 [((rw 17 0 0x3E8).range 1 262143).loaded],
    regs 0x0880 15 [(rw 17 10 0x2D).loaded, (rw 9 0 0x2BC).loaded],
    regs 0x0890 15 [(rw 11 0 0x100).loaded],
    regs 0x08A0 15 [((rw 17 0 0x64).range 1 262143).loaded],
    regs 0x08B0 15 [((rw 17 0 0x1F4).range 1 262143).loaded],
    regs 0x08C0 15 [((rw 17 0 0x7D0).range 1 262143).loaded],
    regs 0x08D0 15 [((rw 17 0 0x32).range 1 262143).loaded],
    regs 0x08E0 15 [((rw 17 0 0x1F4).range 1 262143).loaded],
    regs 0x08F0 15 [((rw 17 0 0x1388).range 1 262143).loaded] ] ++
  -- entry 15 of each row of R358 is reserved
  (List.range 9).map fun k => reg (0x087F + 16 * k) []

/-- HP_ registers (chapter 14). -/
def hpCards : List Card :=
  [ reg 0x0900 [(rw 7 7 1).loaded, ((rw 6 0 1).range 1 127).loaded],
    reg 0x0901 [ro 17 16 3, ro 15 15, ro 14 14, ro 13 7 0x40, ro 6 0],
    reg 0x0902 [ro 14 0],
    reg 0x0903 [ro 11 0],
    reg 0x0904 [w1c 10 0],
    reg 0x0905 [ro 17 16, ro 15 13, ro 3 0],
    regs 0x0906 2 [ro 17 0],
    reg 0x0908 [rc 17 0],
    reg 0x0909 [rc 6 0] ]

/-- MP_ and LOG_ registers (chapter 15). -/
def mpCards : List Card :=
  [ reg 0x0A00 [(rw 1 0).loaded],
    reg 0x0A01 [ro 7 7, ro 6 0],
    reg 0x0A02 [w1c 2 0],
    reg 0x0A04 [rw 8 8, rw 7 7, rw 6 5, (rw 4 0 8).range 8 18],
    regs 0x0A05 2 [(rw 7 0).range 0 144],
    reg 0x0A07 [rw 15 8 1, rw 7 0],
    reg 0x0A08 [(rw 11 0 0x3E8).range 1 4000],
    reg 0x0A09 [wo 0 0],
    reg 0x0A0A [ro 3 3, ro 2 0],
    regs 0x0A70 144 [rw 17 0],
    reg 0x0A20 [(rw 11 11 1).loaded, (rw 10 10).loaded, ((rw 9 0 0x64).range 0 1000).loaded],
    reg 0x0A21 [(rw 17 0 0x10000).loaded], reg 0x0A22 [(rw 13 0 3).loaded],
    reg 0x0A23 [((rw 17 0 0x30).range 4 262143).loaded],
    reg 0x0A24 [(rw 17 0 0).loaded], reg 0x0A25 [(rw 13 0 3).loaded],
    reg 0x0A26 [(rw 17 0 0x2000).loaded], reg 0x0A27 [(rw 13 0 3).loaded],
    reg 0x0A28 [((rw 17 0 0xE).range 2 262143).loaded],
    reg 0x0A29 [((rw 17 14).range 0 11).loaded, (rw 13 11 4).loaded, (rw 10 8 4).loaded, (rw 7 0).loaded],
    reg 0x0A30 [ro 11 11, ro 10 10, ro 9 3, ro 2 0],
    reg 0x0A31 [w1c 5 0],
    reg 0x0A32 [ro 17 0], reg 0x0A33 [ro 13 0],
    reg 0x0A34 [ro 17 0], reg 0x0A35 [ro 13 0],
    reg 0x0A36 [rc 17 0],
    reg 0x0A37 [ro 15 0],
    reg 0x0A38 [wo 3 3, wo 2 2, wo 1 1, wo 0 0],
    reg 0x0A39 [ro 17 0] ]

/-- ML_ registers (chapter 16). ML_UID's reset is factory data (`Config.uid`). -/
def mlCards : List Card :=
  [ reg 0x0B00 [(rw 17 15).loaded, (rw 14 14 1).loaded, (rw 13 13).loaded, (rw 12 12).loaded, (rw 11 11).loaded,
      (rw 10 10).loaded, (rw 9 9).loaded, (rw 8 6 6).loaded, (rw 5 3 6).loaded],
    reg 0x0B01 [ro 15 15, ro 14 14, ro 13 12, ro 8 0],
    reg 0x0B02 [ro 9 8, ro 7 7, ro 6 6, ro 5 5, ro 4 4, ro 3 3, ro 2 2],
    reg 0x0B03 [w1c 7 0],
    reg 0x0B04 [wo 4 0],
    reg 0x0B05 [ro 11 9, ro 8 0],
    regs 0x0B06 2 [ro 17 0],
    reg 0x0B08 [ro 9 0],
    regs 0x0B09 2 [ro 11 0],
    reg 0x0B0B [ro 17 0],
    reg 0x0B0C [((rw 17 0 0x80).range 16 4096).loaded],
    reg 0x0B0D [((rw 17 0 0xA).range 1 1000).loaded],
    reg 0x0B0E [((rw 17 0 0x1400).range 256 262143).loaded],
    regs 0x0B0F 2 [ro 17 0],
    reg 0x0B11 [((rw 17 0 8).range 1 1000).loaded],
    reg 0x0B12 [rc 17 0],
    reg 0x0B13 [((rw 17 0 0x14).range 1 10000).loaded],
    reg 0x0B14 [((rw 17 0 0xA).range 1 3600).loaded],
    reg 0x0B15 [(rw 17 17).loaded, ((rw 16 13).range 0 11).loaded, (rw 5 0).loaded],
    regs 0x0B16 2 [(rw 17 0).loaded],
    reg 0x0B18 [(rw 11 0).loaded],
    regs 0x0B1C 3 [(rw 17 0).loaded], reg 0x0B1F [(rw 9 0).loaded],
    regs 0x0B20 3 [ro 17 0],
    reg 0x0B23 [ro 17 9, ro 8 6],
    reg 0x0B24 [ro 10 8, ro 7 0],
    regs 0x0B28 6 [ro 17 0],
    reg 0x0B2E [wo 0 0] ] ++
  ((List.range 4).flatMap fun k =>
    [reg (0x0B30 + 2 * k) [rw 17 0], reg (0x0B31 + 2 * k) [rw 17 0]]) ++
  [ regs 0x0B40 28 [ro 17 0], reg 0x0B5C [ro 7 0],
    regs 0x0B80 64 [(rw 16 0).range 0 0x10000] ]

/-- CS_ and DD_ registers (chapter 17). -/
def csCards : List Card :=
  [ reg 0x0C00 [rwl 0 0],
    reg 0x0C01 [rwl 9 9, rwl 8 0],
    reg 0x0C02 [(rwl 17 0 0x2710).range 100 262143],
    reg 0x0C03 [ro 16 13, ro 12 12, ro 11 8, ro 7 6, ro 5 4, ro 1 0],
    reg 0x0C04 [wo 5 5, wo 4 1],
    reg 0x0C05 [(rw 4 0).range 0 16],
    reg 0x0C06 [ro 17 0], reg 0x0C07 [ro 13 0],
    reg 0x0C08 [rw 17 0], reg 0x0C09 [rw 13 0],
    reg 0x0C0A [ro 15 9, ro 8 0],
    regs 0x0C10 16 [rw 15 0],
    regs 0x0C20 16 [rw 17 0],
    reg 0x0C30 [rw 8 0],
    reg 0x0C31 [wo 2 0],
    reg 0x0C32 [w1c 17 17, ro 14 8, ro 3 0],
    reg 0x0C40 [(rwl 17 0 0x8000).range 0x1000 0x10000],
    reg 0x0C41 [(rwl 17 0 0x8000).range 0x1000 0x10000],
    reg 0x0C42 [(rwl 17 0 0x190).range 50 10000],
    reg 0x0C48 [wo 17 15, wo 14 13, wo 4 0],
    reg 0x0C49 [ro 17 15, ro 14 10, ro 1 0],
    reg 0x0C4A [ro 3 0],
    reg 0x0C4B [ro 11 0],
    reg 0x0C4C [ro 10 0],
    regs 0x0C50 12 [ro 9 9, ro 8 3, ro 2 0] ]

/-- MF_ registers (chapter 4). -/
def mfCards : List Card :=
  [ reg 0x0D00 [ro 11 11, ro 10 10, ro 9 9, ro 8 7, ro 3 0],
    regs 0x0D01 3 [ro 3 0],
    regs 0x0D04 3 [ro 17 0],
    reg 0x0D07 [ro 17 0], reg 0x0D08 [ro 13 0],
    reg 0x0D09 [ro 17 0], reg 0x0D0A [ro 13 0],
    reg 0x0D0B [wo 17 0],
    reg 0x0D10 [w1c 1 1, ro 0 0],
    regs 0x0D11 8 [wo 15 0],
    reg 0x0D19 [wo 17 0] ]

/-- LE_ registers (chapter 8). -/
def leCards : List Card :=
  [ reg 0x0E00 [((rw 2 0 4).range 0 4).loaded],
    reg 0x0E01 [ro 14 0 0x1000],
    reg 0x0E02 [ro 9 0],
    reg 0x0E04 [rc 17 0],
    reg 0x0E05 [ro 17 0],
    reg 0x0E06 [w1c 3 3, w1c 2 2, w1c 1 1, w1c 0 0] ]

/-- TD_ registers of one tender, by offset (chapter 12). -/
def tdCards : List Card :=
  [ reg 0x00 [(rw 2 2 1).loaded, (rw 1 1).loaded, (rw 0 0).loaded],
    reg 0x01 [((rw 14 0 0x1400).range 2328 17066).loaded],
    reg 0x02 [(rw 14 0).loaded],
    reg 0x03 [((rw 17 11 0x0C).range 13 127).loaded, ((rw 6 0 0x0C).range 13 127).loaded],
    reg 0x04 [((rw 10 0 0xCD).range 52 2047).loaded],
    reg 0x05 [((rw 17 0 0xF333).range 0x1000 0xFAE1).loaded],
    reg 0x06 [((rw 10 0 0x320).range 300 1500).loaded],
    reg 0x07 [(rw 1 0 1).loaded],
    regs 0x08 5 [(rw 17 0).loaded],
    reg 0x0D [((rw 8 0 0x50).range 20 400).loaded],
    reg 0x0E [((rw 17 0).srange (-20) 20).loaded],
    reg 0x0F [((rw 17 0).range 0 2500).loaded],
    reg 0x10 [((rw 17 0 0x14).range 2 2000).loaded],
    reg 0x11 [((rw 17 0).range 0 2500).loaded],
    reg 0x12 [((rw 17 0 0x14).range 2 2000).loaded],
    reg 0x14 [((rw 17 0 0x3E8).range 1 262143).loaded],
    reg 0x20 [ro 8 8, ro 7 7, ro 6 6, ro 5 5, ro 3 0],
    reg 0x21 [w1c 9 0],
    reg 0x22 [wo 0 0],
    reg 0x23 [ro 17 0],
    reg 0x24 [ro 8 0],
    reg 0x25 [ro 17 0],
    reg 0x26 [ro 17 0],
    reg 0x27 [ro 17 17, ro 16 16, ro 11 0],
    reg 0x28 [ro 2 0] ]

/-- BP_ registers of one berth, by offset (chapter 5). -/
def bpCards : List Card :=
  [ reg 0x000 [(rw 5 5).loaded, (rw 4 4 1).loaded, (rw 3 2).loaded, rw 0 0],
    reg 0x001 [(rw 17 0 0x32000).loaded],
    regs 0x002 6 [rw 17 0],
    reg 0x008 [(rw 13 0 0x400).loaded],
    reg 0x009 [(rw 17 0).loaded],
    reg 0x00A [wo 0 0],
    reg 0x00B [((rw 5 4).range 0 1).loaded, ((rw 3 2).range 0 1).loaded, ((rw 1 0).range 0 1).loaded],
    reg 0x00C [(rwl 1 0).range 0 2],
    reg 0x00D [rw 6 6, rw 5 4, rw 3 2, rw 1 0],
    reg 0x00E [w1c 8 8, ro 7 7, ro 6 6, ro 5 5, ro 4 4, ro 3 3, ro 2 2, ro 1 1, ro 0 0],
    reg 0x00F [wo 0 0],
    reg 0x011 [ro 17 0 0x32000],
    regs 0x012 6 [ro 17 0],
    reg 0x018 [ro 13 0 0x400],
    reg 0x019 [ro 17 0],
    reg 0x020 [w1c 7 7, ro 6 6, w1c 5 5, ro 4 4, ro 3 3, ro 2 2, ro 0 0] ]

/-- BG_ registers of one berth, by offset (chapter 6). ADAPT resets to 0 on H-class, and five registers read 0
there (R187, `resetWord`). -/
def bgCards : List Card :=
  [ reg 0x080 [(rw 5 5 1).loaded, (rw 4 4).loaded, (rw 1 1).loaded, (rw 0 0 1).loaded],
    reg 0x081 [((rw 17 12 0x1A).range 5 63).loaded, ((rw 10 0 0x200).range 103 1024).loaded],
    reg 0x082 [((rw 7 0 0x32).range 5 200).loaded],
    reg 0x083 [(rw 12 8 0x1F).loaded, (rw 4 0).loaded],
    regs 0x084 2 [(rw 14 10 0x10).loaded, (rw 9 5 0x10).loaded, (rw 4 0 0x10).loaded],
    regs 0x086 6 [ro 17 17, ro 16 16, ro 11 0],
    reg 0x090 [((rw 5 0 1).range 1 63).loaded],
    reg 0x091 [((rw 14 0 0x400).range 1024 20480).loaded],
    reg 0x092 [((rw 6 0 0x4B).range 60 90).loaded],
    reg 0x094 [(rwl 7 0 0x32).range 4 255],
    reg 0x095 [(rwl 11 0 0x400).range 0 2048],
    reg 0x098 [ro 8 3, ro 2 0],
    reg 0x099 [w1c 14 9, w1c 8 6, w1c 5 3, w1c 2 0],
    reg 0x09A [ro 17 0],
    reg 0x09B [ro 14 0] ]

/-- BS_ registers of one berth, by offset (chapter 7). -/
def bsCards : List Card :=
  [ reg 0x100 [(rw 9 9 1).loaded, (rw 8 8).loaded, (rw 5 3).loaded, (rw 1 0).loaded],
    reg 0x101 [(rw 17 0 0x19000).loaded],
    reg 0x102 [((rw 11 0 0x400).range 0 2048).loaded],
    regs 0x104 6 [ro 17 0],
    regs 0x10A 3 [((rw 17 0 0x10000).range 0xE000 0x12000).loaded],
    regs 0x110 8 [ro 17 0],
    reg 0x118 [ro 17 17, ro 16 16, ro 12 0],
    reg 0x120 [((rw 16 0 0x2000).range 64 131071).loaded],
    reg 0x121 [((rw 3 0 4).range 1 15).loaded],
    reg 0x122 [((rw 16 0 0x640).range 1 131071).loaded],
    reg 0x123 [((rw 17 0 0xF4).range 1 262143).loaded],
    reg 0x124 [ro 14 14, ro 13 13, ro 12 12, ro 11 10, ro 9 9, ro 8 6, ro 5 3, ro 2 2],
    reg 0x125 [w1c 10 10, w1c 9 9, w1c 8 8, w1c 7 7, w1c 6 6, w1c 5 0],
    reg 0x126 [wo 0 0] ]

/-- BF_ registers of one berth, by offset (chapter 8). -/
def bfCards : List Card :=
  [ reg 0x180 [(rw 7 7 1).loaded, (rw 6 6).loaded, (rw 5 5 1).loaded, (rw 4 4 1).loaded, (rw 3 0 3).loaded],
    regs 0x181 2 [(rw 17 0 0x10000).loaded],
    reg 0x183 [(rw 11 10).loaded, ((rw 9 5 0x10).range 0 24).loaded, ((rw 4 0 0x10).range 0 24).loaded],
    regs 0x184 6 [((rw 17 0).range 0 0x1FFFF).loaded],
    reg 0x18A [((rw 17 0 0x10000).range 0x100 0x1FFFF).loaded],
    regs 0x18B 3 [((rw 17 0).range 0 0x1FFFF).loaded],
    reg 0x18E [((rw 17 0 0xF333).range 0x8000 0x10000).loaded],
    reg 0x18F [((rw 17 0 0xF333).range 0xC000 0x10000).loaded],
    reg 0x190 [(rw 17 0 0x400).loaded],
    reg 0x191 [((rw 17 0 0xE38E).range 0 0x10000).loaded],
    reg 0x192 [((rw 17 0 0xCCD).range 0x40 0x8000).loaded],
    reg 0x193 [((rw 12 0 0x400).range 0 4096).loaded],
    reg 0x194 [((rw 17 0 0x148).range 0x10 0x800).loaded],
    reg 0x195 [((rw 17 0 0xB6).range 0x10 0x800).loaded],
    reg 0x196 [((rw 17 0 0x7D0).range 256 262143).loaded],
    reg 0x197 [((rw 17 0 0x148).range 0x10 0x4000).loaded],
    reg 0x198 [((rw 17 0 0x3C000).range 0x20000 0x3FFFF).loaded],
    reg 0x199 [((rw 17 0 0x1C72).range 0 0x8000).loaded],
    regs 0x1A0 10 [ro 17 0],
    reg 0x1B0 [ro 7 6, ro 5 5, ro 4 4, ro 3 3, ro 2 2, ro 1 1, ro 0 0],
    reg 0x1B1 [w1c 3 3, w1c 2 2, w1c 1 1, w1c 0 0],
    reg 0x1B2 [ro 17 0] ]

/-- BL_ and BE_ registers of one berth, by offset (chapters 8 and 13). -/
def blCards : List Card :=
  [ reg 0x300 [ro 3 0 1],
    reg 0x301 [((rw 17 0 0x2580).range 1 262143).loaded],
    regs 0x302 10 [ro 17 0],
    reg 0x30C [ro 17 0],
    reg 0x30D [rc 17 0],
    reg 0x30E [wo 0 0],
    reg 0x380 [w1c 7 0],
    reg 0x381 [ro 2 0],
    regs 0x382 4 [rc 17 9, rc 8 0],
    reg 0x390 [((rw 17 0 0x8000).range 0x1000 0x10000).loaded] ]

/-- BO_ registers of one berth, by offset (chapter 9). CICEN resets to 0 on L-class (`resetWord`). -/
def boCards : List Card :=
  [ reg 0x200 [(rw 7 7).loaded, (rw 6 6).loaded, (rw 5 5 1).loaded, (rw 4 4 1).loaded, (rw 3 3 1).loaded, (rw 2 2 1).loaded],
    reg 0x201 [((rw 17 0 0x7D0).range 10 262143).loaded],
    reg 0x202 [((rw 17 0).range 0 0x8000).loaded],
    reg 0x203 [((rw 17 0 0x200).range 0 0x4000).loaded],
    reg 0x204 [((rw 17 0 0x2000).range 0 0x10000).loaded],
    reg 0x205 [((rw 17 0 0x80).range 0 0x10000).loaded],
    reg 0x206 [((rw 17 0 0x8000).range 0x2000 0x10000).loaded],
    reg 0x208 [((rw 17 0 0xCCD).range 0x100 0x4000).loaded],
    reg 0x209 [((rw 17 0 0x148).range 0x10 0x4000).loaded],
    reg 0x20A [((rw 17 0 0x8000).range 0x2000 0x10000).loaded],
    reg 0x20B [((rw 17 0 0x4B0).range 400 4000).loaded],
    reg 0x20C [((rw 17 0 0x6666).range 0x1000 0x10000).loaded],
    reg 0x20D [((rw 17 0 0x400).range 1 262143).loaded],
    reg 0x20E [((rw 17 0 0x64).range 1 2000).loaded],
    reg 0x20F [((rw 17 0 0x3E8).range 10 10000).loaded],
    reg 0x210 [((rw 17 0 0x32).range 1 1000).loaded],
    reg 0x211 [((rw 17 0 0x8000).range 0x1000 0x10000).loaded],
    reg 0x212 [((rw 17 0 0x7D0).range 10 60000).loaded],
    reg 0x213 [((rw 17 0 0x800).range 1 262143).loaded],
    reg 0x214 [((rw 17 0 0x7D0).range 10 2000).loaded],
    reg 0x218 [((rw 17 0 0x4000).range 0x28F6 0x8000).loaded],
    reg 0x219 [((rw 17 0 0x4000).range 0x400 0x10000).loaded],
    regs 0x21A 2 [(rw 17 0).loaded],
    reg 0x21C [((rw 17 0).range 0 0x10000).loaded],
    reg 0x21D [((rw 17 0 0x1000).range 1 0x3FFFF).loaded],
    reg 0x21E [((rw 17 0 0x8000).range 0x199A 0x10000).loaded],
    reg 0x21F [((rw 17 0 0x4000).range 0x100 0x1FFFF).loaded],
    reg 0x220 [((rw 17 0 0xCCD).range 0x100 0x8000).loaded],
    reg 0x222 [((rw 17 0 0xC8).range 1 6000).loaded],
    reg 0x228 [(rwl 17 0 0x4000).range 0 0x1FFFF],
    regs 0x240 5 [ro 17 0],
    regs 0x246 4 [ro 17 0],
    regs 0x24A 2 [rw 17 0],
    regs 0x24C 3 [ro 17 0],
    reg 0x250 [ro 7 6, ro 5 4, ro 3 0],
    reg 0x251 [ro 10 10, ro 9 9, ro 8 8, ro 7 7, ro 6 6, ro 5 5, ro 4 4, ro 3 3, ro 2 2, ro 1 1, ro 0 0],
    reg 0x252 [w1c 8 0],
    reg 0x253 [wo 1 1, wo 0 0] ]

/-- BD_ registers of one berth, by offset (chapter 10). The curve fields are loaded from the curves section, not by
a record (R114, R325). -/
def bdCards : List Card :=
  [ reg 0x280 [(rw 17 17).loaded, (rw 16 11).loaded, ((rw 10 6 0xA).range 0 18).loaded, (rw 5 5).loaded, (rw 4 4).loaded,
      (rw 3 2).loaded, (rw 1 0 2).loaded],
    reg 0x281 [((rw 16 0 0x2000).range 0 0x10000).loaded],
    reg 0x282 [((rw 16 0 0x1000).range 0 0x10000).loaded],
    reg 0x283 [((rw 17 0 0x400).range 1 262143).loaded],
    reg 0x284 [((rw 17 0 0x800).range 1 262143).loaded],
    reg 0x285 [((rw 16 0).range 0 0x10000).loaded],
    reg 0x286 [(rw 17 0 0x64).loaded],
    reg 0x287 [((rw 17 0 0xC8).range 1 262143).loaded],
    reg 0x288 [((rw 17 0 0x64).range 20 262143).loaded],
    reg 0x289 [((rw 17 0 0x4E20).range 20 262143).loaded],
    reg 0x28A [((rw 17 0 0x1F4).range 0 5500).loaded],
    reg 0x28B [((rw 17 0 0x1194).range 0 5500).loaded],
    reg 0x28C [((rw 17 0 0xC8).range 0 5500).loaded],
    reg 0x28D [((rw 17 0 0x12C0).range 0 5500).loaded],
    reg 0x290 [(rw 16 0).range 0 0x10000],
    reg 0x291 [ro 16 0],
    regs 0x298 2 [ro 16 0],
    regs 0x29A 4 [ro 17 0],
    reg 0x29E [ro 3 3, ro 2 2, ro 1 1, ro 0 0],
    reg 0x29F [w1c 4 0],
    reg 0x2A0 [wo 17 17, rw 5 5, (rw 4 0).range 0 16],
    reg 0x2A1 [ro 6 6, ro 5 5, ro 4 0],
    regs 0x2C0 32 [rw 17 0],
    regs 0x2E0 32 [ro 17 0] ]

/-- Every register of one berth block, by offset (R34). -/
def berthCards (off : Nat) : List Card :=
  if off < 0x080 then bpCards else if off < 0x100 then bgCards else if off < 0x180 then bsCards
  else if off < 0x200 then bfCards else if off < 0x280 then boCards else if off < 0x300 then bdCards else blCards

/-- The card in `cs` that holds address `a`. -/
def findCard : List Card → Nat → Option Card
  | [], _ => none
  | c :: cs, a => if c.base ≤ a ∧ a < c.base + c.count then some c else findCard cs a

/-- The block that an address lies in (R33): a berth, a tender, a device page, or unmapped. -/
def blockOf (a : Nat) : Block :=
  if a < 0x0300 then .page
  else if a < 0x0400 then .unmapped
  else if a < 0x0F00 then .page
  else if h : a < 0x0FC0 then .tender ⟨(a - 0x0F00) / 0x40, by omega⟩
  else if a < 0x4000 then .unmapped
  else if h : a < 0x7000 then .berth ⟨(a - 0x4000) / 0x400, by omega⟩
  else .unmapped

/-- The cards of the device page that holds `a`. -/
def pageCards (a : Nat) : List Card :=
  match a / 0x100 with
  | 0 => glbCards | 1 => pwrCards | 2 => tideCards | 4 => fcCards | 5 => fcCards | 8 => thCards | 9 => hpCards
  | 10 => mpCards | 11 => mlCards | 12 => csCards | 13 => mfCards | 14 => leCards | _ => []

/-- The card of the register at `a`, if a register stands there (R33 to R36). -/
def cardAt (a : Nat) : Option Card :=
  match blockOf a with
  | .berth _ => let off := (a - 0x4000) % 0x400; findCard (berthCards off) off
  | .tender _ => findCard tdCards ((a - 0x0F00) % 0x40)
  | .page => findCard (pageCards a) a
  | .unmapped => none

/-- H-class berths (R2). -/
def isH (n : Berth) : Bool := n == 0 || n == 1 || n == 6 || n == 7

/-- The five adaptive-drive registers, which read 0 on an H-class berth (R187). -/
def isAdaptiveOff (off : Nat) : Bool := 0x081 ≤ off && off ≤ 0x085

/-- Source IDs that R393 reserves (the map entry reads 0 and cannot be changed). -/
def reservedSource (s : Nat) : Bool :=
  (0x06 ≤ s && s ≤ 0x0F) || (0x1B ≤ s && s ≤ 0x1F) || s == 0x2E || s == 0x2F || (0x39 ≤ s && s ≤ 0x3F) ||
  (0x4F ≤ s && s ≤ 0x7F) || (0xED ≤ s && s ≤ 0xEF) || 0xF0 ≤ s

/-- The reset word a list of fields gives. -/
def fieldsReset (fs : List Field) : Nat := fs.foldl (fun acc f => acc + f.rst * 2 ^ f.lo) 0

/-- Every register's reset value (R9), class-dependent cards included (R187, BO_CTL.CICEN, R393). An address without
a register reads 0 (R35). -/
def resetWord (a : Nat) : Word :=
  match cardAt a with
  | none => 0
  | some c =>
    let w := fieldsReset c.fields
    match blockOf a with
    | .berth n =>
      let off := (a - 0x4000) % 0x400
      if isH n && isAdaptiveOff off then 0
      else if isH n && off == 0x080 then BitVec.ofNat 18 (w - 1)
      else if !isH n && off == 0x200 then BitVec.ofNat 18 (w - 0x10)
      else BitVec.ofNat 18 w
    | .page => if 0x0500 ≤ a && a < 0x0600 && reservedSource (a - 0x0500) then 0 else BitVec.ofNat 18 w
    | _ => BitVec.ofNat 18 w

/-- The address lies in the protection set (R523). -/
def isProt (a : Nat) : Bool :=
  match cardAt a with
  | none => false
  | some c => c.fields.any fun f => f.acc == .rwl

end Sys2Proof.Machine
end

