-- ==== Sys2Proof/Machine/Regs.lean ====
section
/-! DEFINITION. Register addresses by the spec's names (R33, R34 and the field cards). A name with a block prefix of a
berth or tender is the offset within that block; `ba` and `ta` give the address. -/

namespace Sys2Proof.Machine

/-- The address of offset `off` in the block of berth `n` (R33). -/
def ba (n : Berth) (off : Nat) : Nat := 0x4000 + 0x400 * n.val + off
/-- The address of offset `off` in the block of tender `t` (R33). -/
def ta (t : Tender) (off : Nat) : Nat := 0x0F00 + 0x40 * t.val + off

abbrev GLB_COMPAT : Nat := 0x3
abbrev GLB_SNAPSTAT : Nat := 0x4
abbrev GLB_SKEW : Nat := 0x10
abbrev GLB_SKEWNOW : Nat := 0x11
abbrev GLB_LOADALL : Nat := 0x20
abbrev GLB_DBGHALT : Nat := 0x21
abbrev PWR_STAT : Nat := 0x100
abbrev PWR_FLAGS : Nat := 0x101
abbrev PWR_RSTCAUSE : Nat := 0x102
abbrev PWR_BOCFG : Nat := 0x103
abbrev PWR_BOFILT : Nat := 0x104
abbrev PWR_SAGBERTH : Nat := 0x105
abbrev PWR_SAGCFG : Nat := 0x106
abbrev PWR_SAGCLR : Nat := 0x107
abbrev PWR_SLEEPCFG : Nat := 0x108
abbrev PWR_WAKECFG : Nat := 0x109
abbrev PWR_SLEEP : Nat := 0x10A
abbrev PWR_RESET : Nat := 0x10B
abbrev PWR_GDEST : Nat := 0x10C
abbrev PWR_BUDGET : Nat := 0x10D
abbrev PWR_VGDCFG : Nat := 0x110
abbrev PWR_VGDSTAT : Nat := 0x111
abbrev PWR_VGDFLAGS : Nat := 0x112
abbrev PWR_PUMP : Nat := 0x114
abbrev PWR_BRKCTL : Nat := 0x120
abbrev PWR_BRKSTAT : Nat := 0x127
abbrev TIDE_NOW0 : Nat := 0x200
abbrev TIDE_REFSTAT : Nat := 0x203
abbrev TIDE_CALSTAT : Nat := 0x204
abbrev TIDE_CALDRIFT : Nat := 0x205
abbrev TIDE_WTCFG0 : Nat := 0x220
abbrev TIDE_CALCNT : Nat := 0x206
abbrev TIDE_WTCMD : Nat := 0x210
abbrev TIDE_WTSTAT0 : Nat := 0x211
abbrev FC_CTL : Nat := 0x400
abbrev FC_STAT : Nat := 0x401
abbrev FC_CMD : Nat := 0x402
abbrev FC_INTEN : Nat := 0x404
abbrev FC_WTIE0 : Nat := 0x405
abbrev FC_FIRSTTS0 : Nat := 0x410
abbrev FC_PEND0 : Nat := 0x440
abbrev FC_MAP : Nat := 0x500
abbrev TH_CTL : Nat := 0x800
abbrev TH_STAT : Nat := 0x801
abbrev TH_EVT : Nat := 0x802
abbrev TH_CONV : Nat := 0x803
abbrev TH_READMIT : Nat := 0x804
abbrev HP_CTL : Nat := 0x900
abbrev HP_STAT : Nat := 0x901
abbrev HP_EVT : Nat := 0x904
abbrev HP_REJ : Nat := 0x905
abbrev MP_STAT : Nat := 0xA01
abbrev MP_EVT : Nat := 0xA02
abbrev MP_HCMD : Nat := 0xA09
abbrev MP_HSTAT : Nat := 0xA0A
abbrev LOG_CTL : Nat := 0xA20
abbrev LOG_STAT : Nat := 0xA30
abbrev LOG_EVT : Nat := 0xA31
abbrev LOG_DROP : Nat := 0xA36
abbrev LOG_BOOT : Nat := 0xA37
abbrev LOG_CMD : Nat := 0xA38
abbrev ML_CTL : Nat := 0xB00
abbrev ML_NODE : Nat := 0xB01
abbrev ML_STAT : Nat := 0xB02
abbrev ML_EVT : Nat := 0xB03
abbrev ML_CMD : Nat := 0xB04
abbrev CS_SEAL : Nat := 0xC00
abbrev MF_STAT : Nat := 0xD00
abbrev MF_SLOTAR : Nat := 0xD01
abbrev MF_SLOTAO : Nat := 0xD04
abbrev MF_GEN0 : Nat := 0xD07
abbrev MF_BUILD0 : Nat := 0xD09
abbrev MF_CMD : Nat := 0xD0B
abbrev MF_KEYSTAT : Nat := 0xD10
abbrev MF_KEYW0 : Nat := 0xD11
abbrev MF_KEYCMD : Nat := 0xD19
abbrev LE_CTL : Nat := 0xE00
abbrev LE_LANE : Nat := 0xE01
abbrev LE_OCC : Nat := 0xE02
abbrev LE_LATMAX : Nat := 0xE04
abbrev LE_ERRCNT : Nat := 0xE05
abbrev LE_EVT : Nat := 0xE06
abbrev BP_CTL : Nat := 0x0
abbrev BP_PERIOD : Nat := 0x1
abbrev BP_CMPONU : Nat := 0x2
abbrev BP_DEADT : Nat := 0x8
abbrev BP_PHASEOFS : Nat := 0x9
abbrev BP_LOAD : Nat := 0xA
abbrev BP_DISLVL : Nat := 0xB
abbrev BP_SAFE : Nat := 0xC
abbrev BP_FORCE : Nat := 0xD
abbrev BP_TRIP : Nat := 0xE
abbrev BP_TRIPCLR : Nat := 0xF
abbrev BP_PERIODA : Nat := 0x11
abbrev BP_CMPONUA : Nat := 0x12
abbrev BP_DEADTA : Nat := 0x18
abbrev BP_PHASEOFSA : Nat := 0x19
abbrev BP_STAT : Nat := 0x20
abbrev BG_CTL : Nat := 0x80
abbrev BG_TARGET : Nat := 0x81
abbrev BG_DVDT : Nat := 0x82
abbrev BG_CODELIM : Nat := 0x83
abbrev BG_CODEH : Nat := 0x84
abbrev BG_CODEL : Nat := 0x85
abbrev BG_EDGEHU : Nat := 0x86
abbrev BG_REFRESH : Nat := 0x90
abbrev BG_REFW : Nat := 0x91
abbrev BG_BSUV : Nat := 0x92
abbrev BG_SCTHR : Nat := 0x94
abbrev BG_SCBLANK : Nat := 0x95
abbrev BG_HELD : Nat := 0x98
abbrev BG_EVT : Nat := 0x99
abbrev BG_SCCNT : Nat := 0x9A
abbrev BG_BSCNT : Nat := 0x9B
abbrev BS_CTL : Nat := 0x100
abbrev BS_SAMPT : Nat := 0x101
abbrev BS_GUARD : Nat := 0x102
abbrev BS_OFSIU : Nat := 0x104
abbrev BS_OFSVU : Nat := 0x107
abbrev BS_GAINU : Nat := 0x10A
abbrev BS_IU : Nat := 0x110
abbrev BS_VU : Nat := 0x113
abbrev BS_VBUS : Nat := 0x116
abbrev BS_SCNT : Nat := 0x117
abbrev BS_SINFO : Nat := 0x118
abbrev BS_SUMTHR : Nat := 0x120
abbrev BS_SUMN : Nat := 0x121
abbrev BS_OPLOW : Nat := 0x122
abbrev BS_OPQ : Nat := 0x123
abbrev BS_SENSE : Nat := 0x124
abbrev BS_EVT : Nat := 0x125
abbrev BS_CAL : Nat := 0x126
abbrev BF_CTL : Nat := 0x180
abbrev BF_ISCALE : Nat := 0x181
abbrev BF_VSCALE : Nat := 0x182
abbrev BF_SHIFT : Nat := 0x183
abbrev BF_KPD : Nat := 0x184
abbrev BF_KID : Nat := 0x185
abbrev BF_KPQ : Nat := 0x186
abbrev BF_KIQ : Nat := 0x187
abbrev BF_KPS : Nat := 0x188
abbrev BF_KIS : Nat := 0x189
abbrev BF_ILIM : Nat := 0x18A
abbrev BF_LD : Nat := 0x18B
abbrev BF_LQ : Nat := 0x18C
abbrev BF_PSI : Nat := 0x18D
abbrev BF_MODMAX : Nat := 0x18E
abbrev BF_FWTHR : Nat := 0x18F
abbrev BF_FWKI : Nat := 0x190
abbrev BF_FWMAX : Nat := 0x191
abbrev BF_DTCBAND : Nat := 0x192
abbrev BF_MINPW : Nat := 0x193
abbrev BF_LSSTEP : Nat := 0x194
abbrev BF_LSASTEP : Nat := 0x195
abbrev BF_LSWIN : Nat := 0x196
abbrev BF_LSERR : Nat := 0x197
abbrev BF_LSIDMIN : Nat := 0x198
abbrev BF_LSAMAX : Nat := 0x199
abbrev BF_ID : Nat := 0x1A0
abbrev BF_IQ : Nat := 0x1A1
abbrev BF_IDREF : Nat := 0x1A2
abbrev BF_IQREF : Nat := 0x1A3
abbrev BF_VD : Nat := 0x1A4
abbrev BF_VQ : Nat := 0x1A5
abbrev BF_ILIMF : Nat := 0x1A6
abbrev BF_FWANG : Nat := 0x1A7
abbrev BF_LSID : Nat := 0x1A8
abbrev BF_LSANG : Nat := 0x1A9
abbrev BF_STAT : Nat := 0x1B0
abbrev BF_EVT : Nat := 0x1B1
abbrev BF_MISSCNT : Nat := 0x1B2
abbrev BO_CTL : Nat := 0x200
abbrev BO_WBASE : Nat := 0x201
abbrev BO_RS : Nat := 0x202
abbrev BO_OBSG : Nat := 0x203
abbrev BO_PLLKP : Nat := 0x204
abbrev BO_PLLKI : Nat := 0x205
abbrev BO_EMFTOL : Nat := 0x206
abbrev BO_CICAMP : Nat := 0x208
abbrev BO_CICMIN : Nat := 0x209
abbrev BO_POLI : Nat := 0x20A
abbrev BO_CLKW : Nat := 0x20B
abbrev BO_OLI : Nat := 0x20C
abbrev BO_OLACC : Nat := 0x20D
abbrev BO_ALIGNT : Nat := 0x20E
abbrev BO_OLMAX : Nat := 0x20F
abbrev BO_SHORTT : Nat := 0x210
abbrev BO_RBI : Nat := 0x211
abbrev BO_RBMAX : Nat := 0x212
abbrev BO_STOPDEC : Nat := 0x213
abbrev BO_STOPMAX : Nat := 0x214
abbrev BO_HOMESPD : Nat := 0x218
abbrev BO_HOMEI : Nat := 0x219
abbrev BO_HOMEOFS0 : Nat := 0x21A
abbrev BO_HOMEOFS1 : Nat := 0x21B
abbrev BO_HOLDI : Nat := 0x21C
abbrev BO_POSBAND : Nat := 0x21D
abbrev BO_POSVMAX : Nat := 0x21E
abbrev BO_KPOS : Nat := 0x21F
abbrev BO_SLIPV : Nat := 0x220
abbrev BO_HOMEMAX : Nat := 0x222
abbrev BO_XOVER : Nat := 0x228
abbrev BO_THETA : Nat := 0x240
abbrev BO_OMEGA : Nat := 0x241
abbrev BO_TERR : Nat := 0x242
abbrev BO_EMF : Nat := 0x243
abbrev BO_SAL : Nat := 0x244
abbrev BO_LASTW : Nat := 0x246
abbrev BO_CATCHW : Nat := 0x247
abbrev BO_POS0 : Nat := 0x248
abbrev BO_POS1 : Nat := 0x249
abbrev BO_PTGT0 : Nat := 0x24A
abbrev BO_PTGT1 : Nat := 0x24B
abbrev BO_CLKANG : Nat := 0x24C
abbrev BO_CLKCON : Nat := 0x24D
abbrev BO_LOSTCNT : Nat := 0x24E
abbrev BO_PHASE : Nat := 0x250
abbrev BO_STAT : Nat := 0x251
abbrev BO_EVT : Nat := 0x252
abbrev BO_CMD : Nat := 0x253
abbrev BD_CTL : Nat := 0x280
abbrev BD_ON : Nat := 0x281
abbrev BD_OFF : Nat := 0x282
abbrev BD_ACC : Nat := 0x283
abbrev BD_DEC : Nat := 0x284
abbrev BD_FALLBK : Nat := 0x285
abbrev BD_LOSST : Nat := 0x286
abbrev BD_RESTT : Nat := 0x287
abbrev BD_PMIN : Nat := 0x288
abbrev BD_PMAX : Nat := 0x289
abbrev BD_VLO : Nat := 0x28A
abbrev BD_VHI : Nat := 0x28B
abbrev BD_BANDLO : Nat := 0x28C
abbrev BD_BANDHI : Nat := 0x28D
abbrev BD_HDEM : Nat := 0x290
abbrev BD_MDEM : Nat := 0x291
abbrev BD_DEM : Nat := 0x298
abbrev BD_CAP : Nat := 0x299
abbrev BD_TGT : Nat := 0x29A
abbrev BD_WREF : Nat := 0x29B
abbrev BD_DMDPER : Nat := 0x29C
abbrev BD_DMDV : Nat := 0x29D
abbrev BD_STAT : Nat := 0x29E
abbrev BD_EVT : Nat := 0x29F
abbrev BD_CCTL : Nat := 0x2A0
abbrev BD_CCTLA : Nat := 0x2A1
abbrev BD_CX0 : Nat := 0x2C0
abbrev BD_CXA0 : Nat := 0x2E0
abbrev BD_CYA0 : Nat := 0x2F0
abbrev BL_STATE : Nat := 0x300
abbrev BL_PSCALE : Nat := 0x301
abbrev BL_EIN0 : Nat := 0x302
abbrev BL_EREG0 : Nat := 0x304
abbrev BL_EOUT0 : Nat := 0x306
abbrev BL_RUNT0 : Nat := 0x308
abbrev BL_REV0 : Nat := 0x30A
abbrev BL_LAT : Nat := 0x30C
abbrev BL_LATMAX : Nat := 0x30D
abbrev BL_CLR : Nat := 0x30E
abbrev BE_PEND : Nat := 0x380
abbrev BE_REACT : Nat := 0x381
abbrev BE_CNT01 : Nat := 0x382
abbrev BE_DERLIM : Nat := 0x390
abbrev TD_CTL : Nat := 0x0
abbrev TD_PERIOD : Nat := 0x1
abbrev TD_OFS : Nat := 0x2
abbrev TD_DT : Nat := 0x3
abbrev TD_MINON : Nat := 0x4
abbrev TD_DMAX : Nat := 0x5
abbrev TD_VREF : Nat := 0x6
abbrev TD_WIN : Nat := 0x7
abbrev TD_B0 : Nat := 0x8
abbrev TD_ILIM : Nat := 0xD
abbrev TD_ZC : Nat := 0xE
abbrev TD_SDLY : Nat := 0xF
abbrev TD_SRAMP : Nat := 0x10
abbrev TD_PDLY : Nat := 0x11
abbrev TD_PRAMP : Nat := 0x12
abbrev TD_RSNS : Nat := 0x14
abbrev TD_STAT : Nat := 0x20
abbrev TD_EVT : Nat := 0x21
abbrev TD_CMD : Nat := 0x22
abbrev TD_DUTY : Nat := 0x23
abbrev TD_ERR : Nat := 0x24
abbrev TD_VIN : Nat := 0x25
abbrev TD_IAVG : Nat := 0x26
abbrev TD_EDGE : Nat := 0x27
abbrev TD_RETRY : Nat := 0x28
abbrev TH_BROKEN : Nat := 0x805
abbrev TH_CORRG : Nat := 0x806
abbrev TH_UGROW : Nat := 0x807
abbrev TH_ULIM : Nat := 0x808
abbrev TH_REFDEF : Nat := 0x809
abbrev TH_DIVLIM : Nat := 0x80A
abbrev TH_SENS0 : Nat := 0x810
abbrev TH_SUNC0 : Nat := 0x820
abbrev TH_NBR0 : Nat := 0x830
abbrev TH_NTCB0 : Nat := 0x840
abbrev TH_NTCR0 : Nat := 0x844
abbrev TH_THRINT : Nat := 0x84C
abbrev TH_RESINT : Nat := 0x84D
abbrev TH_STOPWIN : Nat := 0x84E
abbrev TH_HYST : Nat := 0x85B
abbrev TH_RATEF : Nat := 0x85C
abbrev TH_SEL : Nat := 0x860
abbrev TH_STOPM : Nat := 0x86D
abbrev TH_WARNM : Nat := 0x86C
abbrev TH_STEP0 : Nat := 0x868
abbrev LOG_RSEQ0 : Nat := 0xA32
abbrev LOG_WPTR0 : Nat := 0xA34
abbrev LOG_WEARMAX : Nat := 0xA39
abbrev LOG_BASE0 : Nat := 0xA21
abbrev LOG_SECT : Nat := 0xA23
abbrev LOG_THBASE0 : Nat := 0xA24
abbrev LOG_PARBASE0 : Nat := 0xA26
abbrev LOG_PARSECT : Nat := 0xA28
abbrev LOG_TRCFG : Nat := 0xA29
abbrev MP_CTL : Nat := 0xA00
abbrev MP_HENT0 : Nat := 0xA04
abbrev MP_HENT1 : Nat := 0xA05
abbrev MP_HENT2 : Nat := 0xA06
abbrev MP_HPOLL : Nat := 0xA07
abbrev MP_HPOLLT : Nat := 0xA08
abbrev MP_HBUF0 : Nat := 0xA70
abbrev HP_FENCED : Nat := 0x902
abbrev HP_HELD : Nat := 0x903
abbrev HP_FRM0 : Nat := 0x906
abbrev HP_REJCNT : Nat := 0x908
abbrev HP_QMAX : Nat := 0x909
abbrev ML_ANCHOR : Nat := 0xB05
abbrev ML_UID0 : Nat := 0xB06
abbrev ML_RINGSZ : Nat := 0xB08
abbrev ML_SEGDLYA : Nat := 0xB09
abbrev ML_SEGDLYB : Nat := 0xB0A
abbrev ML_OFS : Nat := 0xB0B
abbrev ML_ALIGNLIM : Nat := 0xB0C
abbrev ML_ALIGNINT : Nat := 0xB0D
abbrev ML_STEPLIM : Nat := 0xB0E
abbrev ML_STEP0 : Nat := 0xB0F
abbrev ML_ERRLIM : Nat := 0xB11
abbrev ML_ERRCNT : Nat := 0xB12
abbrev ML_DEMPER : Nat := 0xB13
abbrev ML_LEDGPER : Nat := 0xB14
abbrev ML_RELAY : Nat := 0xB15
abbrev ML_ILVBASE : Nat := 0xB16
abbrev ML_ILVSTEP : Nat := 0xB17
abbrev ML_ILVMASK : Nat := 0xB18
abbrev ML_DEMOWN0 : Nat := 0xB1C
abbrev ML_FRXTS0 : Nat := 0xB20
abbrev ML_FRXSRC : Nat := 0xB23
abbrev ML_FRXSRC2 : Nat := 0xB24
abbrev ML_REIN0 : Nat := 0xB28
abbrev ML_RLEDCLR : Nat := 0xB2E
abbrev ML_ILVTX0 : Nat := 0xB30
abbrev ML_TAKEN0 : Nat := 0xB40
abbrev ML_DEMV0 : Nat := 0xB80
abbrev CS_PEER : Nat := 0xC01
abbrev CS_SPWAIT : Nat := 0xC02
abbrev CS_STAT : Nat := 0xC03
abbrev CS_CMD : Nat := 0xC04
abbrev CS_PCNT : Nat := 0xC05
abbrev CS_DIGEST0 : Nat := 0xC06
abbrev CS_CONF0 : Nat := 0xC08
abbrev CS_PNODE : Nat := 0xC0A
abbrev CS_PADR0 : Nat := 0xC10
abbrev CS_PVAL0 : Nat := 0xC20
abbrev CS_TXDST : Nat := 0xC30
abbrev CS_TXCMD : Nat := 0xC31
abbrev CS_TXRES : Nat := 0xC32
abbrev DD_STLIM : Nat := 0xC40
abbrev DD_STSPD : Nat := 0xC41
abbrev DD_STTIME : Nat := 0xC42
abbrev DD_CMD : Nat := 0xC48
abbrev DD_RES : Nat := 0xC49
abbrev DD_RELCODE : Nat := 0xC4A
abbrev DD_BDOCK : Nat := 0xC4B
abbrev DD_ODOCK : Nat := 0xC4C
abbrev DD_BSTAT0 : Nat := 0xC50
abbrev GLB_PINLVL : Nat := 0x5
abbrev FC_BROKEN0 : Nat := 0x460
abbrev FC_BROKENL : Nat := 0x46F
abbrev FC_EVCNT0 : Nat := 0x480
abbrev FC_BSAFE : Nat := 0x490
abbrev TIDE_WTSTAT1 : Nat := 0x212

end Sys2Proof.Machine
end

