-- ==== Sys2Proof/Config.lean ====
section
/-! DEFINITION. What an implementation fixes and what the spec leaves open. Every constant here is opaque: nothing in
Lean can evaluate it, so a statement that mentions one holds for every value. -/

namespace Sys2Proof

/-- The stream of free values: `State.free` counts how many of them the machine has used (log entry 3). -/
opaque Config.free : Nat → Nat

/-- The factory UID of the device, 36 bits (ML_UID; log entry 4). -/
opaque Config.uid : Nat

/-- Power in mW of a die node (nodes 78 to 84 as 0 to 6) from the device's own activity, which R336 leaves to factory
trimming, as a function of a count of free values (log entry 5). -/
opaque Config.diePower : Nat → Nat → Nat

/-- Ladder parameters of a die node (R333, "factory values"): RTH1 to RTH3 in 0.01 K/W and CTH1 to CTH3 in mJ/K, numbered
0 to 5, one less than each value (log entry 5). -/
opaque Config.dieLadder : Nat → Nat → Nat

/-- The internal NTC bias resistance within its range, 9.95 to 10.05 kOhm: 0.1 Ohm above 9.95 kOhm, modulo 1001
(chapter 18; log entry 10). -/
opaque Config.ntcBias : Nat

end Sys2Proof
end

