-- ==== Sys2Proof/Machine/State.lean ====
section
/-! DEFINITION. The state of the Z1236 as plain data: the register file, the protection set, and for each block what
the spec gives it beside its registers; the queue of waiting commands; faults and refusals; the state after reset. -/

namespace Sys2Proof.Machine

/-! ## Device, supplies, loader, tide -/

/-- Device states (R61). -/
inductive DevMode | unpowered | reset | loading | service | sleep
deriving DecidableEq, Repr

/-- Steps of sleep entry (R96): berths stopping (2), tenders stopping (3), flush and save (4). -/
inductive SleepStep | none | berths | tenders | save
deriving DecidableEq, Repr

/-- Device-wide state outside the registers. -/
structure DevSt where
  mode : DevMode := .loading
  /-- VIO within its range (R78). -/
  vioOk : Bool := true
  /-- Present pin levels (R62, GLB_PINLVL). -/
  pins : Pins := { compat := false, testen := false, wake := false, tripnN := true, tripnS := true }
  /-- Mooring bypass open (R71). -/
  bypassOpen : Bool := false
  /-- An uncleared fault at the point of no return (R98). -/
  sleepLatch : Bool := false
  /-- PWR_WAKECFG as the wake detectors hold it, from the point of no return to the release of the wake's reset (R96, R97). -/
  wakeCfg : Option Word := none
  /-- Tide time of the latest host frame (R427). -/
  frameAt : Nat := 0
  /-- The sag policy is running (R90, R92). -/
  sagRun : Bool := false
  /-- Its flush is outstanding (R90 step 3). -/
  sagFlush : Bool := false
  /-- Its thermal save is outstanding (R90 step 4). -/
  sagSave : Bool := false
  /-- Berths held stopped by the sag policy (R90 to R92). -/
  sagHeld : BitVec 12 := 0
  /-- Sleep entry (R96). -/
  sleep : SleepStep := .none
deriving DecidableEq, Repr

/-- Declaration of a berth (R112). -/
structure BerthDecl where
  qg : Nat
  fmax : Nat
  rg : Nat
deriving DecidableEq, Repr

/-- Declaration of a tender (R113). -/
structure TenderDecl where
  qg : Nat
  fsw : Nat
deriving DecidableEq, Repr

/-- Declaration of a select (R111). -/
structure SelDecl where
  kind : Nat
  sizeLog2 : Nat
deriving DecidableEq, Repr

/-- The declaration blocks of a manifest (R111 to R116). -/
structure Decl where
  vgdNom : Nat := 12000
  vgdSrc : Nat := 0
  refSel : Nat := 0
  budget : Nat := 2200
  vgdWait : Nat := 1
  compat6 : Bool := false
  compatReq : Nat := 0
  sels : List SelDecl := []
  /-- By berth number; none when the section is absent. -/
  berths : List (Option BerthDecl) := []
  /-- By tender number; none when absent. -/
  tenders : List (Option TenderDecl) := []
  /-- NODE and ALIGN of the mooring section, none when absent. -/
  mooring : Option (Nat × Bool) := none
  sealed : Bool := false
  pilot : Nat := 0
deriving DecidableEq, Repr

/-- The manifest loader (chapter 4). -/
structure LoadSt where
  /-- Slots still to be tried: 0 A, 1 B, 2 Factory (R121). -/
  cands : List Nat := []
  /-- The declaration blocks in force once a manifest is committed (R123). -/
  decl : Option Decl := none
  /-- MF_KEYW0 to MF_KEYW7, low word first (R119; write-only). -/
  keyw : List Nat := List.replicate 8 0
  /-- What the loader's reads under way have brought in, oldest first (R104, R121, R545). -/
  got : List (List Nat) := []
  /-- LENGTH of the headers of slots A and B (R121). -/
  lens : List Nat := []
  /-- A read of the loader has failed (R463). -/
  lost : Bool := false
deriving DecidableEq, Repr

/-- A watch timer's run (R143 to R146): running, and the length it runs with. -/
structure WtSt where
  running : Bool := false
  len : Nat := 0
deriving DecidableEq, Repr

/-- The tide (chapter 5). -/
structure TideSt where
  /-- Tide time in tide periods, modulo 2^54 (R138). -/
  now : Nat := 0
  /-- Correction of the rate that mooring alignment has set, in 2^-16 tick per tide period (R508). -/
  corr : Int := 0
  /-- How far the tide time is past `now`, in 2^-24 tide period: what corrections and steps leave below a period (R508). -/
  phase : Nat := 0
  /-- Offset of the latest TIME frame and the tide time when it was found (R508; log entry 13). -/
  lastOfs : Option (Int × Nat) := none
  /-- Steps done in the present calibration cycle (R140). -/
  calStep : Nat := 0
  /-- Largest correction of the present cycle (R141). -/
  calMax : Nat := 0
  /-- The reference has been declared lost and has not returned (R136, R137). -/
  lost : Bool := false
  /-- Retired groups (R142). -/
  retired : List Nat := []
  wt : List WtSt := List.replicate 24 {}
deriving DecidableEq, Repr

/-! ## Berths -/

/-- The nine PWM shadows as values in force (R153), in counts and ticks. -/
structure Force where
  per : Nat := 0x32000
  on : Tri Nat := Tri.all 0
  off : Tri Nat := Tri.all 0
  dt : Nat := 0x400
  ofs : Nat := 0
  sampt : Nat := 0x19000
deriving DecidableEq, Repr

/-- Run state of a period counter (R159, R160). -/
inductive PwmRun | off | waiting | running | stretch
deriving DecidableEq, Repr

/-- A blanking window (R167, R168): its end and the latest end of its run, in ticks. -/
structure BlankWin where
  stop : Nat
  cap : Nat
deriving DecidableEq, Repr

/-- PWM unit of a berth (chapter 5). -/
structure PwmSt where
  run : PwmRun := .off
  /-- Count of the latest counter event. -/
  cnt : Nat := 0
  /-- Tick at which the present period began. -/
  perStart : Nat := 0
  /-- Pending marks (R153): bit i for the shadow at +0x001 + i, bit 9 for BS_SAMPT. -/
  pend : BitVec 10 := 0
  /-- Values in force in the present period: those of the last load, taken at the boundary (R154). -/
  force : Force := {}
  /-- The active BS_SAMPT (R218). -/
  sampt : Nat := 0x19000
  /-- Ticks of the realign stretch to insert at the next boundary (R160). -/
  stretch : Nat := 0
  /-- Open blanking window. -/
  blank : Option BlankWin := none
  /-- Tick since which the TRIPN pin has been watched outside a window (R168). -/
  watch : Nat := 0
  /-- Aligned boundaries, or periods, since the last sampled one (R219, R220). -/
  divCnt : Nat := 0
  /-- Tick of the latest event of the unit, and of the debug halt in force (R173). -/
  at_ : Nat := 0
  haltAt : Nat := 0
  /-- The latest unbroken run of guards after commanded edges: its start and its end (R221). -/
  guard : Option (Nat × Nat) := none
  /-- Period start and programmed instant of a sample that is postponed past the end of its period (R221). -/
  late : Option (Nat × Nat) := none
  /-- Programmed instant of the latest sample (R218), and the tick from which DIV counts while EN is 0 (R219, R220). -/
  sampAt : Option Nat := none
  divAt : Nat := 0
  /-- A countersigned BG_SCTHR that waits for the berth's next boundary: the tick of its application, or of a clear of EN
  after it, and the threshold in force until then (R534). -/
  scFrom : Option Nat := none
  scOld : Nat := 0
deriving DecidableEq, Repr

/-- One half-bridge (chapters 5 and 6). -/
structure Leg where
  /-- High-side command h of R148. -/
  h : Bool := false
  /-- Gate output levels: on or off. -/
  hi : Bool := false
  lo : Bool := false
  /-- Ticks at which h last changed, and at which the gate outputs last turned off (none: longer ago than any dead time),
  and of the trip in force: the instants from which dead times count (R150, R162, R163, R165). -/
  hAt : Option Nat := none
  hiOff : Option Nat := none
  loOff : Option Nat := none
  tripAt : Option Nat := none
  /-- Levels held at the debug halt (R172 row 3). -/
  heldHi : Bool := false
  heldLo : Bool := false
  /-- Held off by a short-circuit turn-off (BG_HELD.SCOFF, R200). -/
  scHi : Bool := false
  scLo : Bool := false
  /-- High side held off by its bootstrap (BG_HELD.BSOFF, R193). -/
  bsHi : Bool := false
  /-- Held off by the interlock (R198). -/
  ilkHi : Bool := false
  ilkLo : Bool := false
  /-- The command pair has not yet been free of conflict for DT ticks (R198). -/
  ilkBusy : Bool := false
  /-- Held off by the strip's VGD undervoltage (R207). -/
  vgdHi : Bool := false
  vgdLo : Bool := false
  /-- The bootstrap is above its rising threshold (R193). -/
  bsOk : Bool := false
  /-- The high side has turned on since the first gate release; its first turn-on is withheld (R195). -/
  bsFirst : Bool := false
  bsWait : Bool := false
  /-- Short-circuit blanking window open (R202). -/
  scBlank : Bool := false
  /-- Tick of the latest short-circuit detection (R232). -/
  scAt : Option Nat := none
  /-- Tick at which the low side last turned on. -/
  loOnAt : Nat := 0
  /-- Periods since the low side last conducted for WIDTH consecutive ticks (R191). -/
  quiet : Nat := 0
  /-- This period carries a refresh (R191). -/
  refresh : Bool := false
deriving DecidableEq, Repr

/-- Sensing of a berth (chapter 7). -/
structure SensSt where
  /-- Consecutive sum errors (R233). -/
  sumCnt : Nat := 0
  /-- Consecutive samples at the raw limit per current channel (R232). -/
  limI : Tri Nat := Tri.all 0
  /-- Consecutive samples beyond BS_VBUS + 3.0 V per voltage channel (R237). -/
  limV : Tri Nat := Tri.all 0
  /-- Open-phase accumulators in code times tide periods (R239). -/
  q : Tri Nat := Tri.all 0
  /-- Phase references in codes carried by the last accepted package (R257). -/
  rp : Tri Int := Tri.all 0
  /-- Tide time of the latest sample (R239). -/
  last : Nat := 0
  /-- A sample is held and its conversions run (R217). -/
  held : Bool := false
  /-- Tide time and postponement of the held sample (R221), and its load points to the target (R258). -/
  heldAt : Nat := 0
  delay : Nat := 0
  target : Nat := 0
  /-- Tick of the target load point (R244), the bus result copied at the sample instant (R226), and start and end of the
  period in which the sample was taken (R232). -/
  due : Nat := 0
  heldBus : Int := 0
  heldPer : Nat × Nat := (0, 0)
deriving DecidableEq, Repr

/-- A compare pair set and the other contents of a package (R258). -/
structure Pkg where
  on : Tri Nat
  off : Tri Nat
  /-- BP_PERIOD when PAIRED (R256). -/
  per : Option Nat
  rp : Tri Int
deriving DecidableEq, Repr

/-- Control state of a berth that the parameter RAM holds between tokens (chapters 8 and 9). -/
structure Ctl where
  xd : Int := 0
  xq : Int := 0
  xs : Int := 0
  imag : Int := 0
  slim : Bool := false
  /-- wref of the latest update (R251, R301). -/
  wref : Int := 0
  /-- Updates since the speed loop ran (R251 step 6). -/
  sdiv : Nat := 0
  fwang : Int := 0
  lsid : Int := 0
  lsang : Int := 0
  /-- Observer: flux states, tracked angle, speed, tracking error, observer angle, flux magnitude (R275). -/
  xa : Int := 0
  xb : Int := 0
  theta : Nat := 0
  omega : Int := 0
  terr : Int := 0
  tho : Nat := 0
  fm : Nat := 0
  /-- id, iq, valpha and vbeta of the previous update. -/
  idPrev : Int := 0
  iqPrev : Int := 0
  vaPrev : Int := 0
  vbPrev : Int := 0
  /-- Angle in use at the previous update. -/
  thPrev : Nat := 0
  /-- Tide time of the previous update. -/
  last : Nat := 0
  /-- Injection (R279): update count modulo 8, demodulation sums (Q4.32) of the stationary frame or of the d-axis response
  (R281), and of the q-axis response. -/
  k8 : Nat := 0
  h1 : Int := 0
  h2 : Int := 0
  hq : Int := 0
  /-- Position of R303 in 2^-18 revolutions, signed. -/
  pos : Int := 0
  /-- Ledger remainders (R269) of BL_EIN, BL_EREG, BL_EOUT in their own fixed-point units, and tide periods of the
  present run-time second. -/
  remIn : Nat := 0
  remReg : Nat := 0
  remOut : Nat := 0
  remRun : Nat := 0
  /-- Tide periods for which these have held without a break: the lost-rotor condition (R298), the hand-off conditions
  (R289), |omega| below the level of R301 or R304, |vq| above SLIPV (R306). -/
  bad : Nat := 0
  agree : Nat := 0
  slow : Nat := 0
  slip : Nat := 0
deriving DecidableEq, Repr

/-- Loss search of a berth (R266 to R268). -/
structure LossSt where
  /-- Updates for which the conditions have held without a break (up to LSWIN). -/
  steady : Nat := 0
  wref : Int := 0
  th : Nat := 0
  recon : Bool := false
  div : Nat := 0
  fw : Bool := false
  /-- Updates in the present window, and whether it is the measured one. -/
  win : Nat := 0
  measure : Bool := false
  pin : Int := 0
  pout : Int := 0
  /-- Figure of merit of the previous measurement as a fraction. -/
  prev : Option (Int × Int) := none
  /-- Directions: true is upward. -/
  idUp : Bool := false
  angUp : Bool := true
  /-- Updates for which a debug halt that has ended still suspends the search (R262). -/
  pause : Nat := 0
deriving DecidableEq, Repr

/-- Accumulators of a listen (R293). -/
structure Listen where
  /-- Tide time at its start. -/
  t0 : Nat := 0
  n : Nat := 0
  prevAng : Nat := 0
  /-- Angle turned so far, signed codes. -/
  turned : Int := 0
  /-- Tide time from the first sample to the latest. -/
  span : Nat := 0
  sumMag : Int := 0
  /-- A sample at or above the WCATCH level. -/
  big : Bool := false
deriving DecidableEq, Repr

/-- The start program of a berth (R291) and the counts around it. -/
structure StartSt where
  /-- Forward is the positive direction (R291). -/
  fwd : Bool := true
  /-- Consecutive failed starts (R292). -/
  fails : Nat := 0
  /-- The 1 s after a failed start has not passed (R292). -/
  wait : Bool := false
  /-- Times of re-catch attempts, tide periods (R299). -/
  times : List Nat := []
  /-- A listen runs (R293), with its accumulators. -/
  listening : Bool := false
  listen : Listen := {}
  /-- The listen is the give-up listen of R299. -/
  giveUp : Bool := false
  /-- Tide time at which the reverse brake began, and its low-side ticks (R295). -/
  rbAt : Nat := 0
  tb : Nat := 0
  /-- Probe (R284 to R286): pulse index 0 to 11, decay running, peak of the latest pulse, normalised peaks, width in
  force, cuts and repeats used. -/
  probe : Nat := 0
  decay : Bool := false
  /-- Tide times at which the pulse and its decay began (R284). -/
  pulseAt : Nat := 0
  decayAt : Nat := 0
  peak : Option Nat := none
  peaks : List Nat := []
  clkw : Nat := 0
  cuts : Nat := 0
  misses : Nat := 0
  /-- Open loop (R288): speed, remainder below one code in 1/(2 * 10^7), imposed angle. -/
  wol : Int := 0
  wolRem : Int := 0
  thOl : Nat := 0
  /-- Tide time at which the present phase began. -/
  phAt : Nat := 0
  /-- Scan and polarity test (R281): sums of the responses, updates, polarity stage (true: -POLI), a+ . -/
  accA : Int := 0
  accB : Int := 0
  scanN : Nat := 0
  polNeg : Bool := false
  polP : Nat := 0
  /-- This start homes (R304); the end stop has been taken; when homing began. -/
  homing : Bool := false
  homeEnd : Bool := false
  /-- The 5 ms with every phase at code 3 that follow the end stop (R304). -/
  homeHold : Bool := false
  homeAt : Nat := 0
  /-- Closed loop has been reached (R290, R298, R547). -/
  closed : Bool := false
  /-- Orderly stop (R301): |omega| at entry, wref on its ramp, remainder in 1/(2 * 10^7) codes, start time; the limit
  that TH_STOPWIN puts in place of STOPMAX (R354); a stop within SEA TRIAL (R548). -/
  stopW : Nat := 0
  stopRef : Int := 0
  stopRem : Nat := 0
  stopAt : Nat := 0
  stopWin : Option Nat := none
  trialStop : Bool := false
deriving DecidableEq, Repr

/-- Demand chain of a berth (chapter 10). -/
structure DemSt where
  /-- Delivered values, latest first, at most eight (R315). -/
  vals : List Nat := []
  /-- The instant from which R319 counts fell since the latest evaluation. -/
  fresh : Bool := false
  /-- A value has been delivered since the latest evaluation (R320). -/
  got : Bool := false
  /-- Whole milliseconds since the instant from which R319 counts, at the latest evaluation. -/
  lossMs : Nat := 0
  /-- Milliseconds of the restore window, when one is open (R320). -/
  restMs : Option Nat := none
  /-- Edges on DMDn since that instant (R317). -/
  edges : Nat := 0
  /-- Level of the DMDn pin. -/
  level : Bool := false
  /-- Tick of the latest active edge, and the active time of the present period in ticks (R314). -/
  actAt : Option Nat := none
  actLen : Option Nat := none
  /-- Conversions of DMDn since the latest evaluation, in mV (R316). -/
  adc : List Nat := []
  /-- A BADPER or BAND event since the latest evaluation (R320). -/
  broken : Bool := false
  /-- A host demand written while no evaluation ran (R331). -/
  hostPend : Bool := false
  /-- BD_CTL as it was before a write of SRC, INV, STEADY or MCHAN that waits for the next evaluation (R318). -/
  old : Option Word := none
  /-- Ramp remainder in thousandths of a code (R328). -/
  rem : Nat := 0
  /-- The last target that the chain wrote to BO_PTGT (R330). -/
  lastTgt : Option Int := none
deriving DecidableEq, Repr

/-- A waiting or running token (R243). -/
structure Token where
  /-- Tick of its target load point (R244). -/
  due : Nat
  /-- Load points still to pass before and including the target (R258). -/
  target : Nat
  /-- Tide time of its sample. -/
  at_ : Nat
  /-- The result set that the berth handed over: BS_IU to BS_SINFO (R222, R227). -/
  words : List Word := []
deriving DecidableEq, Repr

/-- Everything a berth holds beside its registers. -/
structure BerthSt where
  pwm : PwmSt := {}
  legs : Tri Leg := Tri.all {}
  sens : SensSt := {}
  ctl : Ctl := {}
  loss : LossSt := {}
  start : StartSt := {}
  dem : DemSt := {}
  /-- The token waiting for a lane, and the one running in a lane, with the lane and the berth's
  BF_, BO_ and BD_ registers at the instant it entered (R243, R248). -/
  waiting : Option Token := none
  running : Option (Token × Fin 5 × List (Nat × Word)) := none
  /-- Accepted packages in a row with DIV above its manifest value (R259). -/
  accRow : Nat := 0
  /-- DIV as the manifest gave it. -/
  divMf : Nat := 0
  /-- An uncorrectable parameter error: no token until its section is reloaded (R264). -/
  noToken : Bool := false
  /-- The berth has reached DRYDOCK and the sequencer's entry actions are due (R543). -/
  dockEntry : Bool := false
deriving DecidableEq, Repr

/-- Quay logic outside the registers: bus value and chopper (R208, R226). -/
structure QuaySt where
  /-- Latest bus conversion, 0.5 mV codes. -/
  vbus : Int := 0
  /-- The 2 µs minimum time since the last change of the chopper runs (R208). -/
  minRun : Bool := false
  /-- The chopper comparator asks for the output on: above ON and not yet below ON - HYST (R208). -/
  want : Bool := false
deriving DecidableEq, Repr

/-! ## Tenders -/

/-- What a tender holds beside its registers (chapter 12). -/
structure TenderSt where
  /-- PERIOD and OFS in force (R364), ticks; tick of the latest write of either; the first boundary under new values. -/
  per : Nat := 0x1400
  ofs : Nat := 0
  timAt : Nat := 0
  due : Option Nat := none
  /-- Reference in force in mV (R368), its value where the present ramp began, and the tide time of that instant. -/
  vr : Nat := 0
  vr0 : Nat := 0
  rampAt : Nat := 0
  /-- Compensator history u(k-1), u(k-2), e(k-1), e(k-2) (R369). -/
  u1 : Int := 0
  u2 : Int := 0
  e1 : Int := 0
  e2 : Int := 0
  /-- On-times in ticks of the present period, up to where the current limit ended its pulse (R373), and of the next two
  (R369, R370). -/
  cur : Nat := 0
  next1 : Nat := 0
  next2 : Nat := 0
  /-- Gate outputs. -/
  hi : Bool := false
  lo : Bool := false
  /-- Tick at which the present period began. -/
  at0 : Nat := 0
  /-- Ticks for which the high and the low side conduct in the present period (R385). -/
  hiT : Nat := 0
  lowT : Nat := 0
  /-- The low side stays off for the rest of the period (R371). -/
  zc : Bool := false
  /-- The interlock holds both sides off for the rest of the period; the conflict has not ended (R198, R366). -/
  ilk : Bool := false
  ilkBusy : Bool := false
  /-- The high side is held off by the output overvoltage (R381). -/
  ov : Bool := false
  /-- Latest sampled output in µV (R367). -/
  vfb : Int := 0
  /-- Tide time at which the limit time began, and periods since without a limited pulse (R374). -/
  limAt : Option Nat := none
  clean : Nat := 0
  /-- A stop request deferred by the sag policy (R379). -/
  deferred : Bool := false
  /-- A thermal stop with THRST 1 waits for its TH_STOPM bit to clear (R386). -/
  thWait : Bool := false
  /-- Sleep entry has stopped the tender (R96, R97). -/
  slept : Bool := false
  /-- A DOCK waits for the end of the stop (R550). -/
  dockWait : Bool := false
deriving DecidableEq, Repr

/-! ## Thermal model -/

/-- One node of the thermal model (R333, R334). Temperatures are codes of R13. -/
structure Node where
  t1 : Int := 0
  t2 : Int := 0
  t3 : Int := 0
  /-- Mean power of the latest update, µW. -/
  p : Nat := 0
  /-- t1 of the latest 100 updates, newest first. -/
  hist : List Int := []
  warn : Bool := false
  byRate : Bool := false
  stop : Bool := false
deriving DecidableEq, Repr

/-- Throttling of one unit (R351, R352). -/
structure UnitTh where
  step : Nat := 0
  /-- Milliseconds since its last step; none before the first. -/
  since : Option Nat := none
  /-- Milliseconds of unbroken restore time (R352); none while it does not run. -/
  rest : Option Nat := none
  /-- It has requested a round, and the sensors whose results are still awaited. -/
  asked : Bool := false
  need : BitVec 10 := 0
deriving DecidableEq, Repr

/-- A sensor's result that waits for its use (R337, R340): sensor, temperature code, the board reference of its quay held before
its round, and that round. -/
structure UsedRes where
  k : Nat
  code : Int
  ref : Int
  round : Nat
deriving DecidableEq, Repr

/-- The thermal model (chapter 11). -/
structure ThermSt where
  /-- The model has started (R334, R346). -/
  started : Bool := false
  nodes : List Node := List.replicate 85 {}
  /-- FET power sums in µW and token counts since the latest update, nodes 0 to 77 (R336). -/
  acc : List (Nat × Nat) := List.replicate 78 (0, 0)
  units : List UnitTh := List.replicate 15 {}
  /-- Sensors requested for the next round, and those of the running one (R337), as 10-bit masks. -/
  req : BitVec 10 := 0
  /-- Readmitted sensors, which join the next round (R344). -/
  join : BitVec 10 := 0
  run : BitVec 10 := 0
  /-- Results to be used at the next update, oldest first. -/
  used : List UsedRes := []
  /-- Rounds begun, and the board references North and South held before the latest (R340). -/
  rounds : Nat := 0
  runRef : Int × Int := (0, 0)
  /-- Sensors converted in rounds that have ended since the latest update. -/
  done : BitVec 10 := 0
  /-- The round requested by the commit has not ended yet (R346). -/
  first : Bool := false
  /-- Uncertainty of each sensor in 1/16000 of a code of R13 (R341). -/
  unc : List Nat := List.replicate 10 0
  /-- Measured board references in R13 codes (R340). -/
  refN : Option Int := none
  refS : Option Int := none
  /-- Asserted junction comparators (R357). -/
  comps : BitVec 6 := 0
  /-- The saved model state that the logbook offers (R346). -/
  saved : Option ThermalCopy := none
  /-- The orderly thermal stop of the tender that supplies VGD waits for the berths (R356). -/
  waitStop : Bool := false
deriving DecidableEq, Repr

/-! ## Collector -/

/-- An event as its detector raises it (R388, R389, R406). -/
structure Event where
  src : Nat
  affected : BitVec 12
  /-- Forced reaction (R398) and the berths that it names (0: none). -/
  forced : Nat := 0
  fscope : BitVec 12 := 0
  master : Nat := 0
  acc : Nat := 7
  kind : Nat := 0
  adr : Nat := 0
  ts : Nat := 0
deriving DecidableEq, Repr

/-- A pending source with the severity and reaction it holds (R399). -/
structure Pend where
  src : Nat
  sev : Nat
  /-- Reaction of the map, on the affected berths; forced reaction, on the berths it names. -/
  react : Nat
  affected : BitVec 12
  forced : Nat
  fscope : BitVec 12
deriving DecidableEq, Repr

/-- The first-error record while it is HELD (R405 to R409). -/
structure FirstErr where
  ev : Event
  sev : Nat
  merged : List Nat := []
  count : Nat := 0
deriving DecidableEq, Repr

/-- The fault collector (chapter 13). -/
structure CollSt where
  /-- Pairs in (1,0) that no decision has taken yet, one per source (R389). -/
  raised : List Event := []
  /-- Pending sources, rising by source ID. -/
  pend : List Pend := []
  /-- Broken pairs, rising (R390). -/
  broken : List Nat := []
  /-- Broken safe-state lines (R391). -/
  brokenL : BitVec 12 := 0
  /-- Safe-state lines that the factory facility drives into (1,0), and into (0,1) (R414). -/
  driven : BitVec 12 := 0
  idleL : BitVec 12 := 0
  /-- Source pairs that the factory facility holds in (0,1), rising (R414). -/
  idle : List Nat := []
  /-- FC_EVCNT, modulo 2^36. -/
  evcnt : Nat := 0
  first : Option FirstErr := none
deriving DecidableEq, Repr

/-! ## Host port -/

/-- Progress of a host entry (R434 to R438). -/
inductive EntryPhase | waiting | running | done
deriving DecidableEq, Repr

/-- A host entry (R428 to R443). -/
structure HEntry where
  /-- 0 WRITE, 1 READ, 2 BARRIER, 3 FENCEREL. -/
  kind : Nat
  tag : Nat
  /-- 0 to 14; 15 for a BARRIER. -/
  stream : Nat
  addr : Nat
  count : Nat
  data : List Word := []
  phase : EntryPhase := .waiting
  status : Nat := 0
  /-- Data words that its response carries. -/
  reads : List Word := []
  /-- Address to record when its failure fences the stream (R436). -/
  failAdr : Nat := 0
  /-- Response words delivered, and released (R446). -/
  sent : Nat := 0
  released : Nat := 0
deriving DecidableEq, Repr

/-- The block that FETCH keeps (R446): its COUNT, status word and words. -/
structure FetchBlock where
  count : Nat
  status : Nat
  words : List Nat
deriving DecidableEq, Repr

/-- The host port beside its registers (chapter 14). -/
structure HostSt where
  lastSeq : Nat := 3
  blk : Bool := false
  /-- A frame has been rejected since the last accepted FETCH with REPEAT 0 (R445). -/
  rej : Bool := false
  fenced : BitVec 15 := 0
  held : BitVec 12 := 0
  /-- Issue order, oldest first. -/
  queue : List HEntry := []
  block : Option FetchBlock := none
deriving DecidableEq, Repr

/-! ## Memory port and logbook -/

/-- What an entry of the memory port is part of. -/
inductive MemJob | host | page | prepare | thermal | thErase | param | loader | reload | head | sector | thRead | parRead
deriving DecidableEq, Repr

/-- An entry of the memory port (R459). -/
structure MemEntry where
  job : MemJob
  sel : Nat
  wlen : Nat := 8
  hold : Bool := true
  out : List Nat := []
  nin : Nat := 0
  /-- MASK, MATCH and POLLT in ms. -/
  poll : Option (Nat × Nat × Nat) := none
  /-- Byte address of a logbook entry (R463). -/
  adr : Nat := 0
  /-- On the wire; in the 5 µs between two runs of a poll; has been on the wire. -/
  wire : Bool := false
  between : Bool := false
  ran : Bool := false
deriving DecidableEq, Repr

/-- A journal record as it waits in the buffer (R467): TYPE, FLAGS and the payload bytes. -/
structure LogRec where
  typ : Nat
  flags : Nat := 0
  pay : List Nat
deriving DecidableEq, Repr

/-- Preparation of the next sector (R471). -/
inductive Prep | none | verify | erase | again
deriving DecidableEq, Repr

/-- The trace unit (R476, R477). -/
structure TraceSt where
  /-- Samples, newest first, with the tide times of their tokens. -/
  samples : List Word := []
  times : List Nat := []
  /-- The trigger: its TS and SRC (0xFF for the host). -/
  trig : Option (Nat × Nat) := none
  /-- Samples per channel still to be recorded after the trigger. -/
  left : Nat := 0
  /-- The burst is frozen; its records that have not entered the buffer yet. -/
  frozen : Bool := false
  burst : List LogRec := []
deriving DecidableEq, Repr

/-- One sector of the parameter area as a mount reads it (R479): SSEQ of a valid header, slots 1 to 63, and its parameter
records as RSEQ, berth, BF_LSID and BF_LSANG. -/
structure ParSector where
  sseq : Option Nat
  slots : List SlotRead
  recs : List (Nat × Nat × Word × Word)
deriving DecidableEq, Repr

/-- What the reads of a mount have brought in (R474, R478, R479). -/
structure MountSt where
  /-- Per journal sector SSEQ and ERASES of a valid header. -/
  heads : List (Option (Nat × Nat)) := []
  /-- Slots 1 to 63 of the current sector. -/
  slots : List SlotRead := []
  /-- GEN of each thermal copy that is valid. -/
  copies : List (Option Nat) := []
  pars : List ParSector := []
  /-- A header slot was neither blank nor valid (R475). -/
  bad : Bool := false
  /-- A read failed (R481). -/
  lost : Bool := false
deriving DecidableEq, Repr

/-- The logbook beside its registers (chapter 15). -/
structure LogSt where
  /-- Records that wait, oldest first (R470). -/
  buf : List LogRec := []
  /-- Records at the front whose page is being programmed. -/
  prog : Nat := 0
  /-- A flush runs (R473). -/
  flush : Bool := false
  /-- LOG_CTL.EN was cleared, or the port was docked, with a program in flight (R474, R480). -/
  off : Bool := false
  /-- Sector and slot at which the next record is written, SSEQ of that sector. -/
  sector : Nat := 0
  slot : Nat := 0
  sseq : Nat := 0
  /-- The current sector is prepared; so is the next; a preparation in progress; sectors skipped until reset (R471). -/
  cur : Bool := true
  ready : Bool := false
  prep : Prep := .none
  /-- Whether the latest read of the sector in preparation found it blank, once that read is in (R471). -/
  seen : Option Bool := none
  skipped : List Nat := []
  /-- ERASES of each sector, as read at the mount and counted since. -/
  erases : List (Nat × Nat) := []
  /-- Highest ERASES found at the mount (R471). -/
  wear : Nat := 0
  /-- Records dropped since the last LOSS marker (R472). -/
  lost : Nat := 0
  /-- GEN of the newest thermal copy, and the sector that holds it (R478). -/
  thGen : Nat := 0
  thSect : Nat := 1
  /-- Parameter area (R479): sector and slot of the next record, SSEQ of that sector, next RSEQ. -/
  parSect : Nat := 0
  parSlot : Nat := 0
  parSseq : Nat := 0
  parRseq : Nat := 0
  /-- BF_LSID and BF_LSANG from which each berth's search started, once they have been seeded (R479). -/
  parStart : Option (List (Word × Word)) := none
  /-- STATE before the memory port was docked. -/
  before : Nat := 0
  trace : TraceSt := {}
  mount : MountSt := {}
deriving DecidableEq, Repr

/-- The memory port beside its registers. -/
structure MemSt where
  queue : List MemEntry := []
  /-- Entries of internal masters that wait before the queue (R461). -/
  wait : List MemEntry := []
  /-- The memory port is docked (R480). -/
  docked : Bool := false
  log : LogSt := {}
deriving DecidableEq, Repr

/-! ## Mooring link -/

/-- The part a device plays in the ring (R495, R496). -/
inductive Role | repeater | provisional | anchor
deriving DecidableEq, Repr

/-- Rank of a device (R496). -/
structure Rank where
  timeok : Bool
  apri : Nat
  uid : Nat
deriving DecidableEq, Repr

/-- The mooring link beside its registers (chapter 16). -/
structure MoorSt where
  role : Role := .repeater
  /-- An anchor that has heard a higher CLAIM: it becomes a repeater at its next slot boundary (R496). -/
  yields : Bool := false
  /-- Own frames that wait, oldest first. -/
  out : List MFrame := []
  /-- The own frame in flight (R492). -/
  flight : Option MFrame := none
  /-- The slot that the device sent latest on port B, or its latest turn (R487, R502). -/
  sent : Option MSlot := none
  /-- Relayed frames, then own frames, that wait to leave port A and port B in CHAIN mode (R503). -/
  outA : List MFrame := []
  outB : List MFrame := []
  ownA : List MFrame := []
  ownB : List MFrame := []
  /-- HEAL frames, wake bursts, and echo bursts on port A (R506) sent. -/
  sentHeal : Nat := 0
  sentWake : Nat := 0
  sentEcho : Nat := 0
  /-- The next slot sent carries E (R506). -/
  echo : Bool := false
  /-- Rank in the anchor's last CLAIM. -/
  anchorRank : Option Rank := none
  /-- Tide time since which ALIGNED has been 1. -/
  alignedAt : Option Nat := none
  /-- A fixed device in conflict originates ANNOUNCE only (R500). -/
  mute : Bool := false
  /-- PROBE frames heard in a row (R504). -/
  probes : Nat := 0
  /-- Switch time of a RING frame (R504). -/
  ringAt : Option Nat := none
  /-- Docked ports A and B. -/
  dockA : Bool := false
  dockB : Bool := false
  /-- Tide times of check errors within 100 ms (R505). -/
  errs : List Nat := []
  /-- TIME frames in a row beyond, and within, ML_ALIGNLIM (R510); the level of source 0x2B. -/
  farRun : Nat := 0
  nearRun : Nat := 0
  far : Bool := false
  /-- FAULT frames already taken: SRC, source ID, TS (R517). -/
  taken : List (Nat × Nat × Nat) := []
  /-- Tide time of the latest FAULT pair per source ID (R516), and copies due. -/
  lastFault : List (Nat × Nat) := []
  copies : List MFrame := []
  /-- Sums of the berths' energies, and the tide time, at the previous summary (R519). -/
  sums : Nat × Nat × Nat := (0, 0, 0)
  ledAt : Nat := 0
deriving DecidableEq, Repr

/-! ## Countersign and drydock -/

/-- Countersign beside its registers (chapter 17). -/
structure CsSt where
  /-- Tide time of acceptance, and of confirmation. -/
  at_ : Nat := 0
  /-- Proposal number of the last SENDPROP (R539). -/
  txPid : Nat := 127
  /-- Receive buffer (R538): its PID, the tide time of its first RECORDS frame, and records by index. -/
  bufPid : Option Nat := none
  bufAt : Nat := 0
  buf : List (Nat × Nat × Word) := []
deriving DecidableEq, Repr

/-- Drydock beside its registers. -/
structure DockSt where
  /-- Self-tests in progress; the reload in progress with its slot. -/
  selftests : List Part := []
  reload : Option (Part × Nat) := none
  /-- Berths whose offset calibration of R543 waits until no switch is on. -/
  cal : BitVec 12 := 0
  /-- Lanes whose UNDOCK runs the lane self-test (R549), and lanes that are swapped out after their token (R264). -/
  undock : BitVec 5 := 0
  swap : BitVec 5 := 0
deriving DecidableEq, Repr

/-! ## The whole machine -/

/-- A read snapshot (R42, R43): the lowest address of the value and the copied upper words. -/
structure Snap where
  base : Nat
  upper : List Word
deriving DecidableEq, Repr

/-- A pending multi-word write (R45): the lowest address of the value and the words written so far. -/
structure WBuf where
  base : Nat
  words : List (Nat × Word)
deriving DecidableEq, Repr

/-- Per-master access state (R42 to R45). -/
structure AccessSt where
  snaps : List (Nat × Snap) := []
  wbufs : List (Nat × WBuf) := []
deriving DecidableEq, Repr

/-- The state of the machine. -/
structure State where
  /-- Every register outside the protection set: rising addresses, no entry equal to its reset value. -/
  regs : List (Nat × Word)
  /-- The protection set (R523) in the same form. -/
  prot : List (Nat × Word)
  /-- The one-time manifest key (R118); none while the store is blank. -/
  key : Option (BitVec 128)
  dev : DevSt
  load : LoadSt
  tide : TideSt
  berths : Vector BerthSt 12
  north : QuaySt
  south : QuaySt
  tenders : Vector TenderSt 3
  /-- Tender strip undervoltage (R362). -/
  stripUv : Bool
  therm : ThermSt
  coll : CollSt
  host : HostSt
  mem : MemSt
  moor : MoorSt
  cs : CsSt
  dock : DockSt
  access : AccessSt
  /-- MODEL'S OWN: how many free values have been used. -/
  free : Nat
  /-- The commands that wait, first in, first out. -/
  pending : List Instr
deriving DecidableEq, Repr

/-- Why a step faults: no command of this block ends in a fault. The type has no constructor. -/
inductive Fault
deriving DecidableEq, Repr

/-- Why a step is refused. -/
inductive Refusal
  /-- Raised by the arm of a command that has no meaning yet. Safe. -/
  | notModelled (mnemonic : String)
deriving DecidableEq, Repr

/-- Every piece of state that a reset returns to its reset value (R9, R84), in loading; the one-time key, the pins and
the free-value counter are not among it. -/
def State.cleared : State :=
  { regs := [], prot := [], key := none, dev := {}, load := {}, tide := {}, berths := Vector.replicate 12 {},
    north := {}, south := {}, tenders := Vector.replicate 3 {}, stripUv := false, therm := {}, coll := {}, host := {}, mem := {}, moor := {}, cs := {}, dock := {}, access := {}, free := 0, pending := [] }

/-- The machine right after the release of a power-on reset (R81, R84): loading, POR recorded, the one-time store
blank, the pins at the levels of `DevSt`. -/
def State.reset : State := { State.cleared with regs := [(0x0102, 1)] }

end Sys2Proof.Machine
end

