-- ==== Sys2Proof/Machine/Bits.lean ====
section
/-! DEFINITION. Words and fields (R4, R5), the sparse register lists, and reading and writing registers and fields of
the device, a berth or a tender. -/

namespace Sys2Proof.Machine

/-- Bits `hi` to `lo` of a word. -/
def bits (w : Word) (hi lo : Nat) : Nat := w.toNat / 2 ^ lo % 2 ^ (hi + 1 - lo)

/-- A word with bits `hi` to `lo` replaced by `v`. -/
def putBits (w : Word) (hi lo v : Nat) : Word :=
  BitVec.ofNat 18 (w.toNat - bits w hi lo * 2 ^ lo + v % 2 ^ (hi + 1 - lo) * 2 ^ lo)

/-- Two's-complement value of a word. -/
def sgn (w : Word) : Int := w.toInt
/-- The word of an integer, modulo 2^18. -/
def wd (x : Int) : Word := BitVec.ofInt 18 x
/-- 1 or 0. -/
def b2n (b : Bool) : Nat := if b then 1 else 0

/-- The value a sparse register list gives address `a`: its entry, else the reset value. -/
def look : List (Nat × Word) → Nat → Word
  | [], a => resetWord a
  | (b, w) :: r, a => if a = b then w else look r a

/-- Insert an entry before the first larger address. -/
def insertReg : List (Nat × Word) → Nat → Word → List (Nat × Word)
  | [], a, w => [(a, w)]
  | (b, x) :: r, a, w => if a < b then (a, w) :: (b, x) :: r else (b, x) :: insertReg r a w

/-- Drop every entry of an address. -/
def dropReg (m : List (Nat × Word)) (a : Nat) : List (Nat × Word) := m.filter fun p => p.1 != a

/-- Write a register in a sparse list; writing the reset value removes the entry. -/
def store (m : List (Nat × Word)) (a : Nat) (w : Word) : List (Nat × Word) :=
  if w = resetWord a then dropReg m a else insertReg (dropReg m a) a w

/-- The canonical form: addresses strictly rising, no entry equal to its reset value. -/
def regsWf (m : List (Nat × Word)) : Bool :=
  decide (m.Pairwise fun p q => p.1 < q.1) && m.all fun p => p.2 != resetWord p.1

/-- The word of a register outside the protection set. -/
def State.rd (s : State) (a : Nat) : Word := look s.regs a
/-- Write a whole register outside the protection set, reserved bits included as given. -/
def State.wr (s : State) (a : Nat) (w : Word) : State := { s with regs := store s.regs a w }
/-- Bits `hi` to `lo` of a register. -/
def State.get (s : State) (a hi lo : Nat) : Nat := bits (s.rd a) hi lo
/-- Replace bits `hi` to `lo` of a register. -/
def State.put (s : State) (a hi lo v : Nat) : State := s.wr a (putBits (s.rd a) hi lo v)
/-- One bit. -/
def State.flag (s : State) (a b : Nat) : Bool := s.get a b b == 1
/-- Set one bit. -/
def State.setb (s : State) (a b : Nat) : State := s.put a b b 1
/-- Clear one bit. -/
def State.clrb (s : State) (a b : Nat) : State := s.put a b b 0
/-- Give one bit a value. -/
def State.putb (s : State) (a b : Nat) (v : Bool) : State := s.put a b b (b2n v)
/-- Write a list of registers, first to last. -/
def State.wrs (s : State) (l : List (Nat × Word)) : State := l.foldl (fun s p => s.wr p.1 p.2) s

/-- Word of a register of berth `n`. -/
def State.brd (s : State) (n : Berth) (o : Nat) : Word := s.rd (ba n o)
/-- Bits of a register of berth `n`. -/
def State.bget (s : State) (n : Berth) (o hi lo : Nat) : Nat := s.get (ba n o) hi lo
/-- Write bits of a register of berth `n`. -/
def State.bput (s : State) (n : Berth) (o hi lo v : Nat) : State := s.put (ba n o) hi lo v
/-- One bit of a register of berth `n`. -/
def State.bflag (s : State) (n : Berth) (o b : Nat) : Bool := s.flag (ba n o) b
/-- Set one bit of a register of berth `n`. -/
def State.bset (s : State) (n : Berth) (o b : Nat) : State := s.setb (ba n o) b
/-- Clear one bit of a register of berth `n`. -/
def State.bclr (s : State) (n : Berth) (o b : Nat) : State := s.clrb (ba n o) b
/-- Give one bit of a register of berth `n` a value. -/
def State.bputb (s : State) (n : Berth) (o b : Nat) (v : Bool) : State := s.putb (ba n o) b v
/-- Unsigned value of a whole register of berth `n`. -/
def State.bnat (s : State) (n : Berth) (o : Nat) : Nat := (s.brd n o).toNat
/-- Signed value of a whole register of berth `n`. -/
def State.bint (s : State) (n : Berth) (o : Nat) : Int := sgn (s.brd n o)
/-- Write a whole register of berth `n`. -/
def State.bwr (s : State) (n : Berth) (o : Nat) (w : Word) : State := s.wr (ba n o) w

/-- Word of a register of tender `t`. -/
def State.trd (s : State) (t : Tender) (o : Nat) : Word := s.rd (ta t o)
/-- Bits of a register of tender `t`. -/
def State.tget (s : State) (t : Tender) (o hi lo : Nat) : Nat := s.get (ta t o) hi lo
/-- Write bits of a register of tender `t`. -/
def State.tput (s : State) (t : Tender) (o hi lo v : Nat) : State := s.put (ta t o) hi lo v
/-- One bit of a register of tender `t`. -/
def State.tflag (s : State) (t : Tender) (o b : Nat) : Bool := s.flag (ta t o) b
/-- Give one bit of a register of tender `t` a value. -/
def State.tputb (s : State) (t : Tender) (o b : Nat) (v : Bool) : State := s.putb (ta t o) b v
/-- Write a whole register of tender `t`. -/
def State.twr (s : State) (t : Tender) (o : Nat) (w : Word) : State := s.wr (ta t o) w

/-- Word of a protection-set register (R523). -/
def State.prd (s : State) (a : Nat) : Word := look s.prot a
/-- Bits of a protection-set register. -/
def State.pget (s : State) (a hi lo : Nat) : Nat := bits (s.prd a) hi lo
/-- One bit of a protection-set register. -/
def State.pflag (s : State) (a b : Nat) : Bool := s.pget a b b == 1
/-- Write a protection-set register: only the loader, a countersign application and a reset do so (R524). -/
def State.pwr (s : State) (a : Nat) (w : Word) : State := { s with prot := store s.prot a w }

/-- The stored word of any register. -/
def State.word (s : State) (a : Nat) : Word := if isProt a then s.prd a else s.rd a

/-! ### Sub-states -/

/-- The sub-state of berth `n`. -/
def State.berth (s : State) (n : Berth) : BerthSt := s.berths.get n
/-- Change the sub-state of berth `n`. -/
def State.modBerth (s : State) (n : Berth) (f : BerthSt → BerthSt) : State :=
  { s with berths := s.berths.set n (f (s.berth n)) }
/-- Change the PWM unit of berth `n`. -/
def State.modPwm (s : State) (n : Berth) (f : PwmSt → PwmSt) : State :=
  s.modBerth n fun b => { b with pwm := f b.pwm }
/-- Half-bridge `p` of berth `n`. -/
def State.leg (s : State) (n : Berth) (p : Phase) : Leg := (s.berth n).legs.get p
/-- Change half-bridge `p` of berth `n`. -/
def State.modLeg (s : State) (n : Berth) (p : Phase) (f : Leg → Leg) : State :=
  s.modBerth n fun b => { b with legs := b.legs.mod p f }
/-- Change the sensing sub-state of berth `n`. -/
def State.modSens (s : State) (n : Berth) (f : SensSt → SensSt) : State :=
  s.modBerth n fun b => { b with sens := f b.sens }
/-- Change the control state of berth `n`. -/
def State.modCtl (s : State) (n : Berth) (f : Ctl → Ctl) : State :=
  s.modBerth n fun b => { b with ctl := f b.ctl }
/-- Change the start program of berth `n`. -/
def State.modStart (s : State) (n : Berth) (f : StartSt → StartSt) : State :=
  s.modBerth n fun b => { b with start := f b.start }
/-- Change the demand chain of berth `n`. -/
def State.modDem (s : State) (n : Berth) (f : DemSt → DemSt) : State :=
  s.modBerth n fun b => { b with dem := f b.dem }
/-- The sub-state of tender `t`. -/
def State.tender (s : State) (t : Tender) : TenderSt := s.tenders.get t
/-- Change the sub-state of tender `t`. -/
def State.modTender (s : State) (t : Tender) (f : TenderSt → TenderSt) : State :=
  { s with tenders := s.tenders.set t (f (s.tender t)) }
/-- The quay sub-state. -/
def State.quay (s : State) : Quay → QuaySt
  | .north => s.north | .south => s.south
/-- Change a quay sub-state. -/
def State.modQuay (s : State) (q : Quay) (f : QuaySt → QuaySt) : State :=
  match q with
  | .north => { s with north := f s.north } | .south => { s with south := f s.south }
/-- Change the device sub-state. -/
def State.modDev (s : State) (f : DevSt → DevSt) : State := { s with dev := f s.dev }
/-- Change the loader. -/
def State.modLoad (s : State) (f : LoadSt → LoadSt) : State := { s with load := f s.load }
/-- Change the tide. -/
def State.modTide (s : State) (f : TideSt → TideSt) : State := { s with tide := f s.tide }
/-- Change the thermal sub-state. -/
def State.modTherm (s : State) (f : ThermSt → ThermSt) : State := { s with therm := f s.therm }
/-- Change the collector. -/
def State.modColl (s : State) (f : CollSt → CollSt) : State := { s with coll := f s.coll }

/-- Change the host port. -/
def State.modHost (s : State) (f : HostSt → HostSt) : State := { s with host := f s.host }
/-- Change the memory port. -/
def State.modMem (s : State) (f : MemSt → MemSt) : State := { s with mem := f s.mem }
/-- Change the logbook. -/
def State.modLog (s : State) (f : LogSt → LogSt) : State := s.modMem fun m => { m with log := f m.log }
/-- Change the mooring link. -/
def State.modMoor (s : State) (f : MoorSt → MoorSt) : State := { s with moor := f s.moor }
/-- Change countersign. -/
def State.modCs (s : State) (f : CsSt → CsSt) : State := { s with cs := f s.cs }
/-- Change drydock. -/
def State.modDock (s : State) (f : DockSt → DockSt) : State := { s with dock := f s.dock }

/-- The next free value and the state after it is used. -/
def State.freeVal (s : State) : Nat := Config.free s.free
/-- Use up `k` free values. -/
def State.useFree (s : State) (k : Nat) : State := { s with free := s.free + k }

/-- The value of `num / den` where it is whole; else one of its two neighbours, as a free value chooses: for a conversion
whose rounding the spec does not state. Callers use up one free value. -/
def State.roundFree (s : State) (num : Int) (den : Nat) : Int :=
  if num % den = 0 then num / den else num / den + (s.freeVal % 2 : Nat)

/-- The twelve berths. -/
def berthList : List Berth := List.finRange 12
/-- The berths of a quay (R3). -/
def quayBerths (q : Quay) : List Berth := berthList.filter fun n => n.quay == q
/-- The three tenders. -/
def tenderList : List Tender := List.finRange 3
/-- The three phases. -/
def phases : List Phase := [.u, .v, .w]
/-- Apply an operation for each element of a list, first to last. -/
def State.forAll {α : Type} (s : State) (l : List α) (f : State → α → State) : State := l.foldl f s

/-- A set of berths as a mask. -/
def maskOf (l : List Berth) : BitVec 12 := l.foldl (fun m n => m ||| (1#12 <<< n.val)) 0

end Sys2Proof.Machine
end

