-- ==== Sys2Proof/Machine/Ops.lean ====
section
/-! DEFINITION. Operations that every family shares: berth states, who is affected by an event, raising an event at the
collector (R388, R389, R394), tide ticks. -/

namespace Sys2Proof.Machine

/-- What a command answers. -/
abbrev Res : Type := Host.Outcome State Fault Refusal

/-! ### Berth states (BL_STATE) -/

abbrev stOut : Nat := 0
abbrev stStopped : Nat := 1
abbrev stStarting : Nat := 2
abbrev stRunning : Nat := 3
abbrev stHolding : Nat := 4
abbrev stStopping : Nat := 5
abbrev stSafe : Nat := 6
abbrev stUnmooring : Nat := 7
abbrev stDrydock : Nat := 8
abbrev stSeaTrial : Nat := 9
abbrev stRecatch : Nat := 10

/-- BL_STATE.STATE of berth `n`. -/
def State.bst (s : State) (n : Berth) : Nat := s.bget n BL_STATE 3 0
/-- Berth `n` is OUT OF USE (R128, R129). -/
def State.outOfUse (s : State) (n : Berth) : Bool := s.bst n == stOut
/-- The device is in service (R61). -/
def State.inService (s : State) : Bool := s.dev.mode == .service
/-- The device is in loading or in service (R78). -/
def State.awake (s : State) : Bool := s.dev.mode == .service || s.dev.mode == .loading
/-- A manifest is committed (R123). -/
def State.committed (s : State) : Bool := s.load.decl.isSome
/-- The declaration blocks in force. -/
def State.decl (s : State) : Decl := s.load.decl.getD {}
/-- COMPAT as sampled at reset (GLB_COMPAT). -/
def State.compat (s : State) : Bool := s.flag GLB_COMPAT 0
/-- PWM ticks of the present tide time (R12). -/
def State.tick (s : State) : Nat := s.tide.now * 256
/-- MF_STAT.STATE. -/
def State.mfState (s : State) : Nat := s.get MF_STAT 3 0
/-- Debug halt in force (R173). -/
def State.halted (s : State) : Bool := s.flag GLB_DBGHALT 0

abbrev mfRefSearch : Nat := 0
abbrev mfHeaders : Nat := 1
abbrev mfSlot : Nat := 2
abbrev mfWaitRef : Nat := 3
abbrev mfWaitVgd : Nat := 4
abbrev mfService : Nat := 5
abbrev mfNone : Nat := 6
abbrev mfKeyProg : Nat := 7

/-- Every berth that is not OUT OF USE (R394). -/
def State.allBerths (s : State) : BitVec 12 := maskOf (berthList.filter fun n => !s.outOfUse n)
/-- The berths of a quay that are not OUT OF USE. -/
def State.quayMask (s : State) (q : Quay) : BitVec 12 := maskOf ((quayBerths q).filter fun n => !s.outOfUse n)
/-- A berth's own set, empty when it is OUT OF USE. -/
def State.berthMask (s : State) (n : Berth) : BitVec 12 := if s.outOfUse n then 0 else 1#12 <<< n.val

/-! ### Raising an event (R388, R389) -/

/-- Two raisings of one source that no decision has taken yet are one event; its set is the union (R389, R394), and a TRIPN
source names BP_TRIP of the lowest of its berths (R175). -/
def mergeRaised (e : Event) : List Event → List Event
  | [] => [e]
  | x :: r =>
      if x.src = e.src then
        { x with
          affected := x.affected ||| e.affected, forced := max x.forced e.forced, fscope := x.fscope ||| e.fscope
          adr := if e.src = 0x48 ∨ e.src = 0x49 then min x.adr e.adr else x.adr } :: r
      else x :: mergeRaised e r

/-- The factory facility holds the source's pair in (0,1) (R414). -/
def State.pairIdle (s : State) (src : Nat) : Bool := s.dev.pins.testen && s.coll.idle.contains src

/-- A source's pair goes to (1,0). A broken pair is ignored (R390), and one that the factory facility holds idle does not move
(R414); out of loading and service nothing is raised. -/
def State.raise (s : State) (e : Event) : State :=
  if !s.awake || s.coll.broken.contains e.src || s.pairIdle e.src then s
  else s.modColl fun c => { c with raised := mergeRaised { e with ts := s.tide.now } c.raised }

/-- A detector's event that affects every berth; `adr` is the status register that records it (R406). -/
def State.raiseAll (s : State) (src adr : Nat) : State :=
  s.raise { src := src, affected := s.allBerths, adr := adr }
/-- As `raiseAll`, with a forced reaction (R398). -/
def State.raiseForced (s : State) (src adr forced : Nat) : State :=
  s.raise { src := src, affected := s.allBerths, adr := adr, forced := forced, fscope := s.allBerths }
/-- A detector's event that affects one quay. -/
def State.raiseQuay (s : State) (src adr : Nat) (q : Quay) : State :=
  s.raise { src := src, affected := s.quayMask q, adr := adr }
/-- Berth source `k` of berth `n`, at its BE_PEND (R392, R406); never of a berth OUT OF USE (R128). -/
def State.raiseBerth (s : State) (n : Berth) (k : Nat) (forced : Nat := 0) : State :=
  if s.outOfUse n then s
  else s.raise { src := 0x80 + 8 * n.val + k, affected := s.berthMask n, adr := ba n BE_PEND,
                    forced := forced, fscope := if forced = 0 then 0 else s.berthMask n }

/-! ### Reactions in force (R399) -/

/-- The berths that a reaction code acts on, for a set of affected berths (R399). -/
def State.scopeOf (s : State) (react : Nat) (affected : BitVec 12) : BitVec 12 :=
  if react = 6 then s.allBerths
  else if react = 5 then
    (if affected &&& maskOf (quayBerths .north) = 0 then 0 else s.quayMask .north) |||
    (if affected &&& maskOf (quayBerths .south) = 0 then 0 else s.quayMask .south)
  else affected

/-- The reaction of one pending source on berth `n`: the higher of the map's and the forced one (R398, R399). -/
def State.pendOn (s : State) (p : Pend) (n : Berth) : Nat :=
  max (if (s.scopeOf p.react p.affected).getLsbD n.val then p.react else 0)
    (if (s.scopeOf p.forced p.fscope).getLsbD n.val then p.forced else 0)

/-- BE_REACT: the highest reaction in force on berth `n`. -/
def State.reactOn (s : State) (n : Berth) : Nat :=
  s.coll.pend.foldl (fun m p => max m (s.pendOn p n)) 0

/-- The safe-state line of berth `n` is asserted: it is broken, or a reaction of code 4 or above is in force (R391, R403); while
TESTEN is high the factory facility may drive it into either state (R414). -/
def State.safeLine (s : State) (n : Berth) : Bool :=
  s.coll.brokenL.getLsbD n.val ||
    (if s.dev.pins.testen && s.coll.driven.getLsbD n.val then true
    else s.reactOn n ≥ 4 && !(s.dev.pins.testen && s.coll.idleL.getLsbD n.val))

/-- Both or one strip in VGD undervoltage (R206): PWR_VGDSTAT.UVN or UVS. -/
def State.vgdUv (s : State) (q : Quay) : Bool :=
  match q with | .north => s.flag PWR_VGDSTAT 0 | .south => s.flag PWR_VGDSTAT 1

/-- A quay's TRIPN pin is below its threshold. -/
def State.tripLow (s : State) (q : Quay) : Bool :=
  match q with | .north => !s.dev.pins.tripnN | .south => !s.dev.pins.tripnS

/-- The brake trip of a quay is asserted: PWR_BRKSTAT.TRPN or TRPS. -/
def State.brakeTrip (s : State) (q : Quay) : Bool :=
  match q with | .north => s.flag PWR_BRKSTAT 4 | .south => s.flag PWR_BRKSTAT 5

/-! ### Wide counters -/

/-- The value of `k` consecutive 18-bit registers, lowest word first (R4). -/
def State.wide (s : State) (a : Nat) : Nat → Nat
  | 0 => 0
  | k + 1 => s.wide a k + (s.rd (a + k)).toNat * 2 ^ (18 * k)

/-- Write `k` consecutive registers with a value modulo 2^(18 k). -/
def State.putWide (s : State) (a v : Nat) : Nat → State
  | 0 => s
  | k + 1 => (s.putWide a v k).wr (a + k) (BitVec.ofNat 18 (v / 2 ^ (18 * k)))

/-- Add to a register that saturates at `2^18 - 1`. -/
def State.incSat (s : State) (a : Nat) : State :=
  s.wr a (BitVec.ofNat 18 (min ((s.rd a).toNat + 1) 0x3FFFF))

/-! ### Drydock progress -/

/-- DD_RES.CODE of an action in progress, while DD_RES still shows that action and part. -/
def State.ddProgress (s : State) (action part code : Nat) : State :=
  if s.get DD_RES 17 15 = action ∧ s.get DD_RES 14 10 = part ∧ s.get DD_RES 1 0 = 1 then s.put DD_RES 1 0 code else s

/-! ### Reset (R81, R84, R9) -/

/-- Every field and queue returns to its reset value (R9, R84). The one-time key, the pins, the state of VIO and VGD, the
sleep latch, the settings of the wake detectors, the queue of commands and the use of free values stay. -/
def State.cleared' (s : State) : State :=
  { State.cleared with
    key := s.key
    dev := { vioOk := s.dev.vioOk, pins := s.dev.pins, sleepLatch := s.dev.sleepLatch, wakeCfg := s.dev.wakeCfg }
    free := s.free
    pending := s.pending }

/-- The device enters reset for a cause of PWR_RSTCAUSE (R81); causes that act while it is already in reset add up. -/
def State.enterReset (s : State) (cause : Nat) : State :=
  let old := if s.dev.mode = .reset then s.get PWR_RSTCAUSE 8 0 else 0
  ((s.cleared'.modDev fun d => { d with mode := .reset }).put PWR_RSTCAUSE 8 0 (old ||| 2 ^ cause)).put PWR_VGDSTAT 1 0
    (s.get PWR_VGDSTAT 1 0)

end Sys2Proof.Machine
end

