-- ==== Sys2Proof/Machine/Gates.lean ====
section
/-! DEFINITION. The gate outputs of a berth: precedence (R172), dead time (R150, R162, R163, R165), protections that hold
a switch off (R180, R181), blanking windows (R167, R168), trips (R164, R165). -/

namespace Sys2Proof.Machine

/-- The row of R172 below row 1 that governs an output (`off`: not in service, or OUT OF USE: R62, R128). -/
inductive GateRow | off | safe | halt | force | disabled | pwm
deriving DecidableEq, Repr

/-- BP_FORCE code of a phase. -/
def State.forceCode (s : State) (n : Berth) (p : Phase) : Nat :=
  s.bget n BP_FORCE (2 * p.idx + 1) (2 * p.idx)

/-- The row that governs phase `p` of berth `n` (R172). -/
def State.gateRow (s : State) (n : Berth) (p : Phase) : GateRow :=
  if !s.inService || s.outOfUse n then .off
  else if s.bflag n BP_TRIP 6 then .safe
  else if s.halted then .halt
  else if s.bflag n BP_FORCE 6 && s.forceCode n p != 0 then .force
  else if !s.bflag n BP_CTL 0 || (s.berth n).pwm.run == .waiting || (s.berth n).pwm.run == .off then .disabled
  else .pwm

/-- The levels (high side, low side) that the governing row commands; a listen holds every phase off (R293). -/
def State.command (s : State) (n : Berth) (p : Phase) : Bool × Bool :=
  let l := s.leg n p
  match s.gateRow n p with
  | .off => (false, false)
  | .safe => (false, s.bflag n BP_TRIP 7)
  | .halt => (l.heldHi, l.heldLo)
  | .force => (s.forceCode n p == 1, s.forceCode n p == 2)
  | .disabled => (false, s.bget n BP_DISLVL (2 * p.idx + 1) (2 * p.idx) == 1 && !(s.berth n).start.listening)
  | .pwm => if (s.berth n).pwm.run == .stretch then (l.hi, l.lo) else (l.h, !l.h)

/-- Row 1 for the high side: a protection holds it off, or its first turn-on is withheld (R195). -/
def Leg.blockHi (l : Leg) (uv : Bool) : Bool := l.scHi || l.bsHi || l.ilkHi || l.vgdHi || uv || l.bsWait
/-- Row 1 for the low side. -/
def Leg.blockLo (l : Leg) (uv : Bool) : Bool := l.scLo || l.ilkLo || l.vgdLo || uv

/-- Switches of a half-bridge turn off at tick `t`; a low side that has conducted for `width` ticks has been refreshed
(R191). -/
def Leg.cut (l : Leg) (hi lo : Bool) (t width : Nat) : Leg :=
  { l with
    hi := l.hi && !hi
    lo := l.lo && !lo
    hiOff := if l.hi && hi then some t else l.hiOff
    loOff := if l.lo && lo then some t else l.loOff
    quiet := if l.lo && lo && decide (width ≤ t - l.loOnAt) then 0 else l.quiet }

/-- The instants from which the dead time of a switch counts: its partner's turn-off (R162, R163, R181), under PWM the
edge of h as well (R150, R151), and for a safe level the trip alone (R165). -/
def Leg.since (l : Leg) (row : GateRow) (sd : Side) : List (Option Nat) :=
  let partner := match sd with | .high => l.loOff | .low => l.hiOff
  match row with
  | .safe => [l.tripAt]
  | .pwm => [partner, l.hAt]
  | _ => [partner]

/-- The tick at which the dead time of a switch ends. -/
def Leg.due (l : Leg) (row : GateRow) (sd : Side) (dt : Nat) : Nat :=
  (l.since row sd).foldl (fun m u => match u with | some u => max m (u + dt) | none => m) 0

/-- A half-bridge takes the commanded levels at tick `t`: turn-offs at once, a turn-on when its dead time is over. A high
side that has not turned on since the first gate release is withheld while its bootstrap is low (R195). -/
def Leg.settle (l : Leg) (row : GateRow) (cmd : Bool × Bool) (uv : Bool) (t dt width : Nat) : Leg :=
  let onHi := cmd.1 && !l.blockHi uv
  let onLo := cmd.2 && !l.blockLo uv
  let l1 := l.cut (!onHi) (!onLo) t width
  if onHi && !l1.hi && !l1.lo && decide (l1.due row .high dt ≤ t) then
    if l1.bsFirst || l1.bsOk then { l1 with hi := true, scBlank := true, bsFirst := true }
    else { l1 with bsWait := true }
  else if onLo && !l1.lo && !l1.hi && decide (l1.due row .low dt ≤ t) then
    { l1 with lo := true, scBlank := true, loOnAt := t }
  else l1

/-- Index of a switch in BG_HELD.SCOFF, BG_EVT.SC and BG_SCCNT: U high, U low, V high, V low, W high, W low. -/
def switchIdx (p : Phase) (sd : Side) : Nat := 2 * p.idx + (match sd with | .high => 0 | .low => 1)

/-- The BLANK timer of a berth: its LEN in ticks (R143, R144, R167). -/
def State.blankLen (s : State) (n : Berth) : Nat :=
  (List.range 24).foldl (fun m k =>
    if s.get (0x220 + 2 * k) 2 0 = 1 ∧ s.get (0x220 + 2 * k) 7 4 = n.val then (s.rd (0x221 + 2 * k)).toNat else m) 0

/-- A commanded edge at tick `t` opens or restarts the berth's blanking window (R167, R168). -/
def PwmSt.edgeBlank (q : PwmSt) (len t : Nat) : PwmSt :=
  if len = 0 then q
  else match q.blank with
    | some b => { q with blank := some { b with stop := min (t + len) b.cap } }
    | none => if q.watch + 256 ≤ t then { q with blank := some { stop := t + len, cap := t + 2 * len } } else q

/-- A code outside CMIN to CMAX is clamped at its switch's next turn-on (R186); L-class only (R187). -/
def State.clampCode (s : State) (n : Berth) (p : Phase) (o : Nat) : State :=
  if isH n then s
  else
    let c := s.bget n o (5 * p.idx + 4) (5 * p.idx)
    s.bput n o (5 * p.idx + 4) (5 * p.idx) (min (max c (s.bget n BG_CODELIM 4 0)) (s.bget n BG_CODELIM 12 8))

/-- A commanded edge at tick `t` starts a guard of `g` ticks, or restarts the one that it falls in (R221). -/
def PwmSt.edgeGuard (q : PwmSt) (g t : Nat) : PwmSt :=
  { q with guard := match q.guard with
      | some (a, e) => if t < e then some (a, max e (t + g)) else some (t, t + g)
      | none => some (t, t + g) }

/-- One phase of berth `n` settles at tick `t`. A turn-off by the governing row, whichever row it is, counts as commanded
and returns the counts of R194 and R204 to 0 (DEDUCED, log entry 117), and a commanded change of a gate output is an edge
for blanking (R167) and for the sample guard (R221). -/
def State.settlePhase (s : State) (n : Berth) (t : Nat) (p : Phase) : State :=
  let l := s.leg n p
  let cmd := s.command n p
  let l' := l.settle (s.gateRow n p) cmd (s.vgdUv n.quay) t (s.berth n).pwm.force.dt (s.bget n BG_REFW 14 0)
  let s1 := s.modLeg n p fun _ => l'
  let s2 := if l.hi && !cmd.1 then
      (s1.bput n BG_SCCNT (3 * switchIdx p .high + 2) (3 * switchIdx p .high) 0).bput n BG_BSCNT (5 * p.idx + 4) (5 * p.idx) 0
    else s1
  let s3 := if l.lo && !cmd.2 then s2.bput n BG_SCCNT (3 * switchIdx p .low + 2) (3 * switchIdx p .low) 0 else s2
  let s4 := if !l.hi && l'.hi then s3.clampCode n p BG_CODEH
    else if !l.lo && l'.lo then s3.clampCode n p BG_CODEL else s3
  if (l.hi != l'.hi && cmd.1 == l'.hi) || (l.lo != l'.lo && cmd.2 == l'.lo) then
    s4.modPwm n fun q => (q.edgeBlank (s.blankLen n) t).edgeGuard (s.bget n BS_GUARD 11 0) t
  else s4

/-- Every gate output of berth `n` is off. -/
def State.allOff (s : State) (n : Berth) : Bool :=
  (s.berth n).legs.toList.all fun l => !l.hi && !l.lo

/-- An offset calibration starts (R228); in drydock PHASE shows it (R543). -/
def State.startCal (s : State) (n : Berth) : State :=
  let s1 := (s.bset n BS_SENSE 13).modSens n fun q => { q with held := false }
  if s.bst n = stDrydock then s1.put (DD_BSTAT0 + n.val) 2 0 3 else s1

/-- The calibration of R543 starts as soon as no switch of the berth is on. -/
def State.dockCal (s : State) (n : Berth) : State :=
  if s.dock.cal.getLsbD n.val && s.allOff n then
    (s.modDock fun d => { d with cal := d.cal &&& ~~~(1#12 <<< n.val) }).startCal n
  else s

/-- The present tick for berth `n`: the tide time, or the latest event of its PWM unit within the present tide period. -/
def State.tickOf (s : State) (n : Berth) : Nat := max s.tick (s.berth n).pwm.at_
/-- Every phase of berth `n` takes the level of R172 at tick `t`. -/
def State.settleAt (s : State) (n : Berth) (t : Nat) : State :=
  ((s.modPwm n fun q => { q with at_ := max q.at_ t }).forAll phases fun s p => s.settlePhase n t p).dockCal n
/-- Every phase of berth `n` takes the level of R172 now. -/
def State.settle (s : State) (n : Berth) : State := s.settleAt n (s.tickOf n)
/-- The switch of a half-bridge that is commanded on and waits for its dead time alone, with the tick at which that ends. -/
def State.deadSwitch (s : State) (n : Berth) (p : Phase) : Option (Side × Nat) :=
  let l := s.leg n p
  let cmd := s.command n p
  let due := fun sd => l.due (s.gateRow n p) sd (s.berth n).pwm.force.dt
  if l.hi || l.lo then none
  else if cmd.1 && !l.blockHi (s.vgdUv n.quay) then some (.high, due .high)
  else if cmd.2 && !l.blockLo (s.vgdUv n.quay) then some (.low, due .low)
  else none

/-- A bootstrap count of R194: at the sixteenth, source 0x80 + 8n + 2 is raised and the count returns to 0. -/
def State.bsCount (s : State) (n : Berth) (p : Phase) : State :=
  let c := s.bget n BG_BSCNT (5 * p.idx + 4) (5 * p.idx) + 1
  if c = 16 then (s.bput n BG_BSCNT (5 * p.idx + 4) (5 * p.idx) 0).raiseBerth n 2
  else s.bput n BG_BSCNT (5 * p.idx + 4) (5 * p.idx) c

/-- A re-enable point of one switch (R180, R193, R195, R198); in undervoltage of the strip the count of R194 holds (R207). -/
def State.reEnable (s : State) (n : Berth) (p : Phase) (sd : Side) : State :=
  let l := s.leg n p
  let uv := s.vgdUv n.quay
  match sd with
  | .high =>
      let s1 := if l.bsHi && !l.bsOk && !uv then s.bsCount n p else s
      s1.modLeg n p fun l => { l with
        scHi := false
        bsHi := l.bsHi && !l.bsOk
        ilkHi := l.ilkHi && l.ilkBusy
        vgdHi := l.vgdHi && uv
        bsWait := l.bsWait && !l.bsOk }
  | .low =>
      s.modLeg n p fun l => { l with
        scLo := false, ilkLo := l.ilkLo && l.ilkBusy, vgdLo := l.vgdLo && uv }

/-- An accepted trip clear is a re-enable point of every switch (R180, row 2). -/
def State.reEnableAll (s : State) (n : Berth) : State :=
  s.forAll phases fun s p => (s.reEnable n p .high).reEnable n p .low
/-- A change of EN or a write of BP_DISLVL is a re-enable point of the switches that row 5 governs (R180). Under a latched
trip, in a debug halt and under a force it is none (R205). -/
def State.reEnableDis (s : State) (n : Berth) : State :=
  s.forAll phases fun s p => if s.gateRow n p == .disabled then (s.reEnable n p .high).reEnable n p .low else s

/-! ### EN, loads -/

/-- The high-side command of a phase at count `c` (R148, R149), with the refresh of R191. -/
def hCommand (on off per c : Nat) : Bool :=
  if per < on ∨ per < off then true
  else if on = off then false
  else if on < off then on ≤ c && c < off
  else c < off || on ≤ c

/-- Ticks per count of berth `n` (BP_CTL.PRESCALE). -/
def State.prescale (s : State) (n : Berth) : Nat := 2 ^ s.bget n BP_CTL 3 2

/-- The active copies as values in force. -/
def State.activeForce (s : State) (n : Berth) : Force :=
  { per := s.bnat n BP_PERIODA
    on := ⟨s.bnat n 0x12, s.bnat n 0x14, s.bnat n 0x16⟩
    off := ⟨s.bnat n 0x13, s.bnat n 0x15, s.bnat n 0x17⟩
    dt := s.bget n BP_DEADTA 13 0
    ofs := s.bnat n BP_PHASEOFSA
    sampt := (s.berth n).pwm.sampt }

/-- One shadow becomes active when it is pending (R153, R152). -/
def State.loadShadow (s : State) (n : Berth) (i : Nat) : State :=
  if !(s.berth n).pwm.pend.getLsbD i then s
  else if i = 7 then
    let d := s.bget n BP_DEADT 13 0
    let s1 := s.bput n BP_DEADTA 13 0 (max d 104)
    if d < 104 then s1.bset n BP_STAT 5 else s1
  else s.bwr n (0x11 + i) (s.brd n (1 + i))

/-- First aligned boundary at or after tick `t` (R158). -/
def alignedFrom (t T D : Nat) : Nat := if T = 0 then t else t + (D % T + T - t % T) % T

/-- Period of the active copies in ticks, and the interleave delay D of R158. -/
def State.alignTD (s : State) (n : Berth) : Nat × Nat :=
  let T := s.bnat n BP_PERIODA * s.prescale n
  (T, s.bnat n BP_PHASEOFSA * T / 2 ^ 18)

/-- The short-circuit threshold of berth `n` in force (R199): a countersigned one acts from the first period boundary after
its application, or from the first aligned boundary while EN is 0 (R534). -/
def State.scThr (s : State) (n : Berth) : Nat :=
  let pw := (s.berth n).pwm
  let td := s.alignTD n
  match pw.scFrom with
  | none => s.pget (ba n BG_SCTHR) 7 0
  | some t => if pw.run = .off ∧ alignedFrom (t + 1) td.1 td.2 ≤ s.tickOf n then s.pget (ba n BG_SCTHR) 7 0 else pw.scOld

/-- Start and programmed sample instant of the present period: that of the running counter, or with EN 0 the latest of
the aligned periods of R220 that has one by the end of the present tide period (R218, R220). -/
def State.sampleAt (s : State) (n : Berth) : Nat × Nat :=
  let pw := (s.berth n).pwm
  let f := if pw.run = .off then s.activeForce n else pw.force
  let off := min f.sampt (f.per - 1) * s.prescale n
  if pw.run = .off then
    let td := s.alignTD n
    let e := s.tick + 255 - off
    let B := if td.1 = 0 then e else e - (e + td.1 - td.2 % td.1) % td.1
    (B, B + off)
  else (pw.perStart, pw.perStart + off)

/-- Ticks by which the guards after commanded edges postpone a sample programmed for tick `p` (R221). -/
def State.postpone (s : State) (n : Berth) (p : Nat) : Nat :=
  match (s.berth n).pwm.guard with
  | some (a, e) => if a ≤ p ∧ p < e then min (e - p) (2 * s.bget n BS_GUARD 11 0) else 0
  | none => 0

/-- A load (R153, R156, R157, R160, R218): every pending shadow becomes active together, the marks and the arm clear,
and a skew is recorded. Before the first period a change of PERIOD or OFS moves its start to a boundary aligned under the
new values. -/
def State.load_ (s : State) (n : Berth) : State :=
  let pw := (s.berth n).pwm
  let per := pw.pend.getLsbD 0
  let cmp := (List.range 6).any fun i => pw.pend.getLsbD (i + 1)
  let ofs := pw.pend.getLsbD 8
  let old := s.activeForce n
  let s1 := s.forAll (List.range 9) fun s i => s.loadShadow n i
  let s2 := if pw.pend.getLsbD 9 then s1.modPwm n fun q => { q with sampt := s.bnat n BS_SAMPT } else s1
  let s3 := s2.modPwm n fun q => { q with pend := 0 }
  let s4 := s3.bclr n BP_STAT 4
  let s5 := if per && !cmp then (s4.bset n BP_STAT 7).bset n BP_STAT 6
    else if !per && cmp && s.bflag n BP_CTL 5 then (s4.bset n BP_STAT 7).bclr n BP_STAT 6
    else s4
  let new := s5.activeForce n
  let changed := (per && old.per != new.per) || (ofs && old.ofs != new.ofs)
  if pw.run = .running then
    s5.modPwm n fun q => { q with stretch := if changed && s.bflag n BP_CTL 4 then 1 else q.stretch }
  else
    let td := s5.alignTD n
    s5.modPwm n fun q => { q with
      force := new
      perStart := if pw.run = .waiting && changed && s.bflag n BP_CTL 4 then alignedFrom q.perStart td.1 td.2 else q.perStart }

/-- A load-all strobe reaches berth `n`: it arms the berth, or loads at once while EN is 0 (R154, R156). -/
def State.strobe (s : State) (n : Berth) : State :=
  if s.bflag n BP_CTL 0 then s.bset n BP_STAT 4 else s.load_ n

/-- The period counter of berth `n` stops with EN 0: no high-side command stands any more, and an armed load takes place
(R156). -/
def State.pwmStop (s : State) (n : Berth) : State :=
  let s1 := (s.bclr n BP_CTL 0).modBerth n fun b =>
    { b with
      pwm := { b.pwm with
        run := .off, stretch := 0, late := none, divAt := s.tickOf n
        scFrom := if s.bflag n BP_CTL 0 then b.pwm.scFrom.map fun _ => s.tickOf n else b.pwm.scFrom }
      legs := b.legs.map fun l => { l with h := false }
      sens := { b.sens with rp := Tri.all 0 } }
  if s.bflag n BP_CTL 0 && s.bflag n BP_STAT 4 then s1.load_ n else s1

/-- EN of berth `n` clears: the armed load takes place, the counter stops, and the outputs take their disabled levels
(R156, R162). With EN 0 already, the outputs follow a force that has ended. -/
def State.disableEn (s : State) (n : Berth) : State :=
  if !s.bflag n BP_CTL 0 then s.settle n else ((s.pwmStop n).reEnableDis n).settle n

/-- EN of berth `n` is set from 0: the unit waits for the first aligned boundary at least 100 ns later (R159). -/
def State.enableEn (s : State) (n : Berth) : State :=
  if s.bflag n BP_CTL 0 then s
  else
    let td := s.alignTD n
    let start := alignedFrom (s.tickOf n + 512) td.1 td.2
    let s1 := (s.bset n BP_CTL 0).modPwm n fun q =>
      { q with
        run := .waiting, perStart := start, force := s.activeForce n, stretch := 0, cnt := 0, divCnt := 0
        scOld := s.scThr n }
    (s1.reEnableDis n).settle n

/-! ### Berth state changes -/

/-- Berth `n` enters BL_STATE `v`. FEN clears outside the states that permit a force register (R163); outside RUNNING
and SEA TRIAL BD_WREF reads 0 (R329); REV clears at STOPPED (R327); a state that ends a start ends homing (R304); at RUNNING the failure count returns to 0 (R292) and
BD_WREF takes BO_OMEGA (R329). -/
def State.setState (s : State) (n : Berth) (v : Nat) : State :=
  let s1 := s.bput n BL_STATE 3 0 v
  let s2 := if v = stStarting ∨ v = stDrydock then s1 else s1.bclr n BP_FORCE 6
  let s3 := if v = stRunning then s2.bwr n BD_WREF (s.brd n BO_OMEGA)
    else if v = stSeaTrial then s2 else s2.bwr n BD_WREF 0
  let s4 := if v = stStopped then s3.bclr n BD_STAT 3 else s3
  let s5 := if v = stStarting ∨ v = stRecatch ∨ v = stSeaTrial then s4
    else ((s4.bput n BO_PHASE 3 0 0).bclr n BO_STAT 1).modStart n fun q => { q with giveUp := false, listening := false }
  let s5 := if v = stStarting ∨ v = stRecatch ∨ v = stSeaTrial ∨ v = stRunning then s5
    else s5.modStart n fun q => { q with homing := false, homeEnd := false, homeHold := false }
  if v = stRunning then s5.modBerth n fun b =>
    { b with start := { b.start with fails := 0, closed := true }, ctl := { b.ctl with wref := s.bint n BO_OMEGA } }
  else if v = stDrydock then s5.modBerth n fun b => { b with dockEntry := true }
  else s5

/-- Berth `n` stops at once: FEN and EN clear in one step (R273, R274). -/
def State.stopNow (s : State) (n : Berth) (v : Nat) : State :=
  ((s.setState n v).bclr n BP_FORCE 6).disableEn n

/-- A start in SEA TRIAL ends with EN and FEN clear while the berth stays in that state (R274, R292, R548). -/
def State.endTrialStart (s : State) (n : Berth) : State :=
  let s1 := (((s.bclr n BP_FORCE 6).bput n BO_PHASE 3 0 0).bclr n BO_STAT 1).modStart n fun q =>
    { q with listening := false, homing := false, homeEnd := false, homeHold := false }
  s1.disableEn n

/-- The orderly stop of R301 begins in state `v` (STOPPING or UNMOORING), from the wref of the latest update. -/
def State.beginStop (s : State) (n : Berth) (v : Nat) : State :=
  let w := (s.bint n BO_OMEGA).natAbs
  let r := (s.berth n).ctl.wref
  (s.setState n v).modBerth n fun b =>
    { b with
      start := { b.start with stopW := w, stopRef := r, stopRem := 0, stopAt := s.tide.now, stopWin := none }
      ctl := { b.ctl with slow := 0 } }

/-- A stop request of R273 reaches berth `n` (R273, R302, R402, R548). -/
def State.stopRequest (s : State) (n : Berth) : State :=
  let st := s.bst n
  if st = stStarting ∨ st = stRecatch ∨ st = stHolding then s.stopNow n stStopped
  else if st = stRunning then s.beginStop n stStopping
  else if st = stSeaTrial then
    if !s.bflag n BP_CTL 0 && !s.bflag n BP_FORCE 6 && s.bget n BO_PHASE 3 0 = 0 then s
    else if (s.berth n).start.closed then
      let w := (s.bint n BO_OMEGA).natAbs
      let r := (s.berth n).ctl.wref
      if (s.berth n).start.trialStop then s
      else s.modStart n fun q => { q with trialStop := true, stopW := w, stopRef := r, stopRem := 0, stopAt := s.tide.now, stopWin := none }
    else s.endTrialStart n
  else s

/-! ### Trips (R164, R165) -/

/-- A trip under MODE 2 now would choose the low sides (R308). -/
def State.shortSel (s : State) (n : Berth) : Bool := (s.prd (ba n BO_XOVER)).toNat < s.bnat n BO_LASTW

/-- Whether a trip of berth `n` now chooses the low sides (R165), which BO_STAT.SHORTSEL shows (R308). -/
def State.shortsLow (s : State) (n : Berth) : Bool :=
  let m := s.pget (ba n BP_SAFE) 1 0
  m == 1 || (m == 2 && s.shortSel n)

/-- Bits of the latched trip causes in BP_TRIP. -/
abbrev causePin : Nat := 0
abbrev causeBrake : Nat := 1
abbrev causeFault : Nat := 2

/-- Berth `n` trips with a cause: the first latches the safe levels, whose dead time counts from the trip alone, and takes
the berth to SAFE (R164, R165, R273, R542); a later one only adds its cause bit (R402). Nothing latches out of service. -/
def State.trip (s : State) (n : Berth) (cause : Nat) : State :=
  if !s.inService || s.outOfUse n then s
  else if s.bflag n BP_TRIP 6 then s.bset n BP_TRIP cause
  else
    let low := s.shortsLow n
    let s1 := (((s.bset n BP_TRIP cause).bset n BP_TRIP 6).bputb n BP_TRIP 7 low).modBerth n fun b =>
      { b with legs := b.legs.map fun l => { l with tripAt := some (s.tickOf n) } }
    let st := s.bst n
    let s2 := if st = stUnmooring then s1.setState n stDrydock
      else if st = stDrydock ∨ st = stSeaTrial then s1 else s1.setState n stSafe
    s2.settle n

end Sys2Proof.Machine
end

