-- ==== Sys2Proof/Machine/Pwm.lean ====
section
/-! DEFINITION. Berth PWM, loads, trips and debug halt: the commands of chapter 5 that are not writes, and the effects
of its register writes. -/

namespace Sys2Proof.Machine

/-! ### Load points and the counter -/

/-- Refresh insertion applies to berth `n` (R190, R191). -/
def State.refreshOn (s : State) (n : Berth) : Bool :=
  s.bflag n BG_CTL 4 || (s.flag PWR_PUMP 1 && s.bflag n BG_CTL 5)

/-- At a load point each phase decides whether the next period carries a refresh (R191). -/
def State.refreshCheck (s : State) (n : Berth) (t : Nat) : State :=
  s.forAll phases fun s p => s.modLeg n p fun l =>
    let q := if l.lo && s.bget n BG_REFW 14 0 ≤ t - l.loOnAt then 0 else l.quiet
    { l with
      quiet := q + 1
      refresh := s.refreshOn n && s.gateRow n p == .pwm && decide (s.bget n BG_REFRESH 5 0 ≤ q) }

/-- The targets of a berth's tokens come one load point nearer (R258). -/
def State.countTargets (s : State) (n : Berth) : State :=
  s.modBerth n fun b => { b with
    sens := { b.sens with target := b.sens.target - 1 }
    waiting := b.waiting.map fun t => { t with target := t.target - 1 }
    running := b.running.map fun r => ({ r.1 with target := r.1.target - 1 }, r.2) }

/-- LOAD_POINT: 100 ns before a period boundary, the first one of R159 included (R154, R157, R191). An armed berth loads.
In a debug halt no load point occurs (R262). -/
def execLoadPoint (n : Berth) (s : State) : Res :=
  .next (
    let pw := (s.berth n).pwm
    if s.halted || (pw.run != .running && pw.run != .waiting) then s
    else
      let t := pw.perStart + pw.force.per * s.prescale n - 512
      let s1 := (if pw.run = .running then s.refreshCheck n t else s).countTargets n
      if s.bflag n BP_STAT 4 then s1.load_ n else s1)

/-- h of one phase at count `c` of the present period, refresh included (R148, R191). -/
def State.hAt (s : State) (n : Berth) (p : Phase) (c : Nat) : Bool :=
  let f := (s.berth n).pwm.force
  hCommand (f.on.get p) (f.off.get p) f.per c &&
    (!(s.leg n p).refresh || decide (s.bget n BG_REFW 14 0 + f.dt ≤ c * s.prescale n))

/-- The counter stands at count `c`: each phase takes its command h, a change restarts the dead time of the switch that
turns on and is its re-enable point, and so is a boundary at which the command is on (R148, R150, R151, R180). -/
def State.countEvent (s : State) (n : Berth) (c : Nat) : State :=
  let t := (s.berth n).pwm.perStart + c * s.prescale n
  let s1 := s.modPwm n fun q => { q with cnt := c }
  let s2 := s1.forAll phases fun s p =>
    let l := s.leg n p
    let h := s.hAt n p c
    let s' := s.modLeg n p fun l => { l with
      h := h
      hAt := if h != l.h then some t else l.hAt }
    if s.gateRow n p != .pwm then s'
    else if h && (!l.h || c == 0) then s'.reEnable n p .high
    else if !h && (l.h || c == 0) then s'.reEnable n p .low
    else s'
  s2.settleAt n t

/-- A sample whose guard runs on past the end of its period is taken after the boundary (R221). -/
def State.lateSample (s : State) (n : Berth) (B : Nat) : Option (Nat × Nat) :=
  let pw := (s.berth n).pwm
  let q := s.sampleAt n
  if pw.divCnt % (s.bget n BS_CTL 5 3 + 1) = 0 ∧ pw.sampAt ≠ some q.2 ∧ B < q.2 + s.postpone n q.2 then some q else none

/-- A period boundary (R154, R160): the values of the last load take effect, after a stretch when one is due. -/
def State.boundary (s : State) (n : Berth) : State :=
  let pw := (s.berth n).pwm
  let B := pw.perStart + pw.force.per * s.prescale n
  let td := s.alignTD n
  let S := if pw.stretch = 0 then 0 else alignedFrom B td.1 td.2 - B
  let s1 := s.modPwm n fun q =>
    { q with perStart := B + S, force := s.activeForce n, stretch := 0, divCnt := q.divCnt + 1,
             late := s.lateSample n B, scFrom := none,
             run := if S = 0 then .running else .stretch, cnt := 0 }
  if S = 0 then s1.countEvent n 0 else s1

/-- PWM_START: the first aligned boundary after EN was set is reached and count 0 of the first period begins (R159). -/
def execPwmStart (n : Berth) (s : State) : Res :=
  .next (
    if (s.berth n).pwm.run != .waiting || s.halted then s
    else (s.modPwm n fun q => { q with run := .running, force := s.activeForce n, scFrom := none }).countEvent n 0)

/-- PWM_EDGE: the counter reaches count `c`; count 0 is the period boundary (R147 to R151). A halted counter does not
move (R173). -/
def execPwmEdge (n : Berth) (c : Nat) (s : State) : Res :=
  .next (
    if (s.berth n).pwm.run != .running || s.halted then s
    else if c = 0 then s.boundary n
    else if c < (s.berth n).pwm.force.per then s.countEvent n c
    else s)

/-- REALIGN_STRETCH_END: count 0 of the first period under the new values (R160, R180). -/
def execRealignStretchEnd (n : Berth) (s : State) : Res :=
  .next (
    if (s.berth n).pwm.run != .stretch || s.halted then s
    else (s.modPwm n fun q => { q with run := .running }).countEvent n 0)

/-- DEAD_TIME_END: the dead time of the switch that its command or safe level calls for ends, and it turns on (R150, R162,
R163, R165). A switch whose count stands still in a debug halt is not called for by the levels held there (R173). -/
def execDeadTimeEnd (n : Berth) (p : Phase) (s : State) : Res :=
  .next (match s.deadSwitch n p with
    | none => s
    | some (_, t) => s.settleAt n (max t (s.tickOf n)))

/-! ### Trips -/

/-- Source 0x48 or 0x49 after TRIPN trips of the berths `l` (R175, R406): the address is BP_TRIP of the lowest. -/
def State.raiseTripn (s : State) (q : Quay) (l : List Berth) : State :=
  match l with
  | [] => s
  | n :: _ => s.raiseQuay (match q with | .north => 0x48 | .south => 0x49) (ba n BP_TRIP) q

/-- Every berth of a quay outside a blanking window trips on its low TRIPN pin (R164, R167). A berth whose trip is latched takes the
trip as well: it gains the PIN cause and counts for R175 (DEDUCED, log entry 126). -/
def State.tripPin (s : State) (q : Quay) : State :=
  if !s.inService then s
  else
    let l := (quayBerths q).filter fun n => !s.outOfUse n && (s.berth n).pwm.blank.isNone
    (s.forAll l fun s n => s.trip n causePin).raiseTripn q l

/-- TRIPN_TRIP: the pin falls and stays low for `ns`, or rises. A pulse below 20 ns never trips, one above 40 ns always
does, and one between may do either (R166), which a free value decides. -/
def execTripnTrip (q : Quay) (l : TripnLevel) (s : State) : Res :=
  let pin := fun v => s.modDev fun d => match q with
    | .north => { d with pins := { d.pins with tripnN := v } }
    | .south => { d with pins := { d.pins with tripnS := v } }
  .next (match l with
    | .high => pin true
    | .low ns =>
        if ns < 20 then pin false
        else if 40 < ns then (pin false).tripPin q
        else if s.freeVal % 2 = 0 then (pin false).useFree 1
        else ((pin false).useFree 1).tripPin q)

/-- BLANK_WINDOW_END: watching resumes, and a pin that is still low trips the berth at that instant (R167, R168). -/
def execBlankWindowEnd (n : Berth) (s : State) : Res :=
  .next (match (s.berth n).pwm.blank with
    | none => s
    | some w =>
        let s1 := s.modPwm n fun q => { q with blank := none, watch := max w.stop s.tick }
        if s.inService && !s.outOfUse n && s.tripLow n.quay then
          (s1.trip n causePin).raiseTripn n.quay [n]
        else s1)

/-- SAFE_STATE_TRIP: the berth sees its safe-state line asserted and trips with the FAULT cause (R164, R391, R403). -/
def execSafeStateTrip (n : Berth) (s : State) : Res :=
  .next (if s.safeLine n then s.trip n causeFault else s)

/-- A write of 1 to BP_TRIPCLR.CLR (R170, R171): refused while a cause is active, also between the assertion of the
safe-state line and the latching of its trip. -/
def State.tripClear (s : State) (n : Berth) : State :=
  if !s.bflag n BP_TRIP 6 && !(s.inService && !s.outOfUse n && s.safeLine n) then s
  else if s.tripLow n.quay || s.brakeTrip n.quay || s.safeLine n then s.bset n BP_TRIP 8
  else
    let s1 := (s.bput n BP_TRIP 7 6 0).bput n BP_TRIP 2 0 0
    let s2 := if s.bst n = stSafe then s1.setState n stStopped else s1
    ((s2.pwmStop n).reEnableAll n).settle n

/-! ### Effects of register writes -/

/-- Offsets of the ten shadows: BP_PERIOD to BP_PHASEOFS, then BS_SAMPT (R153, R218). -/
def shadowOff (i : Nat) : Nat := if i = 9 then BS_SAMPT else 1 + i

/-- A write that reaches shadow `i` of berth `n`: the shadow and its pending mark change, nothing else (R153). -/
def State.writeShadow (s : State) (n : Berth) (i : Nat) (v : Word) : State :=
  (s.bwr n (shadowOff i) v).modPwm n fun q => { q with pend := q.pend ||| (1#10 <<< i) }

/-- GLB_LOADALL: every berth in scope is armed, or loads at once while its EN is 0 (R155, R156). -/
def State.loadAll (s : State) (v : Word) : State :=
  s.forAll (berthList.filter fun n =>
    bits v 2 2 == 1 || (bits v 0 0 == 1 && n.quay == .north) || (bits v 1 1 == 1 && n.quay == .south))
    fun s n => s.strobe n

/-- A write of BP_FORCE that is permitted takes effect at the next tick boundary (R163); it is a re-enable point of each
switch that it commands on (R180). -/
def State.forceWrite (s : State) (n : Berth) (v : Word) : State :=
  let s1 := s.bput n BP_FORCE 6 0 (bits v 6 0)
  let s2 := s1.forAll phases fun s p =>
    if s.gateRow n p != .force then s
    else if s.forceCode n p = 1 then s.reEnable n p .high
    else if s.forceCode n p = 2 then s.reEnable n p .low
    else s
  s2.settle n

/-- SELF commands force codes for the phases, or clears FEN when none (start programs, R163). -/
def State.forceSelf (s : State) (n : Berth) (codes : Option (Nat × Nat × Nat)) : State :=
  match codes with
  | none => s.forceWrite n 0
  | some (u, v, w) => s.forceWrite n (BitVec.ofNat 18 (0x40 + u + 4 * v + 16 * w))

/-- Debug halt begins (R173): every counter stands; outputs keep their levels; the loss searches are suspended, and for
LSWIN updates after it (R262). -/
def State.haltOn (s : State) : State :=
  (s.setb GLB_DBGHALT 0).forAll berthList fun s n =>
    (s.modBerth n fun b => { b with
      pwm := { b.pwm with haltAt := s.tickOf n }
      legs := b.legs.map fun l => { l with heldHi := l.hi, heldLo := l.lo }
      loss := { b.loss with
        steady := 0, win := 0, measure := false, pin := 0, pout := 0, prev := none, pause := s.bnat n BF_LSWIN } }).bclr
        n BF_STAT 5

/-- A dead-time count from `since` that had not ended at tick `h` is `d` ticks later after a halt (R173). -/
def haltShift (since : Option Nat) (h d dt : Nat) : Option Nat :=
  since.map fun u => if u ≤ h ∧ h < u + dt then u + d else u

/-- The counters of a berth go on from where they stood when the halt began (R173); a unit that still waits for its first
period waits for an aligned boundary to come (R159). -/
def State.haltResume (s : State) (n : Berth) : State :=
  let h := (s.berth n).pwm.haltAt
  let d := s.tickOf n - h
  let td := s.alignTD n
  s.modBerth n fun b => { b with
    pwm := { b.pwm with
      perStart := if b.pwm.run = .waiting then alignedFrom (max b.pwm.perStart (s.tickOf n)) td.1 td.2 else b.pwm.perStart + d
      sampAt := if b.pwm.run = .off then b.pwm.sampAt else b.pwm.sampAt.map (· + d)
      late := b.pwm.late.map fun q => (q.1 + d, q.2 + d)
      guard := b.pwm.guard.map fun g => if h < g.2 then (g.1 + d, g.2 + d) else g }
    sens := if b.pwm.run = .off then b.sens else
      { b.sens with heldPer := (b.sens.heldPer.1 + d, b.sens.heldPer.2 + d) }
    legs := b.legs.map fun l => { l with
      hAt := haltShift l.hAt h d b.pwm.force.dt
      hiOff := haltShift l.hiOff h d b.pwm.force.dt
      loOff := haltShift l.loOff h d b.pwm.force.dt } }

/-- Debug halt ends (R173): the counters go on; a switch that a protection holds off waits for its next re-enable point
(R180). -/
def State.haltOff (s : State) : State :=
  (s.clrb GLB_DBGHALT 0).forAll berthList fun s n => (s.haltResume n).settle n

end Sys2Proof.Machine
end

