-- ==== Sys2Proof/Machine/GateDrive.lean ====
section
/-! DEFINITION. Gate drive and switch protection (chapter 6): adaptive drive, bootstrap and pump, interlock, short
circuit, VGD monitor, brake chopper and brake trip. -/

namespace Sys2Proof.Machine

/-- A protection turns switches of a half-bridge off now and records why it holds them (R180, R181). -/
def State.cutLeg (s : State) (n : Berth) (p : Phase) (hi lo : Bool) (f : Leg → Leg) : State :=
  s.modLeg n p fun l => f (l.cut hi lo (s.tickOf n) (s.bget n BG_REFW 14 0))

/-! ### Adaptive drive -/

/-- The next source code after a hard edge of `t` ticks at bus code `vb` (0.5 mV), by R184 in exact arithmetic; the code as
it stands is stepped, and the result clamped:
0.8 * (vb / 2000) * 5.12 / t > ceil / 10 is 4096 * vb > 200000 * ceil * t. -/
def nextCode (code t : Nat) (vb : Int) (ceil target band cmin cmax : Nat) : Nat :=
  let c : Int :=
    if (200000 * ceil * t : Int) < 4096 * vb then (code : Int) - 2
    else if target + band < t then code + 1
    else if t + band < target then code - 1
    else code
  (min (max c cmin) cmax).toNat

/-- An edge of one switch is recorded (R182, R183) and a hard one steers its code (R184, R185, R187). -/
def State.recordEdge (s : State) (n : Berth) (p : Phase) (sd : Side) (soft : Bool) (t : Nat) (vb : Int) : State :=
  let o := BG_EDGEHU + switchIdx p sd
  let s1 := (s.bset n o 17).bputb n o 16 soft
  if soft then s1
  else
    let t := min t 4095
    let s2 := s1.bput n o 11 0 t
    if isH n || !s.bflag n BG_CTL 0 || s.bflag n BG_CTL 1 then s2
    else
      let r := match sd with | .high => BG_CODEH | .low => BG_CODEL
      let c := s.bget n r (5 * p.idx + 4) (5 * p.idx)
      s2.bput n r (5 * p.idx + 4) (5 * p.idx)
        (nextCode c t vb (s.bget n BG_DVDT 7 0) (s.bget n BG_TARGET 10 0) (s.bget n BG_TARGET 17 12)
          (s.bget n BG_CODELIM 4 0) (s.bget n BG_CODELIM 12 8))

/-- EDGE_MEASURED (R182 to R185). -/
def execEdgeMeasured (n : Berth) (p : Phase) (sd : Side) (soft : Bool) (ticks : Nat) (vb : Int) (s : State) : Res :=
  .next (if s.inService && !s.outOfUse n then s.recordEdge n p sd soft ticks vb else s)

/-- EDGE_TIME_SATURATION: no first crossing within 4095 ticks of a turn-on, a hard edge of 4095 ticks (R183). -/
def execEdgeTimeSaturation (n : Berth) (p : Phase) (sd : Side) (vb : Int) (s : State) : Res :=
  .next (if s.inService && !s.outOfUse n then s.recordEdge n p sd false 4095 vb else s)

/-! ### Pump and bootstraps -/

/-- PUMP_FAIL (R190). -/
def execPumpFail (s : State) : Res :=
  .next (
    if !s.awake || !s.flag PWR_PUMP 0 || s.flag PWR_PUMP 1 then s
    else ((s.setb PWR_PUMP 1).setb PWR_PUMP 2).raiseAll 0x43 PWR_PUMP)

/-- PUMP_RECOVER (R190): FAIL clears; FAILED stays. -/
def execPumpRecover (s : State) : Res := .next (s.clrb PWR_PUMP 1)

/-- BOOTSTRAP_UNDERVOLTAGE: below THR for 0.5 µs, or above the rising threshold again (R193, R194). A high side that is
on turns off and is held. -/
def execBootstrapUndervoltage (n : Berth) (p : Phase) (below : Bool) (s : State) : Res :=
  .next (
    if !below then s.modLeg n p fun l => { l with bsOk := true }
    else
      let s1 := s.modLeg n p fun l => { l with bsOk := false }
      if !(s.leg n p).hi then s1
      else ((s1.cutLeg n p true false fun l => { l with bsHi := true }).bset n BG_EVT (6 + p.idx)).bsCount n p |>.dockCal n)

/-! ### Both-on interlock -/

/-- An interlock event of a berth half-bridge (R197): both outputs off and held; STC; source k = 1. -/
def State.interlockBerth (s : State) (n : Berth) (p : Phase) : State :=
  ((s.cutLeg n p true true fun l => { l with ilkHi := true, ilkLo := true, ilkBusy := true }).bset
    n BG_EVT (3 + p.idx)).raiseBerth n 1 |>.dockCal n

/-! ### Short circuit -/

/-- A detection is noted with its tick; in the period of a sample that has been judged already, it ends that channel's
run of samples at the limit (R232). -/
def State.noteDetect (s : State) (n : Berth) (p : Phase) : State :=
  let t := s.tickOf n
  (s.modLeg n p fun l => { l with scAt := some t }).modSens n fun q =>
    if !q.held && q.heldPer.1 ≤ t && t < q.heldPer.2 then { q with limI := q.limI.set p 0 } else q

/-- A detection of the comparator of phase `p` (R200, R201, R204). -/
def State.scDetect (s : State) (n : Berth) (p : Phase) : State :=
  let l := s.leg n p
  let s1 := s.noteDetect n p
  if !l.hi && !l.lo then s1.bset n BG_EVT p.idx
  else
    let sd : Side := if l.hi then .high else .low
    let i := switchIdx p sd
    let s2 := s1.cutLeg n p l.hi (!l.hi) fun l => match sd with
      | .high => { l with scHi := true }
      | .low => { l with scLo := true }
    let s3 := (s2.bset n BG_EVT (9 + i)).dockCal n
    let c := s.bget n BG_SCCNT (3 * i + 2) (3 * i) + 1
    if c = 8 then (s3.bput n BG_SCCNT (3 * i + 2) (3 * i) 0).raiseBerth n 0
    else s3.bput n BG_SCCNT (3 * i + 2) (3 * i) c

/-- A shunt voltage of `shunt` µV lies above the short-circuit threshold in force (R199). -/
def State.scAbove (s : State) (n : Berth) (shunt : Int) : Bool := decide (4000 * s.scThr n < shunt.natAbs)

/-- SHORT_CIRCUIT_DETECT: the comparator finds a shunt voltage of `shunt` µV, in either polarity, above BG_SCTHR x 4 mV. It
acts while the strip has VGD (R199) and outside blanking (R202). -/
def execShortCircuitDetect (n : Berth) (p : Phase) (shunt : Int) (s : State) : Res :=
  .next (if !s.awake || s.vgdUv n.quay || (s.leg n p).scBlank || !s.scAbove n shunt then s else s.scDetect n p)

/-- SC_BLANK_END: the window ends; a shunt voltage that is above the threshold then is detected (R202). -/
def execScBlankEnd (n : Berth) (p : Phase) (shunt : Int) (s : State) : Res :=
  let s1 := s.modLeg n p fun l => { l with scBlank := false }
  .next (if s.scAbove n shunt && (s.leg n p).scBlank && s.awake && !s.vgdUv n.quay then s1.scDetect n p else s1)

/-! ### Brake chopper and VGD -/

/-- PWR_BRKSTAT bit of a quay's chopper (ON), bus (OV), brake trip (TRP) and MAX. -/
def brkBit (base : Nat) : Quay → Nat
  | .north => base | .south => base + 1

/-- The chopper output of a quay follows its comparator (R208): only while enabled, in service and with VGD; a change
waits for the 2 µs minimum time and starts the next one. VGD undervoltage cuts the on-time short (R207). -/
def State.chopApply (s : State) (q : Quay) : State :=
  let on := s.flag PWR_BRKSTAT (brkBit 2 q)
  let enabled := s.pflag PWR_BRKCTL (match q with | .north => 0 | .south => 2)
  if !s.inService || s.vgdUv q then (s.clrb PWR_BRKSTAT (brkBit 2 q)).modQuay q fun k => { k with minRun := false }
  else if (s.quay q).minRun then s
  else
    let want := (s.quay q).want && enabled
    if want = on then s
    else (s.putb PWR_BRKSTAT (brkBit 2 q) want).modQuay q fun k => { k with minRun := true }

/-- CHOPPER_ON: the quay bus rises above ON (R208). -/
def execChopperOn (q : Quay) (s : State) : Res :=
  .next (if !s.awake then s else ((s.setb PWR_BRKSTAT (brkBit 0 q)).modQuay q fun k => { k with want := true }).chopApply q)

/-- CHOPPER_OFF: the quay bus falls below ON - HYST (R208). -/
def execChopperOff (q : Quay) (s : State) : Res :=
  .next (if !s.awake then s else ((s.clrb PWR_BRKSTAT (brkBit 0 q)).modQuay q fun k => { k with want := false }).chopApply q)

/-- CHOPPER_MIN_TIME_END (R208). -/
def execChopperMinTimeEnd (q : Quay) (s : State) : Res :=
  .next ((s.modQuay q fun k => { k with minRun := false }).chopApply q)

/-- BRAKE_TRIP (R209): every berth of the quay trips, and source 0x44 or 0x45 is raised at each assertion. A chopper that
has reached MAXON sets MAXN or MAXS also while the brake trip is disabled, as PWR_BRKSTAT's card has it (DEDUCED, log
entry 118). -/
def execBrakeTrip (q : Quay) (c : BrakeCause) (s : State) : Res :=
  let enabled := s.pflag PWR_BRKCTL (match q with | .north => 1 | .south => 3)
  let maxOn := (s.prd (match q with | .north => 0x123 | .south => 0x126)).toNat
  let real := match c with
    | .level => true
    | .maxOn => maxOn != 0 && s.flag PWR_BRKSTAT (brkBit 2 q)
  .next (
    if !s.inService || !real then s
    else
      let s1 := if c = .maxOn then s.setb PWR_BRKSTAT (brkBit 6 q) else s
      if !enabled || s.brakeTrip q then s1
      else
        let s2 := s1.setb PWR_BRKSTAT (brkBit 4 q)
        (s2.forAll (quayBerths q) fun s n => s.trip n causeBrake).raiseQuay
          (match q with | .north => 0x44 | .south => 0x45) PWR_BRKSTAT q)

/-- BRAKE_TRIP_DEASSERT: with the chopper off (R209). The latched trips stand. -/
def execBrakeTripDeassert (q : Quay) (s : State) : Res :=
  .next (if s.flag PWR_BRKSTAT (brkBit 2 q) then s else s.clrb PWR_BRKSTAT (brkBit 4 q))

/-- VGD_UNDERVOLTAGE of a strip (R206, R207): every gate and brake output of the strip turns off. In reset
PWR_VGDSTAT alone shows it; it is announced in loading (R78). -/
def execVgdUndervoltage (q : Quay) (s : State) : Res :=
  let b := match q with | .north => 0 | .south => 1
  let s1 := (s.setb PWR_VGDSTAT b).setb PWR_VGDFLAGS b
  let s2 := s1.forAll (quayBerths q) fun s n => (s.forAll phases fun s p =>
    s.cutLeg n p true true fun l => { l with vgdHi := true, vgdLo := true }).dockCal n
  .next (
    if !s.awake then s.setb PWR_VGDSTAT b
    else (s2.chopApply q).raiseQuay (match q with | .north => 0x40 | .south => 0x41) PWR_VGDFLAGS q)

/-- VGD_UV_DEASSERT (R207): switches turn on again at their re-enable points, the chopper resumes at once. -/
def execVgdUvDeassert (q : Quay) (s : State) : Res :=
  let b := match q with | .north => 0 | .south => 1
  .next ((s.clrb PWR_VGDSTAT b).chopApply q)

/-- VGD_OVERVOLTAGE: above 14.5 V for 10 µs, or below 14.0 V again (R206, R207). -/
def execVgdOvervoltage (above : Bool) (s : State) : Res :=
  .next (
    if !above then s.clrb PWR_VGDSTAT 2
    else if !s.awake || s.flag PWR_VGDSTAT 2 then s
    else ((s.setb PWR_VGDSTAT 2).setb PWR_VGDFLAGS 2).raiseAll 0x42 PWR_VGDFLAGS)

/-- BUS_CONVERSION: the quay bus is converted (R226); OVN and OVS show whether it stands above ON (0.1 V units). -/
def execBusConversion (q : Quay) (v : Int) (s : State) : Res :=
  let v := min (max v (-131072)) 131071
  let on : Nat := s.pget (match q with | .north => 0x121 | .south => 0x124) 9 0
  .next (if !s.awake then s else (s.modQuay q fun k => { k with vbus := v }).putb PWR_BRKSTAT (brkBit 0 q) (decide ((200 * on : Int) < v)))

end Sys2Proof.Machine
end

