-- ==== Sys2Proof/Machine/Operands.lean ====
section
/-! DEFINITION. The number formats and functions of the engine (R10, R11, R249, R250, R271, R275): saturation, rounding,
square root, cosine and sine, arctangent, the natural logarithm of R339. -/

namespace Sys2Proof.Machine

/-- Clamp to `lo .. hi`. -/
def clampI (x lo hi : Int) : Int := max lo (min x hi)
/-- A correction of the tide rate, in 2^-16 tick per tide period, within its limit of 1/1024 of the rate (R508). -/
def corrOf (c : Int) : Int := clampI c (-16384) 16384
/-- Saturation to signed 18 bits (R249). -/
def sat18 (x : Int) : Int := clampI x (-131072) 131071
/-- Saturation of an integrator to signed 36 bits (R249). -/
def sat36 (x : Int) : Int := clampI x (-(2 ^ 35)) (2 ^ 35 - 1)
/-- Division rounded to nearest, ties toward plus infinity, by a positive divisor. -/
def rdiv (a b : Int) : Int := (2 * a + b) / (2 * b)
/-- rnd of R249 without its saturation: (y + 0x8000) >> 16. -/
def rnd16 (y : Int) : Int := (y + 0x8000) / 65536
/-- Sign: -1, 0 or 1. -/
def sgnI (x : Int) : Int := if 0 < x then 1 else if x < 0 then -1 else 0
/-- A signed 18-bit value of an angle difference (R275 wrap). -/
def wrap18 (x : Int) : Int := (x + 131072) % 262144 - 131072
/-- An angle modulo a turn (R11). -/
def ang (x : Int) : Nat := (x % 262144).toNat

/-- Bitwise square root: the largest `r` built on `r0` from bits below `k` with `r * r ≤ n`. -/
def isqrtGo (n : Nat) : Nat → Nat → Nat
  | 0, r => r
  | k + 1, r => if (r + 2 ^ k) * (r + 2 ^ k) ≤ n then isqrtGo n k (r + 2 ^ k) else isqrtGo n k r

/-- Integer square root, rounded down (R249), of values below 2^80. -/
def isqrt (n : Nat) : Nat := isqrtGo n 40 0

/-- One Taylor step: `t * x^2 / (d (d+1))` in 2^-40 fixed point. -/
def taylorGo (x2 : Int) : Nat → Nat → Int → Int
  | 0, _, _ => 0
  | k + 1, d, t =>
      let t' := -(t * x2 / 2 ^ 40) / (d * (d + 1))
      t' + taylorGo x2 k (d + 2) t'

/-- Sine of `x` in 2^-40 fixed point, for 0 ≤ x ≤ pi/2. -/
def sinFix (x : Int) : Int := x + taylorGo (x * x / 2 ^ 40) 9 2 x

/-- Sine of an angle code in 2^-40 fixed point. -/
def sinAng (a : Nat) : Int :=
  let a := a % 262144
  let q := a / 65536
  let r := a % 65536
  let x : Nat → Int := fun r => (1727108826179 * r : Int) / 65536
  match q with
  | 0 => sinFix (x r)
  | 1 => sinFix (x (65536 - r))
  | 2 => -sinFix (x r)
  | _ => -sinFix (x (65536 - r))

/-- Cosine of an angle code in 2^-40 fixed point. -/
def cosAng (a : Nat) : Int := sinAng (a + 65536)

/-- The nearest Q2.16 value of a 2^-40 fixed-point number. -/
def toQ16 (x : Int) : Int := (x + 2 ^ 23) / 2 ^ 24

/-- Search of the angle of a first-quadrant vector, bit by bit. -/
def atanGo (u v : Int) : Nat → Nat → Nat
  | 0, a => a
  | k + 1, a =>
      let t := a + 2 ^ k
      if u * sinAng t ≤ v * cosAng t then atanGo u v k t else atanGo u v k a

/-- The angle code of the vector (x, y), rounded down; 0 for the zero vector. -/
def atanCode (y x : Int) : Nat :=
  if 0 < x ∧ 0 ≤ y then atanGo x y 16 0
  else if x ≤ 0 ∧ 0 < y then 65536 + atanGo y (-x) 16 0
  else if x < 0 ∧ y ≤ 0 then 131072 + atanGo (-x) (-y) 16 0
  else if 0 ≤ x ∧ y < 0 then 196608 + atanGo (-y) x 16 0
  else 0

/-- Sum of the odd powers of `z` over their degrees, in 2^-60 fixed point. -/
def lnGo (z2 : Int) : Nat → Nat → Int → Int
  | 0, _, _ => 0
  | k + 1, d, t => t / d + lnGo z2 k (d + 2) (t * z2 / 2 ^ 60)

/-- Natural logarithm of `a / b` for positive `a`, `b`, in 2^-60 fixed point: a power of two is taken out, the rest is
2 artanh((m-1)/(m+1)). -/
def lnFix (a b : Nat) : Int :=
  let e : Int := (Nat.log2 a : Int) - Nat.log2 b
  let num : Int := if 0 ≤ e then a else a * 2 ^ (-e).toNat
  let den : Int := if 0 ≤ e then b * 2 ^ e.toNat else b
  let z : Int := (num - den) * 2 ^ 60 / (num + den)
  e * 799144290325165979 + 2 * lnGo (z * z / 2 ^ 60) 40 1 z

/-! ### Engine arithmetic with its side effects -/

/-- What engine arithmetic leaves behind: a saturation occurred (BF_EVT.SAT), and the next free value. -/
structure Fx where
  sat : Bool
  k : Nat

/-- An engine computation. -/
abbrev Eng (α : Type) := StateM Fx α

/-- Saturation that sets BF_EVT.SAT (R249). -/
def satE (x : Int) : Eng Int := fun f =>
  let y := sat18 x
  (y, { f with sat := f.sat || y != x })

/-- rnd of R249. -/
def rndE (y : Int) : Eng Int := satE (rnd16 y)

/-- A free error in `-m .. m`. -/
def errE (m : Nat) : Eng Int := fun f => ((Config.free f.k % (2 * m + 1) : Nat) - (m : Int), { f with k := f.k + 1 })

/-- Cosine and sine in Q2.16, each within 2 LSB of exact (R249): the nearest value and a free error. -/
def sincosE (a : Nat) : Eng (Int × Int) := do
  let ec ← errE 2
  let es ← errE 2
  return (sat18 (toQ16 (cosAng a) + ec), sat18 (toQ16 (sinAng a) + es))

/-- An angle within 4 LSB of that of (x, y) (R275), which the free value `k` chooses. Only an axis or a diagonal has a
whole code as its angle, and the codes within 4 of it are nine; otherwise they are eight, from 3 below `atanCode` to 4
above it. Of the zero vector the spec states no angle: a free one. -/
def atanFree (y x : Int) (k : Nat) : Nat :=
  let f := Config.free k
  if y = 0 ∧ x = 0 then f % 262144
  else if y = 0 ∨ x = 0 ∨ y.natAbs = x.natAbs then ang (atanCode y x + ((f % 9 : Nat) - 4 : Int))
  else ang (atanCode y x + ((f % 8 : Nat) - 3 : Int))

/-- atan2 as an 18-bit angle within 4 LSB (R275). -/
def atan2E (y x : Int) : Eng Nat := fun f => (atanFree y x f.k, { f with k := f.k + 1 })

/-! ### Quantities of a berth -/

/-- A result code as a per-unit value with scale `m` and shift `sh` (R250). -/
def scaleE (code : Int) (m sh : Nat) : Eng Int :=
  satE ((code * m + (if sh = 0 then 0 else 2 ^ (sh - 1))) / 2 ^ sh)

/-- The angle advance of one update of `d` tide periods (R271): omega * WBASE / 10 * d * 50 ns * 2^18 codes. -/
def adv (omega : Int) (wbase d : Nat) : Int := rdiv (omega * wbase * d) 50000000

/-- The per-unit time of an update of `d` tide periods (R271), Q2.16: 2 pi * WBASE / 10 * d * 50 ns. -/
def dtpOf (wbase d : Nat) : Int := rdiv (6908435304715 * wbase * d * 65536) (200000000 * 2 ^ 40)

/-- Fixed thresholds (R272). -/
abbrev WCATCH : Int := 0x7AE
abbrev WCIC : Int := 0xCCD
abbrev WOBS : Int := 0x147B
abbrev WHAND : Int := 0x199A
abbrev LOSTANG : Int := 0x5555
/-- 2 ms, 20 ms, 10 ms, 5 ms and 1 s in tide periods. -/
abbrev LOSTT : Nat := 40000
abbrev TLISTEN : Nat := 400000
abbrev TRECATCH : Nat := 200000
abbrev THAND : Nat := 100000
abbrev oneSecond : Nat := 20000000
/-- Attempts within any 1 s (R272). -/
abbrev NATTEMPT : Nat := 3

/-- Tide periods from `t0` to `t1`, modulo the wrap of the tide time (R138). -/
def since (t1 t0 : Nat) : Nat := (t1 + 2 ^ 54 - t0 % 2 ^ 54) % 2 ^ 54

end Sys2Proof.Machine
end

