-- ==== Sys2Proof/Machine/Sensing.lean ====
section
/-! DEFINITION. Phase current and voltage sensing (chapter 7): samples, result sets, failed channels, open phases,
offset calibration; the token handed to the engine and the deadline miss (R243, R259). -/

namespace Sys2Proof.Machine

/-! ### Misses and tokens (chapter 8) -/

/-- A deadline miss of berth `n` (R259). A raised DIV samples in the next period first (R219). -/
def State.miss (s : State) (n : Berth) : State :=
  let s1 := ((s.incSat (ba n BF_MISSCNT)).bset n BF_EVT 1).modBerth n fun b => { b with accRow := 0 }
  let c := s.bget n BF_STAT 7 6 + 1
  if c < 4 then s1.bput n BF_STAT 7 6 c
  else
    let s2 := (s1.bput n BF_STAT 7 6 0).raiseBerth n 6
    let d := s.bget n BS_CTL 5 3
    if d < 7 then
      ((((s2.bput n BS_CTL 5 3 (d + 1)).bset n BF_EVT 2).bputb n BF_STAT 0 (decide ((s.berth n).divMf < d + 1))).modPwm n
        fun q => { q with divCnt := d + 1, divAt := s.tickOf n })
    else s2.stopRequest n

/-- The berth hands its result set `ws` to the engine as a token (R222, R243, R245). -/
def State.handOver (s : State) (n : Berth) (ws : List Word) : State :=
  let st := s.bst n
  if st = stDrydock ∨ st = stOut ∨ (s.berth n).noToken then s
  else
    let q := (s.berth n).sens
    let tok : Token := { due := q.due, target := q.target, at_ := q.heldAt, words := ws }
    let s1 := if (s.berth n).waiting.isSome then s.miss n else s
    s1.modBerth n fun b => { b with waiting := some tok }

/-! ### Conditions on a sample -/

/-- Berth `n` runs the starting programs (R245, R546). -/
def State.starting (s : State) (n : Berth) : Bool :=
  let st := s.bst n
  st == stStarting || st == stRecatch || (st == stSeaTrial && !(s.berth n).start.closed && s.bget n BO_PHASE 3 0 != 0)

/-- The samples of the click probe and of pulse braking follow their pulses (R284, R295). -/
def State.pulsed (s : State) (n : Berth) : Bool :=
  let ph := s.bget n BO_PHASE 3 0
  s.starting n && (ph == 5 || ph == 4 && !(s.berth n).start.listening)

/-- The loop engine closes the current loop of berth `n` (R233, R239, R245). -/
def State.loopClosed (s : State) (n : Berth) : Bool :=
  let st := s.bst n
  let ph := s.bget n BO_PHASE 3 0
  s.bflag n BP_CTL 0 && !s.bflag n BP_TRIP 6 && !s.bflag n BP_FORCE 6 &&
    (st == stRunning || st == stHolding || st == stStopping || st == stUnmooring ||
      (st == stSeaTrial && (s.berth n).start.closed) || ph == 6 || ph == 7 || ph == 8 || ph == 9)

/-- The reference currents that the checks of a sample use: 0 while every switch is off (R234, R239). -/
def State.refI (s : State) (n : Berth) : Tri Int :=
  if s.loopClosed n && !s.allOff n then (s.berth n).sens.rp else Tri.all 0

/-! ### Failed channels (R232 to R238) -/

/-- A current channel is declared failed (R235, R236). -/
def State.failCurrent (s : State) (n : Berth) (p : Phase) : State :=
  if s.bflag n BS_SENSE (3 + p.idx) then s
  else
    let second := s.bget n BS_SENSE 5 3 != 0
    let s1 := (s.bset n BS_SENSE (3 + p.idx)).bset n BS_SENSE 2
    s1.raiseBerth n 4 (if second then 4 else 0)

/-- A voltage channel is declared failed (R237); listening then becomes impossible (R277). -/
def State.failVoltage (s : State) (n : Berth) (p : Phase) : State :=
  if s.bflag n BS_SENSE (6 + p.idx) then s
  else ((s.bset n BS_SENSE (6 + p.idx)).bset n BO_STAT 6).raiseBerth n 4

/-- Leaving drydock with every channel passed restores the failed channels (R238). -/
def State.restoreChannels (s : State) (n : Berth) : State :=
  ((((s.bput n BS_SENSE 5 3 0).bput n BS_SENSE 8 6 0).bclr n BS_SENSE 2).bclr n BS_SENSE 12).bclr n BO_STAT 6

/-! ### The result set -/

/-- A current result: correction, saturation and OVR (R224). -/
def curResult (raw ofs g : Int) : Int × Bool :=
  let r := rnd16 ((raw - ofs) * g)
  (sat18 r, decide (r ≠ sat18 r) || decide (raw = 131071) || decide (raw = -131072))

/-- A voltage result: offset subtracted with saturation; a raw code at its limit is a value outside the range (R225;
DEDUCED, log entry 120). -/
def volResult (raw ofs : Int) : Int × Bool :=
  (sat18 (raw - ofs), decide (raw - ofs ≠ sat18 (raw - ofs)) || decide (raw = 131071) || decide (raw = -131072))

/-- Identification of the failed channel after N sum errors (R234): none means INDET. -/
def identify (i rp : Tri Int) (thr : Nat) : Option Phase :=
  let e : Phase → Nat := fun p => (i.get p - rp.get p).natAbs
  let pm : Phase := if e .v ≤ e .u ∧ e .w ≤ e .u then .u else if e .w ≤ e .v then .v else .w
  let es : Nat := (phases.filter fun p => p != pm).foldl (fun m p => max m (e p)) 0
  if thr ≤ e pm ∧ 2 * es ≤ e pm then some pm else none

/-- The currents of the result set with the failed phase reconstructed (R235). -/
def State.reconstruct (s : State) (n : Berth) (i : Tri Int) : Tri Int :=
  match s.bget n BS_SENSE 5 3 with
  | 1 => { i with u := sat18 (-(i.v + i.w)) }
  | 2 => { i with v := sat18 (-(i.u + i.w)) }
  | 4 => { i with w := sat18 (-(i.u + i.v)) }
  | _ => i

/-- The sample has a sum error (R233). -/
def State.sumError (s : State) (n : Berth) (i : Tri Int) : Bool :=
  s.bget n BS_SENSE 5 3 == 0 && (s.loopClosed n || s.allOff n) &&
    decide (s.bget n BS_SUMTHR 16 0 < (i.u + i.v + i.w).natAbs)

/-- The sum check of one sample and, at N errors, the identification (R233, R234). -/
def State.sumCheck (s : State) (n : Berth) (i : Tri Int) : State :=
  if s.bget n BS_SENSE 5 3 != 0 then s
  else if !s.sumError n i then s.modSens n fun q => { q with sumCnt := 0 }
  else
    let s1 := s.bset n BS_EVT 7
    let c := (s.berth n).sens.sumCnt + 1
    if c < s.bget n BS_SUMN 3 0 then s1.modSens n fun q => { q with sumCnt := c }
    else
      let s2 := s1.modSens n fun q => { q with sumCnt := 0 }
      match identify i (s.refI n) (s.bget n BS_SUMTHR 16 0) with
      | some p => s2.failCurrent n p
      | none => (s2.bset n BS_SENSE 12).raiseBerth n 4 4

/-- A phase is declared open (R240). -/
def State.openPhase (s : State) (n : Berth) (p : Phase) : State :=
  let o := s.bget n BS_SENSE 11 10
  if o = p.idx + 1 then s
  else if o != 0 then s.raiseBerth n 3 4
  else
    let s1 := (s.bput n BS_SENSE 11 10 (p.idx + 1)).raiseBerth n 3
    if s.bflag n BS_CTL 8 then s1.bset n BS_SENSE 9 else s1.stopRequest n

/-- The open-phase windows of one sample; `err`: it has a sum error (R239). -/
def State.openCheck (s : State) (n : Berth) (i : Tri Int) (err : Bool) : State :=
  let q := (s.berth n).sens
  let dt := since q.heldAt q.last
  if !s.loopClosed n then s
  else if err then s.modSens n fun q => { q with q := Tri.all 0 }
  else s.forAll phases fun s p =>
    if s.bget n BS_OPLOW 16 0 ≤ (i.get p).natAbs then s.modSens n fun q => { q with q := q.q.set p 0 }
    else
      let a := q.q.get p + ((s.refI n).get p).natAbs * dt
      if s.bnat n BS_OPQ * 65536 * 20 ≤ a then (s.modSens n fun q => { q with q := q.q.set p 0 }).openPhase n p
      else s.modSens n fun q => { q with q := q.q.set p a }

/-- Consecutive samples of a current channel at its raw limit while its comparator detects nothing in the period of the
sample; the fourth fails the channel (R232). -/
def State.limitCheck (s : State) (n : Berth) (raw : Tri Int) : State :=
  s.forAll phases fun s p =>
    let r := raw.get p
    let q := (s.berth n).sens
    let det := (s.leg n p).scAt.any fun t => q.heldPer.1 ≤ t && t < q.heldPer.2
    let c := if (r = 131071 ∨ r = -131072) ∧ !det then q.limI.get p + 1 else 0
    let s1 := s.modSens n fun q => { q with limI := q.limI.set p c }
    if 4 ≤ c then s1.failCurrent n p else s1

/-- Consecutive samples of a voltage channel beyond BS_VBUS + 3.0 V; the fourth fails the channel (R237). -/
def State.voltageCheck (s : State) (n : Berth) (v : Tri Int) (vbus : Int) : State :=
  s.forAll phases fun s p =>
    let c := if vbus + 6000 < ((v.get p).natAbs : Int) then (s.berth n).sens.limV.get p + 1 else 0
    let s1 := s.modSens n fun q => { q with limV := q.limV.set p c }
    if 4 ≤ c then s1.failVoltage n p else s1

/-- The result set of the held sample is written in one step, the checks run, and the token is handed over (R222 to
R227, R232 to R240). `late` holds the channels that timed out (R223). -/
def State.resultSet (s : State) (n : Berth) (raw : RawSet) (late : Channels) : State :=
  if !(s.berth n).sens.held then s
  else
    let cur : Phase → Int × Bool := fun p =>
      curResult (raw.i.get p) (s.bint n (BS_OFSIU + p.idx)) (s.bnat n (BS_GAINU + p.idx))
    let vol : Phase → Int × Bool := fun p => volResult (raw.v.get p) (s.bint n (BS_OFSVU + p.idx))
    let i0 : Tri Int := ⟨(cur .u).1, (cur .v).1, (cur .w).1⟩
    let v0 : Tri Int := ⟨(vol .u).1, (vol .v).1, (vol .w).1⟩
    let vbus := (s.berth n).sens.heldBus
    let s1 := s.forAll phases fun s p =>
      let s' := if (cur p).2 then s.bset n BS_EVT p.idx else s
      if (vol p).2 then s'.bset n BS_EVT (3 + p.idx) else s'
    let s2 := s1.forAll phases fun s p =>
      let s' := if late.i.get p then s.failCurrent n p else s
      if late.v.get p then s'.failVoltage n p else s'
    let s3 := (s2.limitCheck n raw.i).voltageCheck n v0 vbus
    let err := s3.sumError n i0
    let s4 := s3.sumCheck n i0
    let i := s4.reconstruct n i0
    let s4 := s4.openCheck n i err
    let v : Phase → Int := fun p => if s4.bflag n BS_SENSE (6 + p.idx) then 0 else v0.get p
    let d := (s.berth n).sens.delay
    let g := 2 * s.bget n BS_GUARD 11 0
    let ws : List Word := [wd i.u, wd i.v, wd i.w, wd (v .u), wd (v .v), wd (v .w), wd vbus, s.brd n BS_SCNT + 1,
      BitVec.ofNat 18 ((if d = 0 then 0 else 2 ^ 17 + (if d = g then 2 ^ 16 else 0)) + d % 8192)]
    let s5 := s4.wrs (ws.zipIdx.map fun p => (ba n (BS_IU + p.2), p.1))
    (s5.modSens n fun q => { q with held := false, last := q.heldAt }).handOver n ws

/-- The present period is a sampled one: one in D, counted from the load or write that made DIV active (R219, R220). -/
def State.sampledPeriod (s : State) (n : Berth) (B : Nat) : Bool :=
  let pw := (s.berth n).pwm
  let D := s.bget n BS_CTL 5 3 + 1
  match pw.run with
  | .running => pw.divCnt % D == 0
  | .off =>
      let td := s.alignTD n
      let B0 := alignedFrom pw.divAt td.1 td.2
      decide (B0 ≤ B) && (td.1 == 0 || (B - B0) / td.1 % D == 0)
  | _ => false

/-- The six inputs are held for the sample programmed for tick `p` of the period from `B`, `d` ticks later; the bus result
is copied, and the target load point is the Dth after the hold (R217, R221, R226, R258). -/
def State.hold (s : State) (n : Berth) (B p d : Nat) : State :=
  let D := s.bget n BS_CTL 5 3 + 1
  let pw := (s.berth n).pwm
  let T := (if pw.run = .off then s.activeForce n else pw.force).per * s.prescale n
  let lp := B + T - 512
  (s.modPwm n fun q => { q with sampAt := some p, late := none }).modSens n fun q => { q with
    held := true, heldAt := s.tide.now, delay := d, target := D, heldBus := (s.quay n.quay).vbus, heldPer := (B, B + T)
    due := (if p + d < lp then lp else lp + T) + (D - 1) * T }

/-- SAMPLE: the sample instant, postponed by the guards after commanded edges (R217 to R221). A berth samples in service,
once in a sampled period, outside a calibration (R228) and a debug halt (R262); in the click probe and in pulse braking
once in each pulse (R284, R295). -/
def execSample (n : Berth) (s : State) : Res :=
  let pw := (s.berth n).pwm
  let q := pw.late.getD (s.sampleAt n)
  let d := s.postpone n q.2
  let f := if pw.run = .off then s.activeForce n else pw.force
  .next (
    if !s.inService || s.outOfUse n || s.halted || s.bflag n BS_SENSE 13 then s
    else if s.pulsed n then s.hold n q.1 (s.tickOf n) 0
    else if pw.sampAt == some q.2 || !(pw.late.isSome || s.sampledPeriod n q.1) then s
    else
      let s1 := if d = 0 then s else
        let s' := s.bset n BS_EVT 9
        if d = 2 * s.bget n BS_GUARD 11 0 then s'.bset n BS_EVT 10 else s'
      let s2 := if f.per ≤ f.sampt then s1.bset n BS_EVT 8 else s1
      s2.hold n (if pw.late.isSome then pw.perStart else q.1) q.2 d)

/-- RESULT_SET: the six conversions complete (R222). -/
def execResultSet (n : Berth) (raw : RawSet) (s : State) : Res :=
  .next (s.resultSet n raw { i := Tri.all false, v := Tri.all false })

/-- CONVERSION_TIMEOUT: at least one conversion has not completed 2 µs after hold; the set is written with every such
channel failed (R223). -/
def execConversionTimeout (n : Berth) (late : Channels) (raw : RawSet) (s : State) : Res :=
  .next (if (late.i.toList ++ late.v.toList).any id then s.resultSet n raw late else s)

/-! ### Offset calibration (R228 to R230) -/

/-- One channel's new offset (R228, R230). -/
def State.calChannel (s : State) (n : Berth) (off : Nat) (sum : Int) (timeout : Bool) (fail : State → State) : State :=
  let o := (sum + 128) / 256
  if timeout || 2048 < o.natAbs then fail (s.bset n BS_EVT 6) else s.bwr n off (wd o)

/-- A calibration completes (R228, R230, R232, R237); in drydock PHASE goes back to docked (R543). -/
def State.calDone (s : State) (n : Berth) (c : CalSums) : State :=
  let s1 := s.forAll phases fun s p =>
    (s.calChannel n (BS_OFSIU + p.idx) (c.i.get p) (c.iTimeout.get p) fun s => s.failCurrent n p).calChannel n
      (BS_OFSVU + p.idx) (c.v.get p) (c.vTimeout.get p) fun s => s.failVoltage n p
  let s2 := (s1.bclr n BS_SENSE 13).bclr n BS_SENSE 14
  if s.get (DD_BSTAT0 + n.val) 2 0 = 3 then s2.put (DD_BSTAT0 + n.val) 2 0 2 else s2

end Sys2Proof.Machine
end

