-- ==== Sys2Proof/Machine/Engine.lean ====
section
/-! DEFINITION. The loop engine (chapter 8) and step 3 of its update (chapter 9): what a token computes, and the frames of
BF_, BO_ and BL_ registers that it writes. -/

namespace Sys2Proof.Machine

/-! ### FET losses (R336) -/

/-- Amperes of one Q2.16 code: the power base of BL_PSCALE over the voltage base that BF_VSCALE implies (log entry 7). -/
def State.ampPerCode (s : State) (n : Berth) : Rat :=
  (s.bnat n BL_PSCALE : Rat) / 10 * (s.bnat n BF_VSCALE * 2000 : Nat) /
    ((65536 * 65536 * 2 ^ s.bget n BF_SHIFT 9 5 : Nat) : Rat)

/-- Losses of the two FETs of a phase in µW, high side first (R336), for a current `i` in amperes. -/
def fetLossOf (i vb f dh dl dtf rds tcr vf tHi tLo ton toff : Rat) (hardOn : Bool) : Nat × Nat :=
  let ai := if i < 0 then -i else i
  let ph := i * i * (rds * (1 + tcr * (tHi - 25))) * dh
  let pl := i * i * (rds * (1 + tcr * (tLo - 25))) * dl
  let pd := vf * ai * dtf
  let sw := if hardOn then vb / 2 * ai * (ton + toff) * f else 0
  let r := if 0 ≤ i then (ph + sw, pl + pd) else (ph + pd, pl + sw)
  ((r.1 * 1000000).floor.toNat, (r.2 * 1000000).floor.toNat)

/-- Temperature of a node in °C. -/
def Node.degC (j : Node) : Rat := (j.t1 : Rat) / 64

/-- The losses of the six FETs of berth `n` at this token, nodes 6n to 6n + 5, in µW. A hard switch whose command is no longer than DT
(R151), or that a protection holds off, does not turn on. -/
def State.fetLoss (s : State) (n : Berth) (i : Tri Int) : List (Nat × Nat) :=
  let T : Nat := s.bnat n BP_PERIODA * s.prescale n
  let dt : Nat := s.bget n BP_DEADTA 13 0
  let row (a hi lo : Nat) : Rat := (s.get (a + n.val) hi lo : Rat)
  let tick : Rat := (1 : Rat) / 5120000000
  let run := s.bflag n BP_CTL 0 && !s.bflag n BP_TRIP 6
  phases.map fun p =>
    let on := s.bnat n (0x12 + 2 * p.idx)
    let off := s.bnat n (0x13 + 2 * p.idx)
    let per := s.bnat n BP_PERIODA
    let cnt : Nat := if per < on ∨ per < off then per else if on ≤ off then off - on else per - on + off
    let hiT := cnt * s.prescale n
    let dh : Rat := if run && T != 0 then ((hiT - dt : Nat) : Rat) / T else 0
    let dl : Rat := if run && T != 0 then ((T - hiT - dt : Nat) : Rat) / T else if (s.leg n p).lo then 1 else 0
    let ia : Rat := (i.get p : Rat) * s.ampPerCode n
    let hard : Side := if 0 ≤ i.get p then .high else .low
    let eo := BG_EDGEHU + switchIdx p hard
    let uv := s.vgdUv n.quay
    let turnsOn := match hard with
      | .high => decide (dt < hiT) && !(s.leg n p).blockHi uv
      | .low => decide (dt < T - hiT) && !(s.leg n p).blockLo uv
    let node (k : Nat) : Rat := (s.therm.nodes.getD (6 * n.val + 2 * p.idx + k) {}).degC
    fetLossOf ia (((s.bint n BS_VBUS : Int) : Rat) / 2000) (if T = 0 then 0 else (5120000000 : Rat) / T) dh dl
      (if run && T != 0 then ((2 * dt : Nat) : Rat) / T else 0)
      (row 0x870 17 0 / 100000) (row 0x880 17 10 / 10000) (row 0x880 9 0 / 1000) (node 0) (node 1)
      ((s.bget n eo 11 0 : Rat) * tick) (row 0x890 11 0 * tick)
      (run && cnt != 0 && cnt != per && turnsOn && !s.bflag n eo 16)

/-! ### References and limits around the loop -/

/-- thstep of a unit (R351). -/
def State.thStep (s : State) (u : Nat) : Nat := (s.therm.units.getD u {}).step

/-- Phases of a start in which the current loop runs and packages are sent (R245). -/
def packagePhase (ph : Nat) : Bool := ph == 6 || ph == 7 || ph == 8 || ph == 9

/-- Berth `n` runs the full loop update (R245). -/
def State.fullLoop (s : State) (n : Berth) : Bool :=
  let st := s.bst n
  st == stRunning || st == stHolding || st == stStopping || st == stUnmooring || (st == stSeaTrial && !s.starting n)

/-- The running floor of R290 is kept: L-class, or H-class with NOSAL. -/
def State.floored (s : State) (n : Berth) : Bool := !isH n || s.bflag n BO_STAT 7

/-- Cicada mode is available to berth `n` (R278, R282). -/
def State.cicada (s : State) (n : Berth) : Bool := isH n && s.bflag n BO_CTL 4 && !s.bflag n BO_STAT 7

/-- Position error of a positioner in 2^-16 revolutions (R305): BO_PTGT - BO_POS. -/
def State.perrRev (s : State) (n : Berth) : Int :=
  let tgt := s.bint n BO_PTGT1 * 262144 + s.bnat n BO_PTGT0
  (tgt - (s.berth n).ctl.pos) / 4

/-- |BO_PTGT - BO_POS| in 2^-18 revolutions. -/
def State.perrAbs (s : State) (n : Berth) : Nat :=
  (s.bint n BO_PTGT1 * 262144 + s.bnat n BO_PTGT0 - (s.berth n).ctl.pos).natAbs

/-- A derate is the reaction in force on berth `n` (R400). -/
def State.derated (s : State) (n : Berth) : Bool :=
  s.coll.pend.any fun p => s.pendOn p n == 2

/-- The speed reference of an update (R251, R290, R301, R304, R305, R329, R400, R546), and whether the floor raised it. -/
def State.wrefOf (s : State) (n : Berth) : Eng (Int × Bool) := do
  let st := s.bst n
  let b := s.berth n
  let floor (w : Int) : Int × Bool :=
    if s.floored n ∧ (st = stRunning ∨ (st = stSeaTrial ∧ b.start.closed)) ∧ w.natAbs < WHAND.natAbs then
      ((if w < 0 ∨ (w = 0 ∧ s.bflag n BD_STAT 2) then -WHAND else WHAND), true)
    else (w, false)
  if st = stStopping ∨ st = stUnmooring ∨ b.start.trialStop then return (b.start.stopRef, false)
  else if b.start.homing then
    return ((if b.start.fwd then (s.bnat n BO_HOMESPD : Int) else -(s.bnat n BO_HOMESPD : Int)), false)
  else if s.bflag n BD_CTL 17 then
    let v0 : Int := s.bnat n BO_POSVMAX
    let v1 := if s.derated n then min v0 (s.bnat n BE_DERLIM) else v0
    let v2 := if st = stSeaTrial then min v1 ((s.prd 0xC41).toNat : Int) else v1
    let w := clampI (← rndE (s.bnat n BO_KPOS * (← satE (s.perrRev n)))) (-v2) v2
    return if s.bnat n BO_POSBAND < s.perrAbs n then floor w else (w, false)
  else return floor (s.bint n BD_WREF)

/-- Current limit in force of step 5 (R235, R251, R304, R546). -/
def State.ilimOf (s : State) (n : Berth) : Eng Int := do
  let mut i : Int := (s.bnat n BF_ILIM * (16 - s.thStep n.val)) / 16
  if s.bflag n BS_SENSE 2 then i ← rndE (i * 0xB333)
  if s.bst n = stSeaTrial then i ← rndE (i * ((s.prd 0xC40).toNat : Int))
  if (s.berth n).start.homing then i := min i (s.bnat n BO_HOMEI)
  return i

/-! ### What a token computes -/

/-- Injection cosine and sine of k * 45° (R279). -/
def c8 (k : Nat) : Int := toQ16 (cosAng (k % 8 * 32768))
def s8 (k : Nat) : Int := toQ16 (sinAng (k % 8 * 32768))

/-- The result of a token: control state, registers and bits it writes, and its package. -/
structure TokOut where
  ctl : Ctl
  writes : List (Nat × Word) := []
  bits : List (Nat × Nat × Bool) := []
  pkg : Option Pkg := none
  /-- Measured voltages of R275, their vector in the stationary frame, and the current vector. -/
  vam : Int := 0
  vbm : Int := 0
  ialpha : Int := 0
  ibeta : Int := 0
  imax : Int := 0
  /-- pin in Q4.32 pu, pout times 2 in Q.64 pu (R267). -/
  pin : Int := 0
  pout2 : Int := 0
  vlim : Bool := false
  limpActed : Bool := false
  wref : Int := 0

/-- Angle source of step 3 (R276): 0 starting programs or stopped, 1 observer, 2 blend, 3 cicada, 4 hold. -/
def State.angleSource (s : State) (n : Berth) : Nat :=
  let st := s.bst n
  let w := (s.berth n).ctl.omega.natAbs
  if st = stHolding then 4
  else if st = stRunning ∨ st = stStopping ∨ st = stUnmooring ∨ (st = stSeaTrial ∧ !s.starting n) then
    if !s.cicada n ∨ WOBS.natAbs ≤ w then 1 else if WCIC.natAbs ≤ w then 2 else 3
  else if s.starting n ∧ (s.bget n BO_PHASE 3 0 = 7 ∨ s.bget n BO_PHASE 3 0 = 8) then 3
  else 0

/-- The demodulation of one update (R279), corrected for the delay of one update: the sample answers the injection of the
update before. New sums of the stationary frame or the d-axis response, and of the q-axis response. -/
def Ctl.demod (c : Ctl) (rot pol : Bool) (ialpha ibeta id iq : Int) : Int × Int × Int :=
  let k := c.k8 + 7
  let z (h : Int) : Int := if c.k8 = 0 then 0 else h
  (z c.h1 + (if rot then ialpha * c8 k - ibeta * s8 k else if pol then id * c8 k else 0),
   z c.h2 + (if rot then ialpha * s8 k + ibeta * c8 k else if pol then id * s8 k else 0),
   z c.hq + (if rot then 0 else iq * s8 k))

/-- ecic at k = 7, in the frame of the latest angle in use moved on by one update (R279), and the terrp that it gives the
tracking loop with its angle in codes (R280). A BO_SAL of 0 has no quotient: a free one. -/
def cicadaE (s : State) (n : Berth) (d : Nat) (rot : Bool) (ialpha ibeta : Int) : Eng (Int × Int) := do
  let c := (s.berth n).ctl
  let th := (c.thPrev : Int) + adv c.omega (s.bnat n BO_WBASE) d
  let (cs, sn) ← sincosE (ang (if rot then 2 * th else th))
  let h := c.demod rot false ialpha ibeta 0 (← rndE (ibeta * cs - ialpha * sn))
  let ecic ← if rot then rndE ((← rndE (h.2.1.tdiv 4)) * cs - (← rndE (h.1.tdiv 4)) * sn) else rndE (h.2.2.tdiv 4)
  let sal := s.bint n BO_SAL
  let fr := (← get).k
  modify fun f => { f with k := f.k + 1 }
  let terrp ← if sal = 0 then pure (wrap18 (Config.free fr)) else rndE ((ecic * 0x10000).tdiv sal)
  return (terrp, wrap18 (rdiv (terrp * 65536) 0x19220))

/-- The observer and tracking loop (R275, R280, R283), and the angle and speed in use. `hold`: the states are kept
(probe pulses and brakes). `cic`: terrp of cicada mode and its angle, at k = 7. Between those updates the cicada loop
turns on at its speed, and its error of R298 stands. -/
def observerE (s : State) (n : Berth) (d : Nat) (vam vbm ialpha ibeta : Int) (src : Nat) (hold : Bool)
    (cic : Option (Int × Int)) : Eng (Ctl × Nat × Int) := do
  let c := (s.berth n).ctl
  if hold then return (c, c.theta, c.omega)
  let dtp := dtpOf (s.bnat n BO_WBASE) d
  let rs : Int := s.bnat n BO_RS
  let lq : Int := s.bnat n BF_LQ
  let ld : Int := s.bnat n BF_LD
  let psi : Int := s.bnat n BF_PSI
  let g : Int := s.bnat n BO_OBSG
  let xa0 := sat36 (c.xa + (vam - (← rndE (rs * ialpha))) * dtp)
  let xb0 := sat36 (c.xb + (vbm - (← rndE (rs * ibeta))) * dtp)
  let fa := (← rndE xa0) - (← rndE (lq * ialpha))
  let fb := (← rndE xb0) - (← rndE (lq * ibeta))
  let fm : Int := isqrt (fa * fa + fb * fb).toNat
  let fref ← satE (psi + (← rndE ((ld - lq) * c.idPrev)))
  let xa := if 0 < fm then sat36 (xa0 + (g * (fref - fm) * fa).tdiv fm) else xa0
  let xb := if 0 < fm then sat36 (xb0 + (g * (fref - fm) * fb).tdiv fm) else xb0
  let tho ← atan2E fb fa
  let terrO := wrap18 ((tho : Int) - c.theta)
  let z := cic.getD (0, 0)
  let w : Int := (((c.omega.natAbs : Int) - WCIC) * 65536) / (WOBS - WCIC)
  let lead ← if src = 3 then pure z.2 else if src = 2 then (do return z.2 + (← rndE (w * (terrO - z.2)))) else pure terrO
  let terr := if src = 3 ∧ cic.isNone then c.terr else lead
  let terrp ← if src = 3 then pure z.1 else rndE (lead * 0x19220)
  let omega ← satE (c.omega + (← rndE (s.bnat n BO_PLLKI * terrp)))
  let a := adv omega (s.bnat n BO_WBASE) d
  let theta := ang ((c.theta : Int) + a + (← rndE (s.bnat n BO_PLLKP * lead)))
  let used ← if src = 2 then (do return ang ((theta : Int) + (← rndE (w * wrap18 ((tho : Int) - theta))))) else pure theta
  return ({ c with xa := xa, xb := xb, theta := theta, omega := omega, terr := terr, tho := tho, fm := fm.toNat }, used, omega)

/-- On-times and compares of step 12 (R254 to R256): the three on-times in counts from phase voltages, vbus, and phase
reference currents. -/
def modulate (s : State) (n : Berth) (v : Tri Int) (vbus : Int) (r : Tri Int) : Tri Nat × Bool :=
  let P : Nat := s.bnat n BP_PERIOD
  let presc := s.prescale n
  let dt : Nat := s.bget n BP_DEADTA 13 0
  let band : Int := s.bnat n BF_DTCBAND
  let minpw := s.bget n BF_MINPW 12 0
  let mx := max v.u (max v.v v.w)
  let mn := min v.u (min v.v v.w)
  let voff := (-(mx + mn)) / 2
  let low := decide (vbus < 0x2000)
  let one (p : Phase) : Nat :=
    let nx := v.get p + voff
    let on0 : Int := (P / 2 : Nat) + (if low then 0 else rdiv (P * nx) vbus)
    let on1 := if s.bflag n BF_CTL 4 then on0 + rdiv (dt * clampI (r.get p) (-band) band) (presc * band) else on0
    let on := (clampI on1 0 P).toNat
    if on * presc < minpw then 0 else if (P - on) * presc < minpw then P else on
  (⟨one .u, one .v, one .w⟩, low)

/-- CMPON and CMPOFF of an on-time in a period of P counts (R256). -/
def placeCompare (P on : Nat) : Nat × Nat :=
  if on = 0 then (0, 0) else if on = P then (0, P) else ((P - on) / 2, (P - on) / 2 + on)

/-- The reference currents of the starting programs (R281, R287, R288) and HOLDING (R305): idr, iqr, when they replace
the speed loop. -/
def State.fixedRefs (s : State) (n : Berth) (d : Nat) : Option (Int × Int) :=
  let st := s.bst n
  let b := s.berth n
  let ph := s.bget n BO_PHASE 3 0
  if st = stHolding then some (s.bnat n BO_HOLDI, 0)
  else if !s.starting n then none
  else if ph = 6 then
    let half := s.bnat n BO_ALIGNT * 10000
    some (min (s.bnat n BO_OLI : Int) (s.bnat n BO_OLI * (since (s.tide.now + d) b.start.phAt) / half), 0)
  else if ph = 9 then some (0, s.bnat n BO_OLI * (if b.start.fwd then 1 else -1))
  else if ph = 8 then some (if b.start.polNeg then -(s.bnat n BO_POLI : Int) else s.bnat n BO_POLI, 0)
  else some (0, 0)

/-- What one token of berth `n` computes: steps 1 to 14 of R251 as far as its program goes (R245). -/
def tokenE (s : State) (n : Berth) (at_ : Nat) : Eng TokOut := do
  let b := s.berth n
  let c := b.ctl
  let d := since at_ c.last
  let ish := s.bget n BF_SHIFT 4 0
  let vsh := s.bget n BF_SHIFT 9 5
  let isc := s.bnat n BF_ISCALE
  let vsc := s.bnat n BF_VSCALE
  -- 1 inputs
  let ia ← scaleE (s.bint n BS_IU) isc ish
  let ib ← scaleE (s.bint n 0x111) isc ish
  let ic ← scaleE (s.bint n 0x112) isc ish
  let vu ← scaleE (s.bint n BS_VU) vsc vsh
  let vv ← scaleE (s.bint n 0x114) vsc vsh
  let vw ← scaleE (s.bint n 0x115) vsc vsh
  let vbus ← scaleE (s.bint n BS_VBUS) vsc vsh
  -- 2 clarke
  let ialpha := ia
  let ibeta ← rndE ((ib - ic) * 0x93CD)
  -- 3 angle and speed
  let vfail := s.bget n BS_SENSE 8 6 != 0
  let vam ← if vfail then pure c.vaPrev else rndE ((2 * vu - vv - vw) * 0x5555)
  let vbm ← if vfail then pure c.vbPrev else rndE ((vv - vw) * 0x93CD)
  let starting := s.starting n
  let full := s.fullLoop n
  let ph := s.bget n BO_PHASE 3 0
  let src := s.angleSource n
  let hold := starting && (ph == 3 || ph == 4 || ph == 5)
  let k := c.k8
  let inj := src == 2 || src == 3
  let rot := if starting then ph == 7 else !s.bflag n BO_CTL 5
  let cic ← if inj && k == 7 && !(starting && ph == 7) then
    (do return some (← cicadaE s n d rot ialpha ibeta)) else pure none
  let (c1, thObs, wObs) ← observerE s n d vam vbm ialpha ibeta src hold cic
  -- open-loop speed and angle (R288)
  let inc : Int := (s.bnat n BO_OLACC * 64 * d : Nat) + b.start.wolRem
  let tgt : Int := if b.start.fwd then WHAND else -WHAND
  let step := inc / 20000000
  let wol : Int := if b.start.fwd then min tgt (b.start.wol + step) else max tgt (b.start.wol - step)
  let thOl := ang ((b.start.thOl : Int) + adv wol (s.bnat n BO_WBASE) d)
  let theta : Nat :=
    if src = 4 then c.thPrev
    else if starting && ph == 9 then thOl
    else if starting && ph == 6 then 0
    else thObs
  let omega : Int := if src = 4 then 0 else if starting && ph == 9 then wol else wObs
  let (cs, sn) ← sincosE theta
  -- 4 park
  let id ← rndE (ialpha * cs + ibeta * sn)
  let iq ← rndE (ibeta * cs - ialpha * sn)
  -- 5 limit
  let ilimf ← s.ilimOf n
  -- ledger inputs (R267, R269)
  let pinE := vu * ia + vv * ib + vw * ic
  let lq : Int := s.bnat n BF_LQ
  let ld : Int := s.bnat n BF_LD
  let psi : Int := s.bnat n BF_PSI
  let pout2 := 3 * omega * (psi * iq * 65536 + (ld - lq) * id * iq)
  let obsok := decide (WOBS.natAbs ≤ c1.omega.natAbs) && decide (s.bnat n BF_PSI ≤ 4 * c1.fm)
  let dth := if (s.bst n = stStopped && !obsok) then 0 else wrap18 ((theta : Int) - c.thPrev)
  let pos := c.pos + dth
  -- lost-rotor condition (R298)
  let rs : Int := s.bnat n BO_RS
  let vdm ← rndE (vam * cs + vbm * sn)
  let vqm ← rndE (vbm * cs - vam * sn)
  let edm := vdm - (← rndE (rs * id)) + (← rndE (omega * (← rndE (lq * iq))))
  let eqm := vqm - (← rndE (rs * iq)) - (← rndE (omega * (← rndE (ld * id))))
  let em : Int := isqrt (edm * edm + eqm * eqm).toNat
  let ee ← rndE ((omega.natAbs : Int) * psi)
  let emBad := decide (WOBS.natAbs ≤ omega.natAbs) &&
    decide ((← rndE (s.bnat n BO_EMFTOL * ee)) < ((em - ee).natAbs : Int))
  let floorBad := s.floored n && decide (omega.natAbs < WOBS.natAbs) &&
    (s.bst n == stRunning || (s.bst n == stSeaTrial && b.start.closed))
  let bad := full && ((src == 1 || src == 2) && (decide (LOSTANG < (c1.terr.natAbs : Int)) || emBad) ||
    src == 3 && decide (LOSTANG < (c1.terr.natAbs : Int)) || (src == 1 || src == 2 || src == 3) && floorBad)
  -- hand-off conditions (R289)
  let agree := starting && ph == 9 && decide (wol = tgt) && obsok &&
    decide (4 * ((c1.omega - wol).natAbs : Int) ≤ (wol.natAbs : Int)) &&
    decide (((wrap18 ((c1.tho : Int) - thOl)).natAbs : Int) ≤ LOSTANG)
  let slowLvl : Nat := if b.start.homing then s.bnat n BO_HOMESPD / 2 else WCATCH.natAbs
  -- demodulation (R279)
  let h := c.demod rot starting ialpha ibeta id iq
  let c2 : Ctl := { c1 with
    idPrev := id, iqPrev := iq, thPrev := theta, last := at_, pos := pos
    k8 := if inj then (k + 1) % 8 else 0, h1 := h.1, h2 := h.2.1, hq := h.2.2
    omega := if src = 4 then 0 else c1.omega
    theta := if src = 4 then c.theta else c1.theta
    bad := if bad then c.bad + d else 0
    agree := if agree then c.agree + d else 0
    slow := if c1.omega.natAbs < slowLvl then c.slow + d else 0 }
  let stopped := !full && !(starting && packagePhase ph)
  let (wref, raised) ← s.wrefOf n
  let estimate : List (Nat × Word) := [(ba n BO_THETA, BitVec.ofNat 18 theta), (ba n BO_OMEGA, wd omega),
    (ba n BO_TERR, wd c1.terr), (ba n BO_EMF, BitVec.ofNat 18 em.toNat),
    (ba n BO_POS0, BitVec.ofNat 18 (pos % 262144).toNat), (ba n BO_POS1, wd (pos / 262144))]
  let lastw : List (Nat × Word) :=
    if starting && ph == 9 then [(ba n BO_LASTW, BitVec.ofNat 18 wol.natAbs)]
    else if (!starting ∧ (src = 2 ∨ src = 3)) ∨ (obsok ∧ (src = 1 ∨ (!starting ∧ src = 0))) then
      [(ba n BO_LASTW, BitVec.ofNat 18 omega.natAbs)]
    else []
  let bitsA : List (Nat × Nat × Bool) := [(ba n BO_STAT, 4, obsok), (ba n BO_STAT, 3, inj), (ba n BO_STAT, 2, src == 2)]
  let imax := max (ia.natAbs : Int) (max (ib.natAbs : Int) ic.natAbs)
  if stopped then
    return { ctl := c2, writes := (if hold then [] else estimate) ++ lastw, bits := bitsA, vam := vam, vbm := vbm,
             ialpha := ialpha, ibeta := ibeta, imax := imax, pin := pinE, pout2 := pout2, wref := wref }
  -- 6 speed loop
  let due := c.sdiv = 0
  let sdiv := if due then s.bget n BF_CTL 3 0 else c.sdiv - 1
  let ew ← satE (wref - omega)
  let im0 ← rndE (s.bnat n BF_KPS * ew + c.xs)
  let slimN := decide (ilimf < (im0.natAbs : Int))
  let imN := if slimN then sgnI im0 * ilimf else im0
  let imag := if due then imN else c.imag
  let slim := if due then slimN else c.slim
  let xs := if due ∧ (¬ slimN ∨ sgnI ew ≠ sgnI imN) then
    clampI (c.xs + s.bnat n BF_KIS * ew) (-(ilimf * 65536)) (ilimf * 65536) else c.xs
  -- 7 references
  let (cd, sd) ← sincosE (ang (c.fwang + c.lsang))
  let idr0 ← satE (c.lsid - (← rndE ((imag.natAbs : Int) * sd)))
  let iqr0 ← rndE (imag * cd)
  let (idr1, iqr1) := match s.fixedRefs n d with | some r => r | none => (idr0, iqr0)
  let idr := clampI idr1 (-ilimf) ilimf
  let iqlim0 : Int := isqrt (ilimf * ilimf - idr * idr).toNat
  let limp := s.bflag n BS_SENSE 9
  let iqlim := if limp then min iqlim0 (s.bnat n BF_ILIM / 2) else iqlim0
  let iqr := clampI iqr1 (-iqlim) iqlim
  -- 8 current regulators and decoupling
  let ed ← satE (idr - id)
  let eq ← satE (iqr - iq)
  let kpsh := s.bget n BF_SHIFT 11 10
  let vd8 := (← rndE (sat36 (s.bnat n BF_KPD * ed * 2 ^ kpsh) + c.xd)) - (← rndE (omega * (← rndE (lq * iq))))
  let vq8 := (← rndE (sat36 (s.bnat n BF_KPQ * eq * 2 ^ kpsh) + c.xq)) +
    (← rndE (omega * (← satE ((← rndE (ld * id)) + psi))))
  -- 9 voltage limit
  let vmax0 ← rndE ((← rndE (vbus * s.bnat n BF_MODMAX)) * 0x93CD)
  let vmax := if inj then vmax0 - s.bnat n BO_CICAMP else vmax0
  let m : Int := isqrt (vd8 * vd8 + vq8 * vq8).toNat
  let vlim := decide (vmax < m)
  let vd9 := if vlim then (vd8 * vmax).tdiv m else vd8
  let vq9 := if vlim then (vq8 * vmax).tdiv m else vq8
  let xd := if ¬ vlim ∨ sgnI ed ≠ sgnI vd9 then clampI (c.xd + s.bnat n BF_KID * ed) (-(2 ^ 33)) (2 ^ 33) else c.xd
  let xq := if ¬ vlim ∨ sgnI eq ≠ sgnI vq9 then clampI (c.xq + s.bnat n BF_KIQ * eq) (-(2 ^ 33)) (2 ^ 33) else c.xq
  -- 10 field weakening (R253), against vmax without the injection's share (R278)
  let fwang ← if s.bflag n BF_CTL 5 then (do
      let err ← satE (m - (← rndE (vmax0 * s.bnat n BF_FWTHR)))
      return clampI (c.fwang + (← rndE (err * s.bnat n BF_FWKI))) 0 (s.bnat n BF_FWMAX))
    else pure 0
  -- injection (R278, R279), placed for the update it acts in
  let amp : Int := s.bnat n BO_CICAMP
  let jc ← if inj then rndE (amp * c8 (k + 1)) else pure 0
  let js ← if inj && rot then rndE (amp * s8 (k + 1)) else pure 0
  let vd := if rot then vd9 else vd9 + jc
  let vq := vq9
  -- 11 inverse park
  let va0 ← rndE (vd * cs - vq * sn)
  let vb0 ← rndE (vd * sn + vq * cs)
  let valpha := if rot then va0 + jc else va0
  let vbeta := vb0 + js
  -- 12 modulation; 13 phase references
  let phv : Tri Int := ⟨valpha, ← rndE (-valpha * 0x8000 + vbeta * 0xDDB4), ← rndE (-valpha * 0x8000 - vbeta * 0xDDB4)⟩
  let ira ← rndE (idr * cs - iqr * sn)
  let irb ← rndE (idr * sn + iqr * cs)
  let r : Tri Int := ⟨ira, ← rndE (-ira * 0x8000 + irb * 0xDDB4), ← rndE (-ira * 0x8000 - irb * 0xDDB4)⟩
  let (on, vblow) := modulate s n phv vbus r
  let P := s.bnat n BP_PERIOD
  let pair (x : Nat) := placeCompare P x
  let fr := (← get).k
  modify fun f => { f with k := f.k + 1 }
  let code (x : Int) : Eng Int := if isc = 0 then pure (wrap18 (Config.free fr)) else satE (rdiv (x * 2 ^ ish) isc)
  let rp : Tri Int := ⟨← code r.u, ← code r.v, ← code r.w⟩
  let vqAbs : Nat := vq9.natAbs
  let c3 : Ctl := { c2 with
    xd := xd, xq := xq, xs := xs, imag := imag, slim := slim, sdiv := sdiv, fwang := fwang, wref := wref, vaPrev := valpha, vbPrev := vbeta
    slip := if s.bst n = stHolding ∧ s.bnat n BO_SLIPV < vqAbs then c.slip + d else 0 }
  let pkg : Pkg := {
    on := ⟨(pair on.u).1, (pair on.v).1, (pair on.w).1⟩
    off := ⟨(pair on.u).2, (pair on.v).2, (pair on.w).2⟩
    per := if s.bflag n BP_CTL 5 then some P else none
    rp := rp }
  return {
    ctl := c3
    pkg := some pkg
    writes := estimate ++ lastw ++ [(ba n BF_ID, wd id), (ba n BF_IQ, wd iq), (ba n BF_IDREF, wd idr), (ba n BF_IQREF, wd iqr),
      (ba n BF_VD, wd vd9), (ba n BF_VQ, wd vq9), (ba n BF_ILIMF, wd ilimf), (ba n BF_FWANG, wd fwang),
      (ba n BF_LSID, wd c.lsid), (ba n BF_LSANG, wd c.lsang)]
    bits := bitsA ++ [(ba n BF_STAT, 4, decide (0 < fwang)), (ba n BF_STAT, 3, vlim), (ba n BF_STAT, 2, iqr != iqr1),
      (ba n BF_STAT, 1, slim), (ba n BO_STAT, 10, raised)] ++ (if vblow then [(ba n BF_EVT, 3, true)] else [])
    vam := vam, vbm := vbm, ialpha := ialpha, ibeta := ibeta, imax := imax, pin := pinE, pout2 := pout2, vlim := vlim
    limpActed := limp && iqlim != iqlim0 && iqr != iqr1, wref := wref }

end Sys2Proof.Machine
end

