-- ==== Sys2Proof/Machine/Tenders.lean ====
section
/-! DEFINITION. The tenders (chapter 12): strip supply, edges, regulation, current limit, states, overvoltage and
power-good; the interlock rows of both kinds of half-bridge. -/

namespace Sys2Proof.Machine

abbrev tdOff : Nat := 0
abbrev tdStartDelay : Nat := 1
abbrev tdRamp : Nat := 2
abbrev tdRegulating : Nat := 3
abbrev tdStopDelay : Nat := 4
abbrev tdStopRamp : Nat := 5
abbrev tdHiccup : Nat := 6
abbrev tdLatched : Nat := 7
abbrev tdDocked : Nat := 8
abbrev tdAbsent : Nat := 9

/-- TD_STAT.STATE of tender `t`. -/
def State.tdState (s : State) (t : Tender) : Nat := s.tget t TD_STAT 3 0
/-- The tender is present (R113) and not docked. -/
def State.tdHere (s : State) (t : Tender) : Bool :=
  s.committed && (s.decl.tenders.getD t.val none).isSome && s.tdState t != tdDocked
/-- The tender is present (R113). -/
def State.tdPresent (s : State) (t : Tender) : Bool := s.committed && (s.decl.tenders.getD t.val none).isSome
/-- Set a bit of TD_EVT. -/
def State.tdEvt (s : State) (t : Tender) (b : Nat) : State := s.tputb t TD_EVT b true
/-- A tender source, at the tender's block (R387). -/
def State.raiseTender (s : State) (t : Tender) (src : Nat) : State := s.raiseAll src (ta t TD_EVT)

/-- Output voltage in mV, clamped to 0 to VREF (R376). -/
def State.vrStart (s : State) (t : Tender) (uv : Int) : Nat := (clampI (uv / 1000) 0 (s.tget t TD_VREF 10 0)).toNat

/-- The latest sampled output lies within VREF ± 7.5 % (R382), or exceeds 110 % of VREF (R381). -/
def State.tdInBand (s : State) (t : Tender) : Bool :=
  decide (((s.tender t).vfb - 1000 * s.tget t TD_VREF 10 0).natAbs ≤ 75 * s.tget t TD_VREF 10 0)
def State.tdExcess (s : State) (t : Tender) : Bool := decide ((1100 * s.tget t TD_VREF 10 0 : Int) < (s.tender t).vfb)

/-- Dead times in ticks, DTL then DTH; below 104 they are used as 104 (R366). -/
def State.tdDead (s : State) (t : Tender) : Nat × Nat :=
  (max (8 * s.tget t TD_DT 6 0) 104, max (8 * s.tget t TD_DT 17 11) 104)

/-- Gates turn off `el` ticks into the period, which ends the times for which they have conducted (R385). -/
def TenderSt.cut (x : TenderSt) (el dtl : Nat) : TenderSt :=
  { x with
    hi := false, lo := false
    hiT := if x.hi then min x.hiT el else x.hiT
    lowT := if x.lo then min x.lowT (el - (x.cur + dtl)) else x.lowT }
/-- Both gates turn off now (log entry 9). -/
def State.tdCut (s : State) (t : Tender) : State :=
  s.modTender t fun x => x.cut (s.tick - x.at0) (s.tdDead t).1

/-- The state of a tender changes. PGOOD is 0 outside REGULATING, and at its entry 1 with the output in band (R382); both gates are off in OFF, START DELAY, HICCUP
and LATCHED (R375), where the limit time also ends and no on-time waits. A tender that is being docked shows DOCKED where it would enter OFF
(R550). -/
def State.setTd (s : State) (t : Tender) (v : Nat) : State :=
  let dock := v == tdOff && (s.tender t).dockWait
  let s0 := if dock then (s.modTender t fun x => { x with dockWait := false }).ddProgress 1 (17 + t.val) 2 else s
  let s1 := s0.tput t TD_STAT 3 0 (if dock then tdDocked else v)
  let s2 := s1.tputb t TD_STAT 5 (v == tdRegulating && s1.tdInBand t)
  if v = tdRamp ∨ v = tdRegulating ∨ v = tdStopDelay ∨ v = tdStopRamp then s2
  else (s2.tdCut t).modTender t fun x => { x with limAt := none, clean := 0, cur := 0, next1 := 0, next2 := 0 }

/-- Entry to RAMP with the reference at `v` mV (R369, R376). -/
def State.enterRamp (s : State) (t : Tender) (v : Nat) : State :=
  (s.setTd t tdRamp).modTender t fun x =>
    { x with vr := v, vr0 := v, rampAt := s.tide.now, u1 := 0, u2 := 0, e1 := 0, e2 := 0 }

/-- Entry to OFF; a tender whose thermal stop has cleared by then starts again (R386). -/
def State.enterTdOff (s : State) (t : Tender) : State :=
  let s1 := s.setTd t tdOff
  if s1.tdState t == tdOff && (s.tender t).thWait && !s.flag TH_STOPM (12 + t.val) && s.tflag t TD_CTL 0 then
    (s1.modTender t fun x => { x with thWait := false }).setTd t tdStartDelay
  else s1

/-- A HICCUP entry (R375, R378): the eighth of a run latches instead. -/
def State.enterHiccup (s : State) (t : Tender) : State :=
  let c := s.tget t TD_RETRY 2 0
  if c = 7 then (((s.setTd t tdLatched).tdEvt t 1).tdEvt t 0).raiseTender t (0x4A + t.val)
  else
    let s1 := ((s.setTd t tdHiccup).tput t TD_RETRY 2 0 (c + 1)).tdEvt t 1
    if c = 0 then s1.raiseTender t 0x47 else s1

/-- A stop request takes its effect (R375). -/
def State.tenderStop (s : State) (t : Tender) : State :=
  let v := s.tdState t
  if v = tdStartDelay then s.enterTdOff t
  else if v = tdRamp ∨ v = tdRegulating then s.setTd t tdStopDelay
  else s

/-- A stop request that the sag policy defers while it holds the tender (R88, R379). -/
def State.tenderStopHeld (s : State) (t : Tender) : State :=
  if s.tflag t TD_STAT 8 then s.modTender t fun x => { x with deferred := true } else s.tenderStop t

/-- The hold of the sag policy ends; a deferred stop request takes effect (R88). -/
def State.tenderHoldEnd (s : State) (t : Tender) : State :=
  let s1 := (s.tputb t TD_STAT 8 false).modTender t fun x => { x with deferred := false }
  if s.tflag t TD_STAT 8 && (s.tender t).deferred then s1.tenderStop t else s1

/-- EN is set by a host write, or at commit (R375). A stop that ends in DOCKED goes on (R550). -/
def State.tenderStart (s : State) (t : Tender) : State :=
  let v := s.tdState t
  let s := s.modTender t fun x => { x with deferred := false, thWait := false }
  if (s.tender t).dockWait then s
  else if v = tdOff then s.setTd t tdStartDelay
  else if v = tdStopDelay then s.setTd t tdRegulating
  else if v = tdStopRamp then s.enterRamp t (s.tender t).vr
  else s

/-- Coast (R386): gates off at once, and OFF, from any state but OFF and LATCHED. -/
def State.tenderCoast (s : State) (t : Tender) : State :=
  let v := s.tdState t
  if v = tdOff ∨ v = tdLatched then s else s.setTd t tdOff

/-- Sleep entry stops a tender that runs, or that waits for the end of a thermal stop; a hold does not defer it (R96). -/
def State.sleepStop (s : State) (t : Tender) : State :=
  let v := s.tdState t
  if !s.tdHere t then s
  else (s.modTender t fun x => { x with
    slept := v == tdStartDelay || v == tdRamp || v == tdRegulating || x.thWait, thWait := false }).tenderStop t

/-- A tender that sleep entry has stopped starts again when the entry is abandoned (R97). -/
def State.sleepUndo (s : State) (t : Tender) : State :=
  let s1 := s.modTender t fun x => { x with slept := false }
  if s.tdHere t && (s.tender t).slept && s.tflag t TD_CTL 0 then s1.tenderStart t else s1

/-! ### Strip and interlock -/

/-- TENDER_STRIP_UNDERVOLTAGE (R362): gates off; 0x46 and STRIPUV of every present tender. -/
def execTenderStripUndervoltage (s : State) : Res :=
  .next (if !s.awake || s.stripUv then s
    else
      let s1 := { s with stripUv := true }.forAll tenderList fun s t =>
        if s.tdPresent t then (s.tdCut t).tdEvt t 9 else s
      s1.raiseAll 0x46 (ta 0 TD_EVT))

/-- TENDER_STRIP_UV_END (R362): tenders in RAMP or REGULATING re-enter RAMP from their present output (R376). -/
def execTenderStripUvEnd (s : State) : Res :=
  .next (if !s.stripUv then s
    else { s with stripUv := false }.forAll tenderList fun s t =>
      if s.tdHere t && (s.tdState t == tdRamp || s.tdState t == tdRegulating) then
        s.enterRamp t (s.vrStart t (s.tender t).vfb)
      else s)

/-- INTERLOCK_EVENT (R197, R366). -/
def execInterlockEvent (b : HalfBridge) (s : State) : Res :=
  .next (match b with
    | .berth n p => if s.inService && !s.outOfUse n then s.interlockBerth n p else s
    | .tender t =>
        if s.tdHere t then
          ((s.tdCut t).modTender t fun x => { x with ilk := true, ilkBusy := true }).raiseTender t 0x4D
        else s)

/-- INTERLOCK_CLEAR: the command pair has been free of conflict for DT ticks (R198); a tender's switches stay off until
its next period (R366). -/
def execInterlockClear (b : HalfBridge) (s : State) : Res :=
  .next (match b with
    | .berth n p => s.modLeg n p fun l => { l with ilkBusy := false }
    | .tender t => s.modTender t fun x => { x with ilkBusy := false })

/-! ### Edges (R364, R366) -/

/-- A dead time below 104 ticks is clamped at its use (R366). -/
def State.tdClamp (s : State) (t : Tender) (hi lo : Nat) : State :=
  if 8 * s.tget t TD_DT hi lo < 104 then s.tdEvt t 7 else s

/-- The tender regulates: RAMP, REGULATING, STOP DELAY or STOP RAMP (R375). -/
def State.tdActive (s : State) (t : Tender) : Bool :=
  let v := s.tdState t
  v == tdRamp || v == tdRegulating || v == tdStopDelay || v == tdStopRamp

/-- The gates of the tender may switch: it regulates, the strip is supplied, and no interlock holds. -/
def State.tdGates (s : State) (t : Tender) : Bool := s.tdActive t && !s.stripUv && !(s.tender t).ilk

/-- The next period boundary of a tender: the first tick B after the present period's start and not in the past with
(B - OFS) mod PERIOD = 0, or the boundary at which new values take effect (R364). -/
def State.tdBoundary (s : State) (t : Tender) : Nat :=
  let x := s.tender t
  x.due.getD (alignedFrom (max s.tick (x.at0 + 1)) x.per x.ofs)

/-- A period begins (R364, R366, R374): the on-times move up, the hold of an interlock that has cleared ends. -/
def State.tdPeriodStart (s : State) (t : Tender) (bootOk : Bool) : State :=
  let x := s.tender t
  let limited := s.tflag t TD_STAT 6
  let clean := if limited then 0 else x.clean + 1
  let s1 := s.modTender t fun x =>
    { x with
      cur := x.next1, next1 := x.next2, at0 := s.tdBoundary t, due := none
      hi := false, lo := false, hiT := 0, lowT := 0, zc := false
      ilk := x.ilkBusy
      clean := clean
      limAt := if clean ≥ 10 then none else x.limAt }
  let s2 := (s1.tputb t TD_STAT 6 false).tputb t TD_STAT 7 false
  if !s2.tdGates t || x.next1 = 0 || x.ov then s2
  else if !bootOk then s2.tdEvt t 6
  else s2.modTender t fun x => { x with hi := true, hiT := x.cur }

/-- The low side's window begins, DTL after the on-time of R369 whether or not its pulse took place, or after the instant at
which the current limit ended the pulse (R366, R373). -/
def State.tdLowOn (s : State) (t : Tender) : State :=
  let x := s.tender t
  let d := s.tdDead t
  let from_ := x.cur + d.1
  let s1 := (s.tdClamp t 6 0).tdClamp t 17 11
  if s.tdGates t && !x.hi && !x.zc && from_ + d.2 + s.tget t TD_MINON 10 0 ≤ x.per then
    s1.modTender t fun x => { x with lo := true, lowT := x.per - d.2 - from_ }
  else s1

/-- TENDER_EDGE (R366): `bootOk` says whether the bootstrap comparator allows the pulse (R363). -/
def execTenderEdge (t : Tender) (e : TenderEdgeKind) (bootOk : Bool) (s : State) : Res :=
  .next (if !s.tdHere t then s
    else match e with
      | .periodStart => s.tdPeriodStart t bootOk
      | .highOff => s.modTender t fun x => { x with hi := false }
      | .lowOn => s.tdLowOn t
      | .lowOff => s.modTender t fun x => { x with lo := false })

/-- TENDER_TIMING_CHANGE: the written values come into force at the first boundary under them at least 100 ns after the
write (R364). -/
def execTenderTimingChange (t : Tender) (s : State) : Res :=
  .next (if s.tdHere t then
      let per := s.tget t TD_PERIOD 14 0
      let ofs := s.tget t TD_OFS 14 0
      s.modTender t fun x => { x with per := per, ofs := ofs, due := some (alignedFrom (max s.tick (x.timAt + 512)) per ofs) }
    else s)

/-! ### Regulation (R367 to R370) -/

/-- The reference in force at this sample (R368, R376, R377). -/
def State.tdVr (s : State) (t : Tender) : Nat :=
  let x := s.tender t
  let vref := s.tget t TD_VREF 10 0
  let el := since s.tide.now x.rampAt
  let v := s.tdState t
  if v = tdRegulating then vref
  else if v = tdRamp then min vref (x.vr0 + vref * el / ((s.trd t TD_SRAMP).toNat * 2000))
  else if v = tdStopRamp then x.vr0 - vref * el / ((s.trd t TD_PRAMP).toNat * 2000)
  else x.vr

/-- u(k) of R369. -/
def State.tdU (s : State) (t : Tender) (e : Int) : Int :=
  let x := s.tender t
  let k (i : Nat) : Int := sgn (s.trd t (TD_B0 + i))
  clampI (sat18 (rnd16 (k 0 * e + k 1 * x.e1 + k 2 * x.e2 - k 3 * x.u1 - k 4 * x.u2))) 0 ((s.trd t TD_DMAX).toNat)

/-- ton of R369 in ticks. -/
def State.tdTon (s : State) (t : Tender) (u : Int) : Nat :=
  let per := (s.tender t).per
  let d := s.tdDead t
  let ton := ((u * per + 0x8000) / 65536).toNat
  if ton < s.tget t TD_MINON 10 0 then 0 else min ton (per - d.1 - d.2)

/-- The sample's part of the thermal model (R336, R385): the losses of the two FETs in this period. -/
def State.tdLoss (s : State) (t : Tender) : State :=
  let x := s.tender t
  let j := 12 + t.val
  let q (a : Nat) (hi lo : Nat) : Rat := (s.get (a + j) hi lo : Rat)
  let d := s.tdDead t
  let per : Rat := (x.per : Rat)
  let i : Rat := ((sgn (s.trd t TD_IAVG) : Int) : Rat) / 100
  let tick : Rat := (1 : Rat) / 5120000000
  let ton : Nat := if i < 0 then s.freeVal % 4096 else s.tget t TD_EDGE 11 0
  let node (k : Nat) : Rat := (s.therm.nodes.getD (72 + 2 * t.val + k) {}).degC
  let p := fetLossOf i (((sgn (s.trd t TD_VIN) : Int) : Rat) / 2000) ((5120000000 : Rat) / per)
    ((x.hiT : Rat) / per) ((x.lowT : Rat) / per) (((d.1 + d.2 : Nat) : Rat) / per)
    (q 0x870 17 0 / 100000) (q 0x880 17 10 / 10000) (q 0x880 9 0 / 1000) (node 0) (node 1)
    ((ton : Rat) * tick) (q 0x890 11 0 * tick) (x.hiT != 0 && !s.tflag t TD_EDGE 16)
  let add (m : List (Nat × Nat)) (k w : Nat) := m.modify k fun a => (a.1 + w, a.2 + 1)
  ({ s with therm := { s.therm with acc := add (add s.therm.acc (72 + 2 * t.val) p.1) (73 + 2 * t.val) p.2 } }).useFree 1

/-- What a sample records beside the duty (R381, R385); a soft edge leaves TD_EDGE.TIME as it is (R183). -/
def State.tdRecord (s : State) (t : Tender) (m : TenderMeas) : State :=
  let vref : Int := s.tget t TD_VREF 10 0
  let x := s.tender t
  let ov := if vref * 1100 < m.vfb then true else if m.vfb < vref * 1050 then false else x.ov
  let s0 := if ov && x.hi then s.tdCut t else s
  let s1 := s0.modTender t fun x => { x with vfb := m.vfb, ov := ov }
  let s2 := (s1.twr t TD_IAVG (wd (clampI (s.roundFree (m.sense * 10) (s.trd t TD_RSNS).toNat) (-131072) 131071))).useFree 1
  let s3 := if x.hiT = 0 then s2
    else ((s2.twr t TD_VIN (wd (clampI m.vin (-131072) 131071))).tput t TD_EDGE 17 16 (2 + b2n m.soft))
  let s3 := if x.hiT = 0 ∨ m.soft then s3 else s3.tput t TD_EDGE 11 0 (min m.edge 4095)
  s3.tdLoss t

/-- TENDER_SAMPLE (R367 to R370): the error code, the duty, and the on-time of the period after next; a late result
repeats the next period's on-time. A tender that does not regulate, a docked one among them (R72), records its output and
current alone. -/
def execTenderSample (t : Tender) (m : TenderMeas) (s : State) : Res :=
  .next (if !s.tdPresent t then s
    else
      let s0 := s.tdRecord t m
      if !s0.tdActive t then s0
      else
      let vr := s0.tdVr t
      let s1 := s0.modTender t fun x => { x with vr := vr }
      if m.late then (s1.modTender t fun x => { x with next2 := x.next1 }).tdEvt t 8
      else
        let win : Int := 16000 * 2 ^ s.tget t TD_WIN 1 0
        let diff : Int := vr * 1000 - m.vfb
        let code := clampI (s1.roundFree (diff * 256) win.toNat) (-256) 255
        let s2 := if win < diff.natAbs then s1.tdEvt t 5 else s1
        let e := code * 256
        let u := s2.tdU t e
        let s3 := (s2.tput t TD_ERR 8 0 (code % 512).toNat).twr t TD_DUTY (wd u)
        ((s3.tdClamp t 6 0).tdClamp t 17 11).modTender t (fun x =>
          { x with next2 := s3.tdTon t u, u2 := x.u1, u1 := u, e2 := x.e1, e1 := e }) |>.useFree 1)

/-! ### Light load and current limit -/

/-- ZERO_CURRENT (R371): a sense voltage of `sense` µV at or below TD_ZC.ZC, `ticks` ticks into the period, turns the low
side off for the rest of the period where the comparator is active. -/
def execZeroCurrent (t : Tender) (sense : Int) (ticks : Nat) (s : State) : Res :=
  .next (
    let x := s.tender t
    let act := !s.tflag t TD_CTL 1 || s.tdState t == tdRamp || s.tdState t == tdStopRamp
    if s.tdHere t && x.lo && act && decide (sense ≤ 500 * sgn (s.trd t TD_ZC)) then
      (s.modTender t fun x =>
        { x with lo := false, zc := true, lowT := min x.lowT (ticks - (x.cur + (s.tdDead t).1)) }).tputb t TD_STAT 7 true
    else s)

/-- ilimf of R373, in units of 0.5 mV. -/
def State.tdIlimf (s : State) (t : Tender) : Nat := s.tget t TD_ILIM 8 0 * (16 - s.thStep (12 + t.val)) / 16

/-- CURRENT_LIMIT (R373, R374): a sense voltage of `sense` µV above ilimf, `ticks` ticks after the high side's turn-on, ends
its pulse; the comparator ignores the first 30 ns, 154 ticks. -/
def execCurrentLimit (t : Tender) (sense : Int) (ticks : Nat) (s : State) : Res :=
  .next (
    if s.tdHere t && (s.tender t).hi && decide ((500 * s.tdIlimf t : Int) < sense) && decide (154 ≤ ticks) then
      ((s.modTender t fun x =>
        { x with
          hi := false, hiT := min x.hiT ticks, cur := min x.cur ticks
          limAt := some (x.limAt.getD s.tide.now), clean := 0 }).tputb t TD_STAT 6 true).tdEvt t 2
    else s)

/-- LIMIT_TIME_EXPIRY (R374). -/
def execLimitTimeExpiry (t : Tender) (s : State) : Res :=
  .next (
    let v := s.tdState t
    if s.tdHere t && (v == tdRamp || v == tdRegulating) && (s.tender t).limAt.isSome then s.enterHiccup t else s)

/-! ### States -/

/-- START_DELAY_END: TD_SDLY has passed (R375). -/
def execStartDelayEnd (t : Tender) (vfb : Nat) (s : State) : Res :=
  .next (if s.tdHere t && s.tdState t == tdStartDelay then s.enterRamp t (s.vrStart t (1000 * vfb)) else s)

/-- RAMP_END: vr reaches VREF; the 30 % rule (R375). -/
def execRampEnd (t : Tender) (vfb : Nat) (s : State) : Res :=
  .next (if s.tdHere t && s.tdState t == tdRamp then
      let vref := s.tget t TD_VREF 10 0
      let s1 := s.modTender t fun x => { x with vr := vref, vfb := 1000 * vfb }
      if 3 * vref ≤ 10 * vfb then s1.setTd t tdRegulating else s1.enterHiccup t
    else s)

/-- HICCUP_END: 16 x TD_SRAMP has passed in HICCUP (R375, R378). -/
def execHiccupEnd (t : Tender) (vfb : Nat) (s : State) : Res :=
  .next (if s.tdHere t && s.tdState t == tdHiccup then s.enterRamp t (s.vrStart t (1000 * vfb)) else s)

/-- STOP_DELAY_END: TD_PDLY has passed (R375, R377). -/
def execStopDelayEnd (t : Tender) (s : State) : Res :=
  .next (if s.tdHere t && s.tdState t == tdStopDelay then
      (s.setTd t tdStopRamp).modTender t fun x => { x with vr0 := x.vr, rampAt := s.tide.now }
    else s)

/-- STOP_RAMP_END: vr reaches 0 (R377). -/
def execStopRampEnd (t : Tender) (s : State) : Res :=
  .next (if s.tdHere t && s.tdState t == tdStopRamp then (s.modTender t fun x => { x with vr := 0 }).enterTdOff t else s)

/-- TENDER_OVERVOLTAGE: the excess over 110 % of VREF has lasted 20 µs (R381). -/
def execTenderOvervoltage (t : Tender) (s : State) : Res :=
  .next (if s.tdHere t && s.tdExcess t then (s.tdEvt t 3).raiseTender t 0x4D else s)

/-- PGOOD_LOST: outside the band for 50 µs in REGULATING (R382). -/
def execPgoodLost (t : Tender) (s : State) : Res :=
  .next (if s.tdHere t && s.tdState t == tdRegulating && !s.tdInBand t then ((s.tputb t TD_STAT 5 false).tdEvt t 4).raiseTender t 0x4E else s)

/-- PGOOD_SET: inside the band for 50 µs (R382); PGOOD is 0 outside REGULATING. -/
def execPgoodSet (t : Tender) (s : State) : Res :=
  .next (if s.tdHere t && s.tdState t == tdRegulating && s.tdInBand t then s.tputb t TD_STAT 5 true else s)

/-- RETRY_RESET: PGOOD has held for 16 x TD_SRAMP (R378). -/
def execRetryReset (t : Tender) (s : State) : Res :=
  .next (if s.tdHere t && s.tflag t TD_STAT 5 then s.tput t TD_RETRY 2 0 0 else s)

/-! ### Thermal stop (R356, R386) -/

/-- A tender's own thermal stop begins (R356, R386). -/
def State.thermalStopTender (s : State) (t : Tender) (orderly : Bool) : State :=
  let thrst := s.tflag t TD_CTL 2
  let s1 := if thrst then s.modTender t fun x => { x with thWait := true } else s.tputb t TD_CTL 0 false
  if orderly then s1.tenderStopHeld t else s1.tenderCoast t

/-- Every berth is STOPPED, SAFE or OUT OF USE (R356, R384). -/
def State.allIdle (s : State) : Bool :=
  berthList.all fun n => s.bst n == stStopped || s.bst n == stSafe || s.outOfUse n

/-- The VGD tender's waiting stop begins once every berth is idle (R356). -/
def State.waitingStop (s : State) : State :=
  if s.therm.waitStop && s.allIdle then (s.modTherm fun x => { x with waitStop := false }).thermalStopTender 0 true else s

end Sys2Proof.Machine
end

