-- ==== Sys2Proof/Machine/Tokens.lean ====
section
/-! DEFINITION. Lanes, tokens, packages, the loss search, the ledger and lane errors (chapter 8): commands of the loop
engine. -/

namespace Sys2Proof.Machine

/-! ### Lanes (R242 to R244, R263 to R265) -/

/-- State of a lane in LE_LANE: 0 active, 1 spare, 2 self-test, 3 docked, 4 retired. -/
def State.lane (s : State) (l : Fin 5) : Nat := s.get LE_LANE (3 * l.val + 2) (3 * l.val)
/-- Set the state of a lane. -/
def State.putLane (s : State) (l : Fin 5) (v : Nat) : State := s.put LE_LANE (3 * l.val + 2) (3 * l.val) v
/-- The five lanes. -/
def laneList : List (Fin 5) := List.finRange 5

/-- The berth whose token runs in a lane. -/
def State.laneBerth (s : State) (l : Fin 5) : Option Berth :=
  berthList.find? fun n => match (s.berth n).running with | some (_, k, _) => k == l | none => false

/-- The lowest active lane that runs no token. -/
def State.freeLane (s : State) : Option (Fin 5) :=
  laneList.find? fun l => s.lane l == 0 && (s.laneBerth l).isNone

/-- The berth whose waiting token a free lane takes: the earliest target load point, then the lower number (R244). A
berth with a token in a lane waits (R243). -/
def State.nextToken (s : State) : Option (Berth × Token) :=
  berthList.foldl (fun m n =>
    match (s.berth n).waiting, (s.berth n).running with
    | some t, none => match m with
        | none => some (n, t)
        | some (k, u) => if t.due < u.due then some (n, t) else some (k, u)
    | _, _ => m) none

/-- The BF_, BO_ and BD_ registers of berth `n` as they stand (R248). -/
def State.paramsOf (s : State) (n : Berth) : List (Nat × Word) :=
  s.regs.filter fun p => ba n 0x180 ≤ p.1 && p.1 < ba n 0x300

/-- The machine as a token sees it: the result set `ws` that it carries (R243), and the parameters `l` of the instant it
entered its lane (R248). -/
def State.viewOf (s : State) (n : Berth) (ws : List Word) (l : List (Nat × Word)) : State :=
  { s with regs := (ws.zipIdx.map fun p => (ba n (BS_IU + p.2), p.1)) ++ l ++ s.regs.filter fun p =>
      (p.1 < ba n 0x180 || ba n 0x300 ≤ p.1) && (p.1 < ba n BS_IU || ba n BS_IU + ws.length ≤ p.1) }

/-- LANE_TAKE_TOKEN (R244, R248). -/
def execLaneTakeToken (s : State) : Res :=
  .next (match s.freeLane, s.nextToken with
    | some l, some (n, t) => s.modBerth n fun b => { b with waiting := none, running := some (t, l, s.paramsOf n) }
    | _, _ => s)

/-- Lane `l` leaves the active lanes for state `v` and the lowest spare joins; with no spare NOSPARE is set. Returns
whether a spare joined. -/
def State.swapLane (s : State) (l : Fin 5) (v : Nat) : State × Bool :=
  let s1 := (s.putLane l v).setb LE_EVT 0
  match laneList.find? fun k => k != l && s.lane k == 1 with
  | some k => (s1.putLane k 0, true)
  | none => (s1, false)

/-- Lanes that are active. -/
def State.activeLanes (s : State) : Nat := (laneList.filter fun l => s.lane l == 0).length

/-- With two active lanes or fewer every berth stops in order (R265). -/
def State.laneShortage (s : State) : State :=
  if s.activeLanes ≤ 2 then s.forAll berthList fun s n => s.stopRequest n else s

/-- An engine event of lane `l` (R406): MASTER 8 + lane, ACC OP, ADR LE_EVT. -/
def State.raiseLane (s : State) (src : Nat) (l : Fin 5) : State :=
  s.raise { src := src, affected := s.allBerths, master := 8 + l.val, acc := 3, adr := LE_EVT }

/-- The token that runs in lane `l` returns to the waiting tokens with its original target (R265). -/
def State.returnToken (s : State) (l : Fin 5) : State :=
  match s.laneBerth l with
  | none => s
  | some n => match (s.berth n).running with
    | none => s
    | some (t, _, _) =>
        if (s.berth n).waiting.isSome then (s.miss n).modBerth n fun b => { b with running := none }
        else s.modBerth n fun b => { b with running := none, waiting := some t }

/-- Lane `l` no longer waits for the end of its token to be swapped out (R264). -/
def State.dropSwap (s : State) (l : Fin 5) : State :=
  s.modDock fun d => { d with swap := d.swap &&& ~~~(1#5 <<< l.val) }

/-- RESIDUE_MISMATCH, or an uncorrectable error of a lane register file (`uncorr`): the lane is removed at once, its token
returns to the waiting tokens with its original target, the spare joins (R264, R265). A lane that has left the active
lanes and still finishes its token (R265, R549) only gives its token back. -/
def execResidueMismatch (l : Fin 5) (uncorr : Bool) (s : State) : Res :=
  let s0 := if uncorr then s.setb LE_EVT 2 else s
  .next (
    if s.lane l = 0 then
      let r := ((s0.returnToken l).dropSwap l).swapLane l 2
      let s2 := r.1.raiseLane 0x14 l
      (if r.2 then s2 else s2.setb LE_EVT 3).laneShortage
    else if (s.laneBerth l).isSome then (s0.returnToken l).raiseLane 0x14 l
    else s)

/-- Lane `l` is swapped out after a corrected error of its register file: it runs its self-test (R264). -/
def State.swapOut (s : State) (l : Fin 5) : State := ((s.dropSwap l).swapLane l 2).1.laneShortage

/-- STORAGE_ERROR_CORRECTED in a lane register file or the parameter RAM (R264): a lane is swapped out after its token. -/
def execStorageErrorCorrected (w : LaneStore) (s : State) : Res :=
  let s1 := (s.incSat LE_ERRCNT).setb LE_EVT 1
  .next (match w with
    | .param l => s1.raiseLane 0x15 l
    | .lane l =>
        let s2 := s1.raiseLane 0x15 l
        if s.lane l != 0 then s2
        else if (s.laneBerth l).isSome then s2.modDock fun d => { d with swap := d.swap ||| (1#5 <<< l.val) }
        else s2.swapOut l)

/-- UNCORRECTABLE_PARAMETER_ERROR (R264): berth `n`, or every berth, trips by a forced reaction and issues no token until
its section is reloaded. A waiting token, which the error leaves without a package, is a miss (R258). `l` is the lane that read the
word (R406). -/
def execUncorrectableParameterError (a : ParamArea) (l : Fin 5) (s : State) : Res :=
  let s1 := s.setb LE_EVT 2
  let hit := fun (s : State) (n : Berth) =>
    (if (s.berth n).waiting.isSome then s.miss n else s).modBerth n fun b => { b with noToken := true, waiting := none }
  .next (match a with
    | .berth n => (hit s1 n).raise
        { src := 0x16, affected := s.allBerths, forced := 4, fscope := s.berthMask n, master := 8 + l.val, acc := 3, adr := LE_EVT }
    | .engine => (s1.forAll berthList hit).raise
        { src := 0x16, affected := s.allBerths, forced := 4, fscope := s.allBerths, master := 8 + l.val, acc := 3, adr := LE_EVT })

/-! ### The ledger (R269, R303) -/

/-- Add to a 36-bit counter of berth `n` (R14). -/
def State.addWide (s : State) (n : Berth) (o k : Nat) : State :=
  s.putWide (ba n o) ((s.wide (ba n o) 2 + k) % 2 ^ 36) 2

/-- The ledger step of one token: `pin` in Q4.32 pu, `fet` the FET losses in µW, `pout2` in Q.64 pu doubled, over `d` tide
periods; `turn` the angle moved (R269). -/
def State.ledger (s : State) (n : Berth) (pin : Int) (fet : Nat) (pout2 : Int) (d : Nat) (wrapped : Bool) : State :=
  let c := (s.berth n).ctl
  let ps := s.bnat n BL_PSCALE
  -- pin * PSCALE / 2^32 * 0.1 W * d * 50 ns in mJ is pin * PSCALE * d / (2^32 * 200000); fet in µW adds fet * d / (2 * 10^10)
  let eIn : Int := pin * ps * d * 100000 + (fet * d : Nat) * 2 ^ 32
  let den : Nat := 2 ^ 32 * 20000000000
  let eOut : Int := pout2 * ps * d
  let denO : Nat := 2 ^ 65 * 200000
  let s1 := if 0 ≤ eIn then
      let x := eIn.toNat + c.remIn
      (s.addWide n BL_EIN0 (x / den)).modCtl n fun c => { c with remIn := x % den }
    else
      let x := eIn.natAbs + c.remReg
      (s.addWide n BL_EREG0 (x / den)).modCtl n fun c => { c with remReg := x % den }
  let s2 := if 0 ≤ eOut then
      let x := eOut.toNat + c.remOut
      (s1.addWide n BL_EOUT0 (x / denO)).modCtl n fun c => { c with remOut := x % denO }
    else s1
  let st := s.bst n
  let s3 := if st = stRunning ∨ st = stHolding ∨ st = stStopping ∨ st = stSeaTrial then
      let x := c.remRun + d
      (s2.addWide n BL_RUNT0 (x / oneSecond)).modCtl n fun c => { c with remRun := x % oneSecond }
    else s2
  if wrapped then s3.addWide n BL_REV0 1 else s3

/-! ### The loss search (R266 to R268) -/

/-- One update of the loss search of a RUNNING berth, with the parameters of its token in `v`. A debug halt suspends it
for itself and for LSWIN updates after it (R262). -/
def State.lossUpdate (s v : State) (n : Berth) (o : TokOut) (fet : Nat) : State :=
  let c := (s.berth n).ctl
  let l := (s.berth n).loss
  let win := v.bnat n BF_LSWIN
  let th := s.thStep n.val
  let recon := s.bflag n BS_SENSE 2
  let div := s.bget n BS_CTL 5 3
  let fw := decide (0 < c.fwang)
  let ok := v.bflag n BF_CTL 6 && s.bst n == stRunning && l.wref == o.wref &&
    decide ((o.wref - c.omega).natAbs < v.bnat n BF_LSERR) && !s.halted && !c.slim && !o.vlim && !o.limpActed &&
    l.th == th && l.recon == recon && l.div == div && l.fw == fw
  let base : LossSt := { l with
    wref := o.wref, th := th, recon := recon, div := div, fw := fw, pause := if s.halted then l.pause else l.pause - 1 }
  if !ok then
    let cut : LossSt := { base with steady := 0, win := 0, measure := false, pin := 0, pout := 0, prev := none }
    (s.modBerth n fun b => { b with loss := cut }).bclr n BF_STAT 5
  else if l.steady + 1 < win ∨ 0 < l.pause then
    (s.modBerth n fun b => { b with loss := { base with steady := l.steady + 1 } }).bclr n BF_STAT 5
  else
    let fetPu : Int := if s.bnat n BL_PSCALE = 0 then 0 else (fet * 2 ^ 32 / (s.bnat n BL_PSCALE * 100000) : Nat)
    (s.modBerth n fun b => { b with loss := { base with
        steady := l.steady + 1
        win := l.win + 1
        pin := if l.measure then l.pin + (o.pin + fetPu) else 0
        pout := if l.measure then l.pout + o.pout2 else 0 } }).bset n BF_STAT 5

/-- LOSS_SEARCH_WINDOW: a window of LSWIN updates ends (R267, R268). -/
def execLossSearchWindow (n : Berth) (s : State) : Res :=
  let l := (s.berth n).loss
  let c := (s.berth n).ctl
  let next := fun (l : LossSt) => { l with win := 0, pin := 0, pout := 0 }
  .next (
    if l.win < s.bnat n BF_LSWIN then s
    else if !l.measure then s.modBerth n fun b => { b with loss := next { l with measure := true } }
    else if l.pout ≤ 0 then
      (s.modBerth n fun b => { b with loss := next { l with measure := false, prev := none, steady := 0 } }).bclr n BF_STAT 5
    else match l.prev with
      | none => s.modBerth n fun b => { b with loss := next { l with measure := false, prev := some (l.pin, l.pout) } }
      | some (pi, po) =>
          let worse := decide (pi * l.pout < l.pin * po)
          let fw := decide (0 < c.fwang)
          let l' : LossSt := { l with
            measure := false, prev := some (l.pin, l.pout)
            idUp := if !fw && worse then !l.idUp else l.idUp
            angUp := if fw && worse then !l.angUp else l.angUp }
          let st : Int := s.bnat n BF_LSSTEP
          let sa : Int := s.bnat n BF_LSASTEP
          s.modBerth n fun b => { b with
            loss := next l'
            ctl := { b.ctl with
              lsid := if fw then c.lsid else clampI (c.lsid + if l'.idUp then st else -st) (s.bint n BF_LSIDMIN) 0
              lsang := if fw then clampI (c.lsang + if l'.angUp then sa else -sa) 0 (s.bnat n BF_LSAMAX) else c.lsang } })

/-! ### Packages -/

/-- What a token leaves for the starting programs and the stop ramp: listen sums (R293), open-loop angle (R288), scan sums
(R281), pulse-braking ticks (R295), probe peak (R285), stop ramp (R301). -/
def StartSt.update (q : StartSt) (s : State) (n : Berth) (o : TokOut) (d : Nat) (t : Token) : StartSt :=
  let ph := s.bget n BO_PHASE 3 0
  let starting := s.starting n
  let mag : Nat := isqrt (o.vam * o.vam + o.vbm * o.vbm).toNat
  let a := atanCode o.vbm o.vam
  let q1 : StartSt := if !q.listening then q else
    let l := q.listen
    let first := l.n = 0
    { q with listen := { l with
        n := l.n + 1, prevAng := a
        turned := if first then 0 else l.turned + wrap18 ((a : Int) - l.prevAng)
        span := if first then 0 else l.span + d
        sumMag := l.sumMag + mag
        big := l.big || decide (rnd16 (WCATCH * s.bnat n BF_PSI) ≤ (mag : Int)) } }
  let q2 : StartSt := if starting && ph == 9 then
      let inc : Int := (s.bnat n BO_OLACC * 64 * d : Nat) + q.wolRem
      let tgt : Int := if q.fwd then WHAND else -WHAND
      let w : Int := if q.fwd then min tgt (q.wol + inc / 20000000) else max tgt (q.wol - inc / 20000000)
      { q1 with wol := w, wolRem := inc % 20000000, thOl := ang ((q.thOl : Int) + adv w (s.bnat n BO_WBASE) d) }
    else q1
  let q3 : StartSt := if starting && (ph == 7 || ph == 8) && (s.berth n).ctl.k8 == 7 then
      let c := o.ctl
      { q2 with scanN := q.scanN + 1, accA := q.accA + rnd16 (c.h1 / 4), accB := q.accB + rnd16 (c.h2 / 4) }
    else q2
  let q4 : StartSt := if starting && ph == 4 && !q.listening then
      let P := s.bnat n BP_PERIODA * s.prescale n
      let t : Int := if (s.bnat n BO_RBI : Int) < o.imax then (q.tb : Int) - (P / 8 : Nat) else q.tb + P / 16
      { q3 with tb := (clampI t 0 (P - 2 * s.bget n BP_DEADTA 13 0 : Nat)).toNat }
    else q3
  let q5 : StartSt := if ph == 5 && decide (q.pulseAt ≤ t.at_) && (!q.decay || decide (t.at_ ≤ q.decayAt)) then
      { q4 with peak := if t.target = 0 then none else some (isqrt (o.ialpha * o.ialpha + o.ibeta * o.ibeta).toNat) }
    else q4
  if s.bst n = stStopping ∨ s.bst n = stUnmooring ∨ q.trialStop then
    let win := match q.stopWin with | some w => w | none => s.bnat n BO_STOPMAX
    -- |omega at entry| / STOPMAX in codes per ms is 1000 w / win codes per s; STOPDEC is 64 codes per s per unit
    let rate := max (s.bnat n BO_STOPDEC * 64) (if win = 0 then 0 else q.stopW * 1000 / win)
    let x := rate * d + q.stopRem
    let k : Int := (x / 20000000 : Nat)
    { q5 with
      stopRem := x % 20000000
      stopRef := if 0 ≤ q.stopRef then max 0 (q.stopRef - k) else min 0 (q.stopRef + k) }
  else q5

/-- An accepted package: shadows, references and the strobe in one transfer (R258). `restore`: BF_CTL.RESTORE of its
token. -/
def State.acceptPkg (s : State) (n : Berth) (p : Pkg) (t : Token) (restore : Bool) : State :=
  let w (k : Nat) : Word := BitVec.ofNat 18 k
  let s1 := ((((((s.writeShadow n 1 (w p.on.u)).writeShadow n 2 (w p.off.u)).writeShadow n 3 (w p.on.v)).writeShadow n 4
    (w p.off.v)).writeShadow n 5 (w p.on.w)).writeShadow n 6 (w p.off.w))
  let s2 := match p.per with | some k => s1.writeShadow n 0 (w k) | none => s1
  let s3 := (s2.modSens n fun q => { q with rp := p.rp }).strobe n
  let lat := min (since s.tide.now t.at_) 0x3FFFF
  let s4 := s3.wrs [(ba n BL_LAT, w lat), (ba n BL_LATMAX, w (max lat (s.bnat n BL_LATMAX))),
    (LE_LATMAX, w (max lat (s.rd LE_LATMAX).toNat))]
  let d := s.bget n BS_CTL 5 3
  (s4.bput n BF_STAT 7 6 0).modBerth n fun b =>
    { b with accRow := if restore && b.divMf < d then b.accRow + 1 else 0 }

/-- A homed positioner that reaches its target enters HOLDING, or STOPPED when HOLDI is 0 (R305), by the parameters of
its token in `v`. -/
def State.positionCheck (s v : State) (n : Berth) : State :=
  if s.bst n != stRunning || !v.bflag n BD_CTL 17 || !s.bflag n BO_STAT 8 || (s.berth n).start.homing ||
      v.bnat n BO_POSBAND < State.perrAbs { v with berths := s.berths } n then s
  else if v.bnat n BO_HOLDI = 0 then s.stopNow n stStopped
  else s.setState n stHolding

/-- The trace unit records its channels at a token of its berth that completes step 14 (R476); frozen, or past its last
sample after the trigger, it records nothing. The sensing channels are those of the token's result set in `v`. -/
def State.traceSample (s v : State) (n : Berth) : State :=
  let t := s.mem.log.trace
  if s.get LOG_TRCFG 17 14 != n.val || s.get LOG_TRCFG 7 0 = 0 || t.frozen || (t.trig.isSome && t.left = 0) then s
  else
    let ch := ([BS_IU, BS_IU + 1, BS_IU + 2, BS_VBUS, BF_ID, BF_IQ, BO_OMEGA, BO_THETA].zipIdx.filter fun p =>
      s.flag LOG_TRCFG p.2).map fun p => if p.2 < 4 then v.brd n p.1 else s.brd n p.1
    s.modLog fun l => { l with trace := { t with
      samples := (ch.reverse ++ t.samples).take 1024, times := (s.tide.now :: t.times).take 1024
      left := if t.trig.isSome then t.left - 1 else t.left } }

/-- A lane that a corrected error has marked is swapped out when its token has completed (R264). -/
def State.laneDone (s : State) (l : Fin 5) : State := if s.dock.swap.getLsbD l.val then s.swapOut l else s

/-- PACKAGE: a token completes. What it computed stands whether or not its package arrives before the target load point
(R251, R258, R259). -/
def execPackage (n : Berth) (s : State) : Res :=
  .next (match (s.berth n).running with
    | none => s
    | some (t, lane, par) =>
        let v := s.viewOf n t.words par
        let r := (tokenE v n t.at_).run { sat := false, k := s.free }
        let o := r.1
        let d := since t.at_ (s.berth n).ctl.last
        let i : Tri Int := ⟨v.bint n BS_IU, v.bint n 0x111, v.bint n 0x112⟩
        let ampI : Tri Int := i.map fun x =>
          (x * v.bnat n BF_ISCALE) / 2 ^ v.bget n BF_SHIFT 4 0
        let fets := v.fetLoss n ampI
        let fet := fets.foldl (fun a p => a + p.1 + p.2) 0
        let wrapped := decide (((o.ctl.thPrev : Int) - (s.berth n).ctl.thPrev).natAbs > 131072)
        let s1 := (s.useFree (r.2.k - s.free)).modBerth n fun b => { b with
          running := none
          start := b.start.update v n o d t
          ctl := o.ctl }
        let s2 := s1.wrs o.writes
        let s3 := s2.forAll o.bits fun s p => s.putb p.1 p.2.1 p.2.2
        let s4 := if r.2.sat then s3.bset n BF_EVT 0 else s3
        let s5 := (s4.ledger n o.pin fet o.pout2 d wrapped).lossUpdate v n o fet
        let s6 : State := { s5 with therm := { s5.therm with
          acc := s5.therm.acc.mapIdx fun k a =>
            if 6 * n.val ≤ k ∧ k < 6 * n.val + 6 then
              let f := fets.getD ((k - 6 * n.val) / 2) (0, 0)
              (a.1 + (if k % 2 = 0 then f.1 else f.2), a.2 + 1)
            else a } }
        let s7 := match o.pkg with
          | none => s6
          | some p => ((if t.target = 0 then s6.miss n else s6.acceptPkg n p t (v.bflag n BF_CTL 7)).traceSample v n).positionCheck v n
        s7.laneDone lane)

/-- DIV_RESTORE: 4096 accepted packages in a row with DIV above its manifest value lower DIV by 1 (R259); the next period
is sampled (R219). -/
def execDivRestore (n : Berth) (s : State) : Res :=
  let d := s.bget n BS_CTL 5 3
  .next (
    if (s.berth n).accRow < 4096 || d ≤ (s.berth n).divMf || !s.bflag n BF_CTL 7 then s
    else ((s.bput n BS_CTL 5 3 (d - 1)).bputb n BF_STAT 0 (decide ((s.berth n).divMf < d - 1))).modBerth n
      fun b => { b with accRow := 0, pwm := { b.pwm with divCnt := d - 1 } })

/-- A write of 1 to BL_CLR.CLR: every ledger counter clears in one step. -/
def State.clearLedger (s : State) (n : Berth) : State :=
  (s.wrs ((List.range 10).map fun k => (ba n (BL_EIN0 + k), (0 : Word)))).modCtl n fun c =>
    { c with remIn := 0, remReg := 0, remOut := 0, remRun := 0 }

end Sys2Proof.Machine
end

