-- ==== Sys2Proof/Machine/Rotor.lean ====
section
/-! DEFINITION. Starting, catch-spin, lost rotor, orderly stop, positioner (chapter 9): the start program of R291 as its
phases, and the commands that end them. -/

namespace Sys2Proof.Machine

/-! ### Phases of a start -/

/-- BO_PHASE.PHASE. -/
def State.phase (s : State) (n : Berth) : Nat := s.bget n BO_PHASE 3 0
/-- Enter a phase. -/
def State.toPhase (s : State) (n : Berth) (k : Nat) : State :=
  (s.bput n BO_PHASE 3 0 k).modStart n fun q => { q with phAt := s.tide.now }

/-- Closed loop is reached: RUNNING, or SEA TRIAL with its start closed (R273, R546). -/
def State.toRunning (s : State) (n : Berth) : State :=
  if s.bst n = stSeaTrial then
    (((s.bput n BO_PHASE 3 0 0).bclr n BO_STAT 1).bwr n BD_WREF (s.brd n BO_OMEGA)).modBerth n fun b => { b with
      start := { b.start with closed := true, trialStop := false }, ctl := { b.ctl with wref := s.bint n BO_OMEGA } }
  else s.setState n stRunning

/-- Closed loop is reached; a start that homes goes on to its end stop in phase 10 (R304). -/
def State.reachLoop (s : State) (n : Berth) : State :=
  if (s.berth n).start.homing then (s.toRunning n).bput n BO_PHASE 3 0 10 else s.toRunning n

/-- A listen begins: EN 0, every phase off (R293). -/
def State.beginListen (s : State) (n : Berth) (phase : Nat) : State :=
  (((s.modStart n fun q => { q with listening := true, listen := { t0 := s.tide.now } }).toPhase n phase).forceSelf n
    none).disableEn n

/-- Short brake (R296): the three low sides on. -/
def State.beginShortBrake (s : State) (n : Berth) : State :=
  (((s.modStart n fun q => { q with listening := false }).toPhase n 3).forceSelf n (some (2, 2, 2)))

/-- A burst of a reverse brake begins with every phase at code 3; the first carrier period turns the low sides on
(R295). -/
def State.beginBurst (s : State) (n : Berth) : State :=
  (((s.modStart n fun q => { q with listening := false }).toPhase n 4).forceSelf n (some (3, 3, 3)))

/-- Pulse braking in the present tide period (R295): the low sides turn off tb ticks into each carrier period, which is the
aligned period of R158, and on at its start. -/
def State.brakePulse (s : State) (n : Berth) : State :=
  if !(s.starting n && s.phase n == 4 && !(s.berth n).start.listening) then s
  else
    let td := s.alignTD n
    let tb := (s.berth n).start.tb
    let x := if td.1 = 0 then 0 else (s.tick + td.1 - td.2 % td.1) % td.1
    let on (s : State) (c : Bool) (k : Nat) : State :=
      if c then (s.modPwm n fun q => { q with at_ := max q.at_ (s.tick + k) }).forceSelf n (some (2, 2, 2)) else s
    let off (s : State) (c : Bool) (k : Nat) : State :=
      if c && s.forceCode n .u == 2 then
        (s.modPwm n fun q => { q with at_ := max q.at_ (s.tick + k) }).forceSelf n (some (3, 3, 3))
      else s
    let s1 := off (on s (x == 0 && tb != 0) 0) (decide (x ≤ tb) && decide (tb < x + 256)) (tb - x)
    let next := x != 0 && decide (td.1 < x + 256)
    off (on s1 (next && tb != 0) (td.1 - x)) (next && decide (td.1 + tb < x + 256)) (td.1 + tb - x)

/-- Reverse brake (R295): tb starts at P / 4. -/
def State.beginReverseBrake (s : State) (n : Berth) : State :=
  (s.modStart n fun q => { q with rbAt := s.tide.now, tb := s.bnat n BP_PERIODA * s.prescale n / 4 }).beginBurst n

/-- Force codes and directions of the twelve probe pulses, in order (R284): U, V, W and degrees. -/
def probeTable : List (Nat × Nat × Nat × Nat) :=
  [(1, 2, 2, 0), (2, 1, 1, 180), (1, 3, 2, 30), (2, 3, 1, 210), (1, 1, 2, 60), (2, 2, 1, 240),
   (3, 1, 2, 90), (3, 2, 1, 270), (2, 1, 2, 120), (1, 2, 1, 300), (2, 1, 3, 150), (1, 2, 3, 330)]

/-- The row of pulse `k`. -/
def probeRow (k : Nat) : Nat × Nat × Nat × Nat := probeTable.getD k (3, 3, 3, 0)
/-- The angle code of a direction in degrees, to the nearest code. -/
def degCode (d : Nat) : Nat := (d * 262144 * 2 + 360) / 720

/-- Pulse `k` of the click probe is applied (R284). -/
def State.probePulse (s : State) (n : Berth) (k : Nat) : State :=
  let r := probeRow k
  (s.modStart n fun q => { q with probe := k, decay := false, pulseAt := s.tide.now, peak := none }).forceSelf n
    (some (r.1, r.2.1, r.2.2.1))

/-- The click probe begins (R284). -/
def State.beginProbe (s : State) (n : Berth) : State :=
  (((s.disableEn n).toPhase n 5).modStart n fun q =>
    { q with peaks := [], clkw := s.bnat n BO_CLKW, cuts := 0, misses := 0, listening := false, homeHold := false }).probePulse
      n 0

/-- Open-loop acceleration from angle `th` at speed `w` (R288, R294). -/
def State.beginOpenLoop (s : State) (n : Berth) (th : Nat) (w : Int) : State :=
  ((((s.forceSelf n none).toPhase n 9).bset n BO_STAT 1).modBerth n fun b => { b with
    start := { b.start with wol := w, wolRem := 0, thOl := th, listening := false, phAt := s.tide.now }
    ctl := { b.ctl with agree := 0 } }).enableEn n

/-- Alignment (R287). -/
def State.beginAlign (s : State) (n : Berth) : State :=
  ((s.forceSelf n none).toPhase n 6).enableEn n

/-- A cicada start (R281): the rotating scan. -/
def State.beginScan (s : State) (n : Berth) : State :=
  (((s.forceSelf n none).toPhase n 7).modBerth n fun b => { b with
    start := { b.start with accA := 0, accB := 0, scanN := 0, polNeg := false, listening := false }
    ctl := { b.ctl with k8 := 0, h1 := 0, h2 := 0 } }).enableEn n

/-- The rotor is at rest (R291): cicada scan, else click probe. -/
def State.atRest (s : State) (n : Berth) : State :=
  if s.cicada n then s.beginScan n else s.beginProbe n

/-- After the calibration of a start: listen, else the rotor counts as at rest (R277, R291). -/
def State.afterCal (s : State) (n : Berth) : State :=
  if s.bflag n BO_CTL 2 && !s.bflag n BO_STAT 6 then s.beginListen n 2 else s.atRest n

/-! ### Starting -/

/-- The demand calls for a start (R322, R323). -/
def State.demandCalls (s : State) (n : Berth) : Bool :=
  decide (s.bget n BD_ON 16 0 ≤ s.bget n BD_DEM 16 0) &&
    (!s.bflag n BD_CTL 17 || decide (2 * s.bnat n BO_POSBAND < s.perrAbs n))

/-- Nothing blocks a start of berth `n`, the lock of R306 apart (R91, R96, R236, R264, R292, R355, R397). -/
def State.startFree (s : State) (n : Berth) : Bool :=
  s.inService && !s.bflag n BO_STAT 9 && !(s.berth n).start.wait && !s.bflag n BP_TRIP 6 &&
    !(s.dev.sagHeld.getLsbD n.val) && !(s.flag PWR_STAT 8 && s.flag PWR_SAGBERTH n.val) &&
    !s.flag 0x86D n.val && decide (s.reactOn n < 3) && !s.bflag n BS_SENSE 12 &&
    (let f := s.bget n BS_SENSE 5 3; f == 0 || f == 1 || f == 2 || f == 4) &&
    !(s.berth n).noToken && s.dev.sleep == .none && !s.bflag n BS_SENSE 13

/-- Nothing blocks a start of berth `n`: a positioner with HOMED 0 and AUTOHOME 0 waits for HOME (R306). -/
def State.startAllowed (s : State) (n : Berth) : Bool :=
  s.startFree n && (!s.bflag n BD_CTL 17 || s.bflag n BO_STAT 8 || s.bflag n BO_CTL 7)

/-- The start program of R291 begins: direction, homing, calibration. -/
def State.beginStart (s : State) (n : Berth) (homing : Bool) : State :=
  let fwd := if homing then s.bflag n BO_CTL 6
    else if s.bflag n BD_CTL 17 then decide (0 ≤ s.perrRev n)
    else decide (0 ≤ s.bint n BD_TGT)
  let s := s.disableEn n
  let s1 := if s.bst n = stSeaTrial then s else s.setState n stStarting
  let s2 := if s.bflag n BD_CTL 17 then s1 else s1.bputb n BD_STAT 2 (!fwd)
  let s3 := (s2.bclr n BO_STAT 0).modStart n fun q =>
    { q with fwd := fwd, closed := false, trialStop := false, homing := homing, homeEnd := false, homeHold := false, giveUp := false,
             listening := false, homeAt := if homing then s.tide.now else q.homeAt }
  if s.bflag n BS_CTL 9 then (s3.toPhase n 1).startCal n else s3.afterCal n

/-- START: the demand calls for a start of a STOPPED berth, of an idle berth in SEA TRIAL, or a positioner in HOLDING
must move (R273, R291, R304, R305, R322, R323, R546). -/
def execStart (n : Berth) (s : State) : Res :=
  let st := s.bst n
  .next (
    if st = stHolding then
      if s.demandCalls n && s.startFree n then
        let fwd := decide (0 ≤ s.perrRev n)
        let s1 := (s.setState n stStarting).modStart n fun q => { q with fwd := fwd, closed := false, homing := false }
        if s.cicada n then s1.reachLoop n else s1.beginOpenLoop n (s.berth n).ctl.thPrev 0
      else s
    else if (st = stStopped ∨ (st = stSeaTrial ∧ s.phase n = 0 ∧ !(s.berth n).start.closed)) ∧ s.startAllowed n ∧
        s.demandCalls n then
      s.beginStart n (s.bflag n BD_CTL 17 && !s.bflag n BO_STAT 8)
    else s)

/-- OFFSET_CAL_DONE (R228 to R230): the calibration ends; a start that waited for it goes on (R291). -/
def execOffsetCalDone (n : Berth) (c : CalSums) (s : State) : Res :=
  .next (
    if !s.bflag n BS_SENSE 13 then s
    else
      let s1 := s.calDone n c
      if s.starting n && s.phase n == 1 then s1.afterCal n else s1)

/-- The result of a listen (R293): speed known, w and theta. -/
def State.listenResult (s : State) (n : Berth) : Bool × Int × Nat :=
  let l := (s.berth n).start.listen
  let wb := s.bnat n BO_WBASE
  let w : Int := if l.span = 0 ∨ wb = 0 then 0 else sat18 (rdiv (l.turned * 50000000) (wb * l.span : Nat))
  let d := if l.n ≤ 1 then 0 else l.span / (l.n - 1)
  let th := ang ((l.prevAng : Int) + adv w wb d)
  let mean : Int := if l.n = 0 then 0 else l.sumMag / l.n
  let e := rnd16 ((w.natAbs : Int) * s.bnat n BF_PSI)
  let consistent := ((mean - e).natAbs : Int) ≤ rnd16 (s.bnat n BO_EMFTOL * e)
  if l.big && consistent then (true, w, th) else (false, 0, th)

/-- Forward sync (R294): angle, speed, integrators and flux from the listen; EN is set. -/
def State.sync (s : State) (n : Berth) (w : Int) (th : Nat) : State :=
  let psi : Int := s.bnat n BF_PSI
  ((s.modCtl n fun c => { c with
      theta := th, omega := w, xd := 0, xs := 0, fwang := 0, xq := rnd16 (w * psi) * 65536
      xa := sat36 (psi * toQ16 (cosAng th)), xb := sat36 (psi * toQ16 (sinAng th)), bad := 0, wref := w }).bwr n BO_OMEGA (wd w)).enableEn n

/-- A listen that gave forward rotation at or above WCATCH: sync, or open-loop acceleration for an L-class berth below
WOBS (R294). `run` is what follows a sync. -/
def State.catchForward (s : State) (n : Berth) (w : Int) (th : Nat) (run : State → State) : State :=
  if !isH n && w.natAbs < WOBS.natAbs then
    (if s.bst n = stRecatch then s.setState n stStarting else s).beginOpenLoop n th w
  else run (s.sync n w th)

/-- The rest of the catch-spin branch (R291): reverse brake, then short brake. -/
def State.catchRest (s : State) (n : Berth) (known : Bool) (w : Int) : State :=
  if known ∧ WCATCH.natAbs ≤ w.natAbs then s.beginReverseBrake n else s.beginShortBrake n

/-- LISTEN_END (R291, R293, R295, R299). -/
def execListenEnd (n : Berth) (s : State) : Res :=
  let q := (s.berth n).start
  let r := s.listenResult n
  let w := r.2.1
  let fwd := if q.fwd then decide (0 < w) else decide (w < 0)
  let fast := r.1 && decide (WCATCH.natAbs ≤ w.natAbs)
  let res := if !fast then 2 else if fwd then 1 else 3
  let s1 := (((s.bwr n BO_CATCHW (wd w)).bput n BO_PHASE 7 6 res).bwr n BO_LASTW (BitVec.ofNat 18 w.natAbs)).modStart n
    fun q => { q with listening := false }
  .next (
    if !q.listening then s
    else if q.giveUp then
      if r.1 && fwd && (decide (WOBS.natAbs ≤ w.natAbs) || s.cicada n) then
        (s1.sync n w r.2.2).beginStop n stStopping
      else s1.stopNow n stStopped
    else if s.phase n = 4 then
      if !fast || fwd then s1.beginShortBrake n else s1.beginBurst n
    else if s.phase n = 11 then
      if fast && fwd then s1.catchForward n w r.2.2 fun s => (s.reachLoop n).bset n BO_EVT 4
      else (s1.setState n stStarting).catchRest n r.1 w
    else if fast && fwd then s1.catchForward n w r.2.2 fun s => s.reachLoop n
    else s1.catchRest n r.1 w)

/-- REVERSE_BRAKE_BURST: a burst ends and a 2 ms listen follows (R295). -/
def execReverseBrakeBurst (n : Berth) (s : State) : Res :=
  .next (if s.starting n && s.phase n == 4 && !(s.berth n).start.listening then s.beginListen n 4 else s)

/-- SHORT_BRAKE_END (R296): LASTW becomes 0; the rotor is at rest. -/
def execShortBrakeEnd (n : Berth) (s : State) : Res :=
  .next (if s.starting n && s.phase n == 3 then ((s.bwr n BO_LASTW 0).forceSelf n none).atRest n else s)

/-- CICADA_SCAN_END: the rotating scan, or one half of the polarity test, ends (R281, R282). -/
def execCicadaScanEnd (n : Berth) (s : State) : Res :=
  let q := (s.berth n).start
  let mag : Nat := if q.scanN = 0 then 0 else isqrt (q.accA * q.accA + q.accB * q.accB).toNat / q.scanN
  let clear := fun (q : StartSt) => { q with accA := 0, accB := 0, scanN := 0 }
  .next (
    if !s.starting n then s
    else if s.phase n = 7 then
      let s1 := s.bwr n BO_SAL (BitVec.ofNat 18 mag)
      if mag < s.bnat n BO_CICMIN then (s1.bset n BO_STAT 7).beginProbe n
      else
        let th := atanFree q.accB q.accA s.free / 2
        (((s1.useFree 1).modCtl n fun c => { c with theta := th, omega := 0 }).modStart n
          fun q => { clear q with polNeg := false }).toPhase n 8
    else if s.phase n = 8 then
      if !q.polNeg then s.modStart n fun q => { clear q with polNeg := true, polP := mag }
      else if 32 * ((q.polP : Int) - mag).natAbs < q.polP + mag then (s.bset n BO_EVT 1).beginProbe n
      else
        let s1 := if mag < q.polP then s.modCtl n fun c => { c with theta := ang ((c.theta : Int) + 131072) } else s
        s1.reachLoop n
    else s)

/-! ### The click probe (R284 to R286) -/

/-- A start fails (R292, R547): EN and FEN clear, STOPPED (a sea trial fails by its own command), source k = 7. -/
def State.startFails (s : State) (n : Berth) : State :=
  let f := (s.berth n).start.fails + 1
  let s1 := if s.bst n = stSeaTrial then s.endTrialStart n else s.stopNow n stStopped
  let s2 := ((s1.bset n BO_EVT 6).raiseBerth n 7).modStart n fun q =>
    { q with fails := f, wait := true, homing := false, homeHold := false, listening := false }
  if 3 ≤ f then s2.bset n BO_STAT 9 else s2

/-- The index of the largest peak, ties to the earlier pulse. -/
def bestPeak (l : List Nat) : Nat × Nat :=
  l.zipIdx.foldl (fun m p => if m.2 < p.1 then (p.2, p.1) else m) (0, 0)

/-- Homing sets the position at the probed or aligned angle (R304). -/
def State.homeDone (s : State) (n : Berth) (th : Nat) : State :=
  let pos := s.bint n BO_HOMEOFS1 * 262144 + s.bnat n BO_HOMEOFS0
  ((((s.bset n BO_STAT 8).bwr n BO_POS0 (BitVec.ofNat 18 (pos % 262144).toNat)).bwr n BO_POS1 (wd (pos / 262144))).modBerth n
    fun b => { b with ctl := { b.ctl with pos := pos, theta := th, thPrev := th }
                      start := { b.start with homing := false, homeEnd := false } }).stopNow n stStopped

/-- The twelve peaks decide the angle (R285). -/
def State.probeDecide (s : State) (n : Berth) (peaks : List Nat) : State :=
  let b := bestPeak peaks
  let opp := peaks.getD (if b.1 % 2 = 0 then b.1 + 1 else b.1 - 1) 0
  if b.2 = 0 ∨ 32 * (b.2 - opp) < b.2 then (s.bset n BO_EVT 2).beginAlign n
  else
    let th := degCode (probeRow b.1).2.2.2
    let con := (rdiv ((b.2 - opp : Nat) * 65536) b.2).toNat
    let s1 := (((s.bwr n BO_CLKANG (BitVec.ofNat 18 th)).bwr n BO_CLKCON (BitVec.ofNat 18 con)).modCtl n
      fun c => { c with theta := th }).forceSelf n none
    if (s.berth n).start.homeEnd then s1.homeDone n th else s1.beginOpenLoop n th 0

/-- CLICK_PULSE: a pulse ends and its decay begins, or the decay ends (R284 to R286); or the 5 ms that R304 holds every
phase at code 3 before the probe end. -/
def execClickPulse (n : Berth) (s : State) : Res :=
  let q := (s.berth n).start
  .next (
    if s.starting n && q.homeHold then s.beginProbe n
    else if !s.starting n || s.phase n != 5 then s
    else if !q.decay then
      (s.modStart n fun q => { q with decay := true, decayAt := s.tide.now }).forceSelf n (some (3, 3, 3))
    else match q.peak with
      | none =>
          if q.misses = 0 then (s.modStart n fun q => { q with misses := 1 }).probePulse n q.probe else s.startFails n
      | some pk =>
          if s.bnat n BF_ILIM < pk then
            if q.cuts = 0 then
              ((s.bset n BO_EVT 0).modStart n fun q =>
                { q with cuts := 1, peaks := [], misses := 0, clkw := max 400 (q.clkw / 2) }).probePulse n 0
            else (s.bset n BO_EVT 0).startFails n
          else
            let d := (probeRow q.probe).2.2.2
            let norm := if d % 60 = 30 then (sat18 (rnd16 (pk * 0x1279B))).toNat else pk
            let peaks := q.peaks ++ [norm]
            let s1 := s.modStart n fun q => { q with peaks := peaks, misses := 0 }
            if q.probe < 11 then s1.probePulse n (q.probe + 1) else s1.probeDecide n peaks)

/-- ALIGNMENT_END (R287): theta stands at 0, ALIGNED is set; open-loop acceleration follows, or homing ends. -/
def execAlignmentEnd (n : Berth) (s : State) : Res :=
  .next (
    if !s.starting n || s.phase n != 6 then s
    else
      let s1 := (s.bset n BO_STAT 0).modCtl n fun c => { c with theta := 0 }
      if (s.berth n).start.homeEnd then s1.homeDone n 0 else s1.beginOpenLoop n 0 0)

/-- HAND_OFF (R289): the observer has agreed for THAND. -/
def execHandOff (n : Berth) (s : State) : Res :=
  let b := s.berth n
  let d := ang ((b.start.thOl : Int) - b.ctl.theta)
  let r := (sincosE d).run { sat := false, k := s.free }
  let iq := sat18 (rnd16 (b.ctl.idPrev * r.1.2 + b.ctl.iqPrev * r.1.1))
  .next (
    if !s.starting n || s.phase n != 9 || b.ctl.agree < THAND then s
    else ((((s.useFree 2).modCtl n fun c => { c with xs := iq * 65536, agree := 0, bad := 0 }).bwr n BO_THETA
      (BitVec.ofNat 18 b.ctl.theta)).bwr n BO_OMEGA (wd b.ctl.omega)).reachLoop n)

/-- The phase in which each kind of start failure arises (R286, R288, R295, R304). -/
def failPhase (why : StartFailure) (s : State) (n : Berth) : Bool :=
  match why with
  | .openLoop => s.phase n == 9
  | .reverseBrake => s.phase n == 4
  | .probeCut | .probeMiss => s.phase n == 5
  | .homing => (s.berth n).start.homing

/-- START_FAIL (R292). -/
def execStartFail (n : Berth) (why : StartFailure) (s : State) : Res :=
  .next (if s.starting n && failPhase why s n then s.startFails n else s)

/-- START_RETRY: 1 s after a failed start; a demand that still calls starts the berth again (R292). -/
def execStartRetry (n : Berth) (s : State) : Res :=
  let s1 := s.modStart n fun q => { q with wait := false }
  .next (
    if !(s.berth n).start.wait then s
    else if s1.bst n = stStopped ∧ s1.startAllowed n ∧ s1.demandCalls n then
      s1.beginStart n (s.bflag n BD_CTL 17 && !s.bflag n BO_STAT 8)
    else s1)

/-- A write of 1 to BO_CMD.RESTART (R292). -/
def State.restart (s : State) (n : Berth) : State :=
  (s.bclr n BO_STAT 9).modStart n fun q => { q with fails := 0 }

/-! ### Lost rotor (R298 to R300) -/

/-- A give-up after a lost rotor (R299): source k = 5, HOMED clears; a listen unless listening is impossible. -/
def State.giveUp (s : State) (n : Berth) : State :=
  let s1 := ((s.raiseBerth n 5).bset n BO_EVT 5).bclr n BO_STAT 8
  if s.bflag n BO_STAT 6 then s1.stopNow n stStopped
  else ((s1.setState n stRecatch).beginListen n 11).modStart n fun q => { q with giveUp := true }

/-- ROTOR_LOST: the lost-rotor condition has held for LOSTT (R298 to R300). In homing it marks the end stop instead
(R304). -/
def execRotorLost (n : Berth) (s : State) : Res :=
  let st := s.bst n
  let q := (s.berth n).start
  let times := q.times.filter fun t => since s.tide.now t ≤ oneSecond
  let s1 := (((s.bset n BO_EVT 3).incSat (ba n BO_LOSTCNT)).disableEn n).modBerth n fun b => { b with
    start := { b.start with times := times }, ctl := { b.ctl with bad := 0 } }
  let s2 := s1.bput n BO_PHASE 5 4 times.length
  .next (
    if q.homing || (s.berth n).ctl.bad < LOSTT then s
    else if st = stRunning then
      if !s.bflag n BO_CTL 3 || s.bflag n BO_STAT 6 || times.length == NATTEMPT then s2.giveUp n
      else
        (((s2.modStart n fun q => { q with times := s.tide.now :: times }).bput n BO_PHASE 5 4 (times.length + 1)).setState n
          stRecatch).beginListen n 11
    else if st = stStopping then s2.setState n stStopped
    else if st = stUnmooring then s2.setState n stDrydock
    else if st = stSeaTrial ∧ q.closed then s2.modStart n fun q => { q with closed := false, trialStop := false }
    else s)

/-! ### Orderly stop and positioner -/

/-- STOP_COMPLETE: an orderly stop ends, or reaches STOPMAX (R301, R542, R548); the VGD tender's waiting thermal stop begins
with the last one (R356). -/
def execStopComplete (n : Berth) (timeout : Bool) (s : State) : Res :=
  let st := s.bst n
  let q := (s.berth n).start
  let w := (s.bint n BO_OMEGA).natAbs
  let slow := if s.floored n then decide (w ≤ WHAND.natAbs)
    else s.cicada n && decide (q.stopRef = 0) && decide (TLISTEN ≤ (s.berth n).ctl.slow)
  let s1 := (if timeout then s.bset n BO_EVT 8 else s).disableEn n
  .next (
    if !(timeout || slow) then s
    else if st = stStopping then (s1.setState n stStopped).waitingStop
    else if st = stUnmooring then (s1.setState n stDrydock).waitingStop
    else if st = stSeaTrial ∧ q.trialStop then
      (s1.bwr n BD_WREF 0).modStart n fun q => { q with trialStop := false, closed := false }
    else s)

/-- A write of 1 to BO_CMD.HOME that is accepted (R304). -/
def State.home (s : State) (n : Berth) : State := s.beginStart n true

/-- HOMING_END_STOP: homing has reached its end stop (R304 step 2); every phase goes to code 3 for 5 ms, whose end comes
with CLICK_PULSE, and the click probe follows, whose end sets the position. -/
def execHomingEndStop (n : Berth) (s : State) : Res :=
  let b := s.berth n
  .next (
    if !b.start.homing || b.start.homeEnd || !s.fullLoop n ||
        !(decide (TLISTEN ≤ b.ctl.slow) || decide (LOSTT ≤ b.ctl.bad)) then s
    else
      let s1 := if s.bst n = stSeaTrial then s else s.setState n stStarting
      (((s1.disableEn n).modBerth n fun b => { b with
        start := { b.start with homeEnd := true, homeHold := true, closed := false }
        ctl := { b.ctl with bad := 0, slow := 0 } }).toPhase n 10).forceSelf n (some (3, 3, 3)))

/-- HOMING_TIMEOUT: homing is not complete after HOMEMAX, and the start fails (R292, R304). -/
def execHomingTimeout (n : Berth) (s : State) : Res :=
  .next (if (s.berth n).start.homing then s.startFails n else s)

/-- SLIP: |vq| has exceeded SLIPV for 1 ms in HOLDING (R306). -/
def execSlip (n : Berth) (s : State) : Res :=
  .next (
    if s.bst n != stHolding || (s.berth n).ctl.slip < 20000 then s
    else (((s.bset n BO_EVT 7).bclr n BO_STAT 8).raiseBerth n 7).stopNow n stStopped)

end Sys2Proof.Machine
end

