-- ==== Sys2Proof/Machine/Clock.lean ====
section
/-! DEFINITION. The passing of a tide period (R12, R138, R504), and the pulses of the reverse brakes in it (R295). -/

namespace Sys2Proof.Machine

/-- One tide period passes: tide time counts modulo 2^54 (R138), by 256 ticks and the correction that mooring alignment has
set (R508; log entry 13). -/
def State.tideNext (s : State) : State :=
  s.modTide fun t =>
    let x : Int := (t.phase % 2 ^ 24 : Nat) + 2 ^ 24 + corrOf t.corr
    { t with now := (t.now + (x / 2 ^ 24).toNat) % 2 ^ 54, phase := (x % 2 ^ 24).toNat }

/-- One tide period passes, and with it the pulses of the reverse brakes (R295). In reset and asleep the tide does not
run. -/
def State.tidePeriod (s : State) : State :=
  if !s.awake then s else s.tideNext.forAll berthList fun s n => s.brakePulse n

end Sys2Proof.Machine
end

