-- ==== Sys2Proof/Machine/Crc.lean ====
section
/-! DEFINITION. CRC-16 (R421), CRC-32 (R117) and AES-128 CMAC (R117, NIST SP 800-38B) over lists of bytes as numbers. -/

namespace Sys2Proof.Machine

/-- Little-endian bytes of a number. -/
def leBytes : Nat → Nat → List Nat
  | 0, _ => []
  | k + 1, v => v % 256 :: leBytes k (v / 256)

/-- The number of little-endian bytes. -/
def leNat : List Nat → Nat
  | [] => 0
  | b :: r => b + 256 * leNat r

/-- The `k`-byte field at offset `o` (R105). -/
def leAt (b : List Nat) (o k : Nat) : Nat := leNat ((b.drop o).take k)

/-- One bit of CRC-16/CCITT, unreflected. -/
def crc16Bit (c : Nat) : Nat := if 0x8000 ≤ c then ((c * 2) % 65536) ^^^ 0x1021 else c * 2
/-- One byte of CRC-16/CCITT. -/
def crc16Byte (c b : Nat) : Nat := (List.range 8).foldl (fun c _ => crc16Bit c) (c ^^^ (b * 256))
/-- CRC-16/CCITT from initial value 0xFFFF (R421). -/
def crc16 (l : List Nat) : Nat := l.foldl crc16Byte 0xFFFF

/-- One bit of CRC-32, reflected. -/
def crc32Bit (c : Nat) : Nat := if c % 2 = 1 then (c / 2) ^^^ 0xEDB88320 else c / 2
/-- One byte of CRC-32. -/
def crc32Byte (c b : Nat) : Nat := (List.range 8).foldl (fun c _ => crc32Bit c) (c ^^^ b)
/-- CRC-32 with the ISO-HDLC parameters (R117). -/
def crc32 (l : List Nat) : Nat := l.foldl crc32Byte 0xFFFFFFFF ^^^ 0xFFFFFFFF

/-! ### AES-128 -/

/-- Multiplication by x in GF(2^8) of AES. -/
def xtime (a : Nat) : Nat := if 128 ≤ a then (a * 2 % 256) ^^^ 0x1B else a * 2
/-- The S-box of FIPS 197 as one number: entry `a` is its byte `a`, the lowest first. -/
def sboxTable : Nat := 0x16bb54b00f2d99416842e6bf0d89a18cdf2855cee9871e9b948ed9691198f8e19e1dc186b95735610ef6034866b53e708a8bbd4b1f74dde8c6b4a61c2e2578ba08ae7a65eaf4566ca94ed58d6d37c8e779e4959162acd3c25c2406490a3a32e0db0b5ede14b8ee4688902a22dc4f816073195d643d7ea7c41744975fec130ccdd2f3ff1021dab6bcf5389d928f40a351a89f3c507f02f94585334d43fbaaefd0cf584c4a39becb6a5bb1fc20ed00d153842fe329b3d63b52a05a6e1b1a2c830975b227ebe28012079a059618c323c7041531d871f1e5a534ccf73f362693fdb7c072a49cafa2d4adf04759fa7dc982ca76abd7fe2b670130c56f6bf27b777c63
/-- The AES S-box. -/
def sbox (a : Nat) : Nat := sboxTable / 2 ^ (8 * a) % 256

/-- Bitwise exclusive or of two byte lists. -/
def xorBytes (a b : List Nat) : List Nat := List.zipWith (· ^^^ ·) a b

/-- The next round key from one of 16 bytes. -/
def nextKey (k : List Nat) (rcon : Nat) : List Nat :=
  let w (i : Nat) := (k.drop (4 * i)).take 4
  let t := match w 3 with
    | [a, b, c, d] => [sbox b ^^^ rcon, sbox c, sbox d, sbox a]
    | l => l
  let w0 := xorBytes (w 0) t
  let w1 := xorBytes (w 1) w0
  let w2 := xorBytes (w 2) w1
  w0 ++ w1 ++ w2 ++ xorBytes (w 3) w2

/-- MixColumns on one column: 3 times a byte is twice the byte and the byte. -/
def mixCol : List Nat → List Nat
  | [a, b, c, d] =>
      [xtime a ^^^ xtime b ^^^ b ^^^ c ^^^ d, a ^^^ xtime b ^^^ xtime c ^^^ c ^^^ d,
       a ^^^ b ^^^ xtime c ^^^ xtime d ^^^ d, xtime a ^^^ a ^^^ b ^^^ c ^^^ xtime d]
  | l => l
/-- SubBytes and ShiftRows. -/
def subShift (s : List Nat) : List Nat :=
  (List.range 16).map fun i => sbox (s.getD ((i + 4 * (i % 4)) % 16) 0)
/-- Rounds 1 to 9, then the last without MixColumns. -/
def aesRounds : Nat → Nat → List Nat → List Nat → List Nat
  | 0, rcon, k, s => xorBytes (subShift s) (nextKey k rcon)
  | n + 1, rcon, k, s =>
      let t := subShift s
      let m := (List.range 4).flatMap fun i => mixCol ((t.drop (4 * i)).take 4)
      let k' := nextKey k rcon
      aesRounds n (xtime rcon) k' (xorBytes m k')
/-- AES-128 of one 16-byte block. -/
def aes128 (key block : List Nat) : List Nat := aesRounds 9 1 key (xorBytes key block)

/-- Doubling in GF(2^128) for the CMAC subkeys. -/
def dbl (l : List Nat) : List Nat :=
  let sh := (l.zip (l.tail ++ [0])).map fun p => (p.1 * 2 % 256) + p.2 / 128
  if 128 ≤ l.headD 0 then sh.dropLast ++ [sh.getLastD 0 ^^^ 0x87] else sh

/-- CMAC over the blocks of a message, with the last one masked by a subkey. -/
def cmacGo (key k1 k2 : List Nat) : Nat → List Nat → List Nat → List Nat
  | 0, x, _ => x
  | n + 1, x, m =>
      if 16 < m.length then cmacGo key k1 k2 n (aes128 key (xorBytes x (m.take 16))) (m.drop 16)
      else
        let last := if m.length = 16 then xorBytes m k1
          else xorBytes (m ++ [0x80] ++ List.replicate (15 - m.length) 0) k2
        aes128 key (xorBytes x last)

/-- AES-CMAC of a message (NIST SP 800-38B). -/
def aesCmac (key msg : List Nat) : List Nat :=
  let l := aes128 key (List.replicate 16 0)
  cmacGo key (dbl l) (dbl (dbl l)) (msg.length / 16 + 1) (List.replicate 16 0) msg

/-- The 16 bytes of a 128-bit key, bits 127:120 first: the spec does not say which byte of the AES key they are (DESIGN CHOICE, log
entry 124). -/
def keyBytes (k : BitVec 128) : List Nat := (leBytes 16 k.toNat).reverse

end Sys2Proof.Machine
end

