-- ==== Sys2Proof/Machine/Memory.lean ====
section
/-! DEFINITION. The queue of the memory port (R455, R461) and the memory commands that the logbook and the loader build
(R103, R104, R121, R456). -/

namespace Sys2Proof.Machine

/-! ### Selects (R111, R455) -/

/-- The select of a byte address, its local address and declaration. -/
def selGo (a : Nat) : Nat → Nat → List SelDecl → Option (Nat × Nat × SelDecl)
  | _, _, [] => none
  | k, start, d :: r =>
      if d.kind = 0 then selGo a (k + 1) start r
      else if a < start + 2 ^ d.sizeLog2 then some (k, a - start, d)
      else selGo a (k + 1) (start + 2 ^ d.sizeLog2) r

/-- The select that a byte address belongs to (R455). -/
def State.selOf (s : State) (a : Nat) : Option (Nat × Nat × SelDecl) := selGo a 0 0 s.decl.sels
/-- Select `k` can be used (R463): declared with a kind above 0; before commit only select 0 is known (R104). -/
def State.selOk (s : State) (k : Nat) : Bool :=
  if s.committed then (s.decl.sels.getD k ⟨0, 0⟩).kind != 0 else k == 0

/-! ### The queue (R461) -/

/-- Entries that wait before the queue take its free slots; internal masters leave one of the 64 for the host entry. -/
def MemSt.fill (m : MemSt) : MemSt :=
  let k := 63 - (m.queue.filter fun e => e.job != .host).length
  { m with queue := m.queue ++ m.wait.take k, wait := m.wait.drop k }

/-- Entries of an internal master join the queue in order, or wait before it while it is full. -/
def State.enqueue (s : State) (l : List MemEntry) : State := s.modMem fun m => { m with wait := m.wait ++ l }.fill
/-- The host entry takes the slot that is kept for it. -/
def State.enqueueHost (s : State) (e : MemEntry) : State := s.modMem fun m => { m with queue := m.queue ++ [e] }
/-- An entry leaves the queue. -/
def State.dropEntry (s : State) (e : MemEntry) : State := s.modMem fun m => { m with queue := m.queue.erase e }.fill
/-- The entries that match leave: the end of their work has been reported. -/
def State.endJobs (s : State) (p : MemJob → Bool) : State :=
  s.modMem fun m => { m with queue := m.queue.filter fun e => !p e.job, wait := m.wait.filter fun e => !p e.job }.fill
/-- The entries of a job leave. -/
def State.endJob (s : State) (j : MemJob) : State := s.endJobs (· == j)
/-- An entry whose job matches waits or runs. -/
def State.inMem (s : State) (p : MemJob → Bool) : Bool := (s.mem.queue.any fun e => p e.job) || s.mem.wait.any fun e => p e.job

/-- The job is the loader's: its reads after a reset, or those of a RELOAD. -/
def MemJob.ofLoader (j : MemJob) : Bool := j == .loader || j == .reload
/-- The job reads for a mount (R474). -/
def MemJob.ofMount (j : MemJob) : Bool := j == .head || j == .sector || j == .thRead || j == .parRead
/-- The job is the logbook's. -/
def MemJob.ofLog (j : MemJob) : Bool := j != .host && !j.ofLoader

/-- The incoming words of an entry as its WLEN leaves them (R459). -/
def MemEntry.words (e : MemEntry) (incoming : List Nat) : List Nat :=
  ((incoming.take e.nin).map (· % 2 ^ e.wlen)) ++ List.replicate (e.nin - incoming.length) 0

/-! ### Entries of the logbook (R456) -/

/-- Big-endian address bytes: three on a select of at most 2^24 bytes, else four. -/
def addrBytes (d : SelDecl) (a : Nat) : List Nat := (leBytes (if d.sizeLog2 ≤ 24 then 3 else 4) a).reverse

/-- The entries that program bytes at a byte address (R456); the poll limit is not stated: a free value. -/
def State.programEntries (s : State) (job : MemJob) (a : Nat) (data : List Nat) : List MemEntry :=
  match s.selOf a with
  | none => [{ job := job, sel := 4, adr := a }]
  | some (k, l, d) =>
      let nor := d.kind == 1
      let cmd := if nor && 24 < d.sizeLog2 then 0x12 else 0x02
      let e : MemEntry := { job := job, sel := k, adr := a }
      let poll : MemEntry := { e with out := [0x05], nin := 1, poll := some (1, 0, s.freeVal % 4000 + 1) }
      [{ e with out := [0x06] }, { e with out := cmd :: addrBytes d l ++ data }] ++ (if nor then [poll] else [])

/-- The entries that erase a sector of NOR flash (R456). -/
def State.eraseEntries (s : State) (job : MemJob) (a : Nat) : List MemEntry :=
  match s.selOf a with
  | none => [{ job := job, sel := 4, adr := a }]
  | some (k, l, d) =>
      if d.kind != 1 then []
      else
        let e : MemEntry := { job := job, sel := k, adr := a }
        [{ e with out := [0x06] }, { e with out := (if d.sizeLog2 ≤ 24 then 0x20 else 0x21) :: addrBytes d l },
         { e with out := [0x05], nin := 1, poll := some (1, 0, s.freeVal % 4000 + 1) }]

/-- The entry that reads `n` bytes from a byte address (R456): 0x0B or 0x0C with a dummy byte on NOR flash, 0x03 on FRAM. -/
def State.readEntry (s : State) (job : MemJob) (a n : Nat) : MemEntry :=
  match s.selOf a with
  | none => { job := job, sel := 4, adr := a }
  | some (k, l, d) =>
      { job := job, sel := k, adr := a, nin := n
        out := if d.kind == 1 then (if d.sizeLog2 ≤ 24 then 0x0B else 0x0C) :: addrBytes d l ++ [0] else 0x03 :: addrBytes d l }

/-! ### Reads of the loader (R103, R104, R121) -/

/-- The byte address of slot A (0), B (1) or Factory (2), on select 0 (R103). -/
def slotBase (k : Nat) : Nat := 0x040000 * k

/-- A read of the loader (R104): command 0x0B, a 3-byte address, a dummy byte and `n` bytes on select 0. -/
def loaderRead (job : MemJob) (k n : Nat) : MemEntry :=
  { job := job, sel := 0, out := 0x0B :: (leBytes 3 (slotBase k)).reverse ++ [0], nin := n, adr := slotBase k }

/-- A LENGTH that R106 allows. -/
def lengthOk (len : Nat) : Bool := 256 ≤ len && len ≤ 262144 && len % 4 == 0

/-- The loader begins a new set of reads. -/
def State.startReads (s : State) (l : List MemEntry) : State :=
  (s.modLoad fun x => { x with got := [], lost := false }).enqueue l

/-- The headers and directories of slots A and B are read. -/
def State.readHeaders (s : State) : State := s.startReads [loaderRead .loader 0 168, loaderRead .loader 1 168]

/-- Slot `k` is read: all of A or B, whose LENGTH is known; the header and directory of Factory first. -/
def State.readSlot (s : State) (k : Nat) : State :=
  s.startReads [loaderRead .loader k (if k = 2 then 168 else s.load.lens.getD k 168)]

/-- A read of the loader is in. The whole image follows a header that was read alone, when its LENGTH allows. -/
def State.takeRead (s : State) (job : MemJob) (k : Nat) (b : List Nat) : State :=
  let s1 := s.modLoad fun x => { x with got := x.got ++ [b] }
  if (job == .reload || k == 2) && s.load.got.isEmpty && lengthOk (leAt b 8 4) then s1.enqueue [loaderRead job k (leAt b 8 4)]
  else s1

/-- The image that the loader's reads brought in, once none is under way. -/
def State.image (s : State) (job : MemJob) : Option (List Nat) :=
  if s.load.lost || s.inMem (· == job) then none else s.load.got.getLast?

/-- Reads that failed with VIO are made again when VIO is back (DESIGN CHOICE, log entry 121). -/
def State.loaderResume (s : State) : State :=
  if s.dev.mode != .loading || !s.load.lost then s
  else if s.mfState = mfHeaders then s.readHeaders
  else if s.mfState = mfSlot then (match s.load.cands with | k :: _ => s.readSlot k | [] => s)
  else s

end Sys2Proof.Machine
end

