-- ==== Sys2Proof/Machine/Thermal.lean ====
section
/-! DEFINITION. The thermal model (chapter 11): nodes, sensors and rounds, broken sensors, levels, throttling, thermal
stops, the junction comparators. Temperatures are codes of R13 (R334; log entry 6). -/

namespace Sys2Proof.Machine

/-- A temperature as the word that shows it (R13). -/
def codeOf (t : Int) : Word := wd (clampI t (-131072) 131071)

/-- Node `j`. -/
def State.node (s : State) (j : Nat) : Node := s.therm.nodes.getD j {}
/-- Set an event bit of TH_EVT. -/
def State.thEvt (s : State) (b : Nat) : State := s.setb TH_EVT b

/-- A temperature that lies in the format of R13; the spec states none for a sum outside it: a free one (log entry 6). -/
def State.inFormat (s : State) (i : Nat) (x : Int) : Int :=
  if -131072 ≤ x ∧ x ≤ 131071 then x else sgn (BitVec.ofNat 18 (s.useFree i).freeVal)

/-! ### Nodes, units and sensors -/

/-- Ladder parameters RTH1 to RTH3 and CTH1 to CTH3 of node `j` (R333, R358). -/
def State.ladder (s : State) (j k : Nat) : Nat :=
  if j < 72 then (s.rd (0x8A0 + 0x10 * k + j / 6)).toNat
  else if j < 78 then (s.rd (0x8A0 + 0x10 * k + 12 + (j - 72) / 2)).toNat
  else Config.dieLadder j k + 1

/-- Sensor `k` can be converted: not excluded (R344), and an NTC is enabled (R339). -/
def State.sensorOk (s : State) (k : Nat) : Bool :=
  !s.flag TH_BROKEN k && (k < 6 || s.flag TH_CTL (k - 5))

/-- The enabled NTCs of a quay. -/
def State.ntcs (s : State) (q : Quay) : List Nat :=
  (match q with | .north => [6, 7] | .south => [8, 9]).filter fun k => s.flag TH_CTL (k - 5)

/-- A quay uses TH_REFDEF: it has no enabled NTC that is valid (R340, R344). -/
def State.refDef (s : State) (q : Quay) : Bool := (s.ntcs q).all fun k => s.flag TH_BROKEN k

/-- Board reference of a quay (R340). -/
def State.boardRef (s : State) (q : Quay) : Int :=
  let held := match q with | .north => s.therm.refN | .south => s.therm.refS
  if s.refDef q then sgn (s.rd TH_REFDEF) else held.getD (sgn (s.rd TH_REFDEF))

/-- Twice the reference temperature of node `j` (R333): a mean of two references may lie between two codes. -/
def State.nodeRef2 (s : State) (j : Nat) : Int :=
  if j < 36 then 2 * s.boardRef .north else if j < 72 then 2 * s.boardRef .south
  else s.boardRef .north + s.boardRef .south

/-- The nodes that a die sensor corrects (R339). -/
def sensorNodes (k : Nat) : List Nat :=
  if k < 4 then [78 + k] else if k = 4 then [82] else if k = 5 then [83, 84] else []

/-- Governing nodes of a unit: berths 0 to 11, tenders 12 to 14 (R350). -/
def unitNodes (u : Nat) : List Nat :=
  if u < 6 then [6 * u, 6 * u + 1, 6 * u + 2, 6 * u + 3, 6 * u + 4, 6 * u + 5, 78, 80, 81, 83]
  else if u < 12 then [6 * u, 6 * u + 1, 6 * u + 2, 6 * u + 3, 6 * u + 4, 6 * u + 5, 79, 80, 81, 84]
  else [2 * u + 48, 2 * u + 49, 80, 81, 82]

/-- Governing sensors of a unit that can be converted (R350), as a mask. -/
def State.unitSensors (s : State) (u : Nat) : BitVec 10 :=
  let die := (List.range 6).filter fun k => (sensorNodes k).any fun j => (unitNodes u).contains j
  let ntc := if u < 6 then s.ntcs .north else if u < 12 then s.ntcs .south else s.ntcs .north ++ s.ntcs .south
  ((die ++ ntc).filter fun k => s.sensorOk k).foldl (fun m k => m ||| (1#10 <<< k)) 0

/-- The berths whose unit node `j` governs (R394). -/
def State.nodeBerths (s : State) (j : Nat) : BitVec 12 :=
  maskOf (berthList.filter fun n => !s.outOfUse n && (unitNodes n.val).contains j)
/-- The berth of a unit, empty for a tender (R394). -/
def State.unitBerth (s : State) (u : Nat) : BitVec 12 := if h : u < 12 then s.berthMask ⟨u, h⟩ else 0

/-! ### Rounds (R337, R338) -/

/-- Neighbours of sensor `k` (TH_NBRk). -/
def State.nbrs (s : State) (k : Nat) : BitVec 10 := BitVec.ofNat 10 (s.get (TH_NBR0 + k) 9 0)

/-- The sensors of a mask that can be converted. -/
def State.convertible (s : State) (m : BitVec 10) : BitVec 10 :=
  (List.range 10).foldl (fun (r : BitVec 10) k => if m.getLsbD k && s.sensorOk k then r ||| (1#10 <<< k) else r) 0

/-- The next round starts: the requested and the readmitted sensors that can be converted, and their neighbours that can be
(R337, R344). -/
def State.startRound (s : State) : State :=
  let req := s.convertible (s.therm.req ||| s.therm.join)
  let all := (List.range 10).foldl (fun m k => if req.getLsbD k then m ||| s.nbrs k else m) req
  let run := s.convertible all
  s.modTherm fun t => { t with
    req := 0, join := 0, run := run, rounds := t.rounds + 1, runRef := (s.boardRef .north, s.boardRef .south) }

/-- A request for a round (R337): sensors of the running round are met by it. -/
def State.requestRound (s : State) (m : BitVec 10) : State :=
  let s1 := s.modTherm fun t => { t with req := t.req ||| (m &&& ~~~t.run) }
  if s1.therm.run = 0 && s1.therm.req != 0 then s1.startRound else s1

/-- TH_CONV is written (R338). -/
def State.thConv (s : State) (v : Word) : State :=
  if s.therm.started then s.requestRound (BitVec.ofNat 10 (bits v 9 0)) else s

/-- TH_READMIT is written: the sensors join the next round, and request none (R338, R344). -/
def State.thReadmit (s : State) (v : Word) : State :=
  let m := bits v 9 0
  let back := s.get TH_BROKEN 9 0 &&& m
  let s1 := s.put TH_BROKEN 9 0 (s.get TH_BROKEN 9 0 - back)
  s1.modTherm fun t => { t with join := t.join ||| BitVec.ofNat 10 back }

/-- The temperature code of an NTC reading (R339): none when the conversion fails. Where the formula divides by zero, or gives a
value outside the format of R13, the spec states no result: a free one. -/
def State.ntcCode (s : State) (k v van : Nat) : Option Int :=
  if 98 * van < 100 * v ∨ 100 * v < 2 * van then none
  else
    let r25 := (s.rd (TH_NTCR0 + (k - 6))).toNat
    let b : Int := (s.rd (TH_NTCB0 + (k - 6))).toNat
    let l := lnFix ((99500 + Config.ntcBias % 1001) * v) ((van - v) * (r25 * 100))
    let den : Int := 100 * b * 2 ^ 60 + 29815 * l
    let sg : Int := if den < 0 then -1 else 1
    some (s.inFormat 0 (if den = 0 then 131072
      else s.roundFree (sg * (640 * 29815 * b * 2 ^ 60 - 174816 * den)) (10 * den.natAbs)))

/-- The result of converting sensor `k` (R339); none when it failed. -/
def State.readSensor (s : State) (k : Nat) : Reading → Option Int
  | .die t => some (clampI t (-131072) 131071)
  | .ntc v van => s.ntcCode k v van

/-- Twice the correction of a sensor before its use (R340): TS5 works against a mean of two nodes, an NTC against the board
reference held before its round. -/
def State.correction2 (s : State) (k : Nat) (code ref : Int) : Int :=
  if k < 5 then 2 * (code - ((sensorNodes k).map fun j => (s.node j).t1).sum)
  else if k = 5 then 2 * code - ((s.node 83).t1 + (s.node 84).t1)
  else 2 * (code - ref)

/-- An excluded or disabled sensor has no uncertainty (R341). -/
def State.dropUnc (s : State) (k : Nat) : State :=
  (s.modTherm fun t => { t with unc := t.unc.set k 0 }).wr (TH_SUNC0 + k) 0

/-- Sensor `k` is excluded (R343, R344), with the event bit and source; a quay left without a valid NTC falls back to
TH_REFDEF (R344). -/
def State.excludeSensor (s : State) (k bit src : Nat) : State :=
  let q : Quay := if k < 8 then .north else .south
  let s1 := ((s.setb TH_BROKEN k).thEvt bit).raiseAll src TH_EVT
  let s2 := if 6 ≤ k && !s.refDef q && s1.refDef q then s1.raiseQuay 0x38 TH_EVT q else s1
  (s2.modTherm fun t => { t with used := t.used.filter fun p => p.k != k }).dropUnc k

/-- The check of R343 on sensor `k`, over doubled corrections: (broken, neighbours disagree). 12 K is 768 codes. -/
def State.brokenCheck (s : State) (es : List (Nat × Int)) (k : Nat) (e : Int) : Bool × Bool :=
  let ns := (es.filter fun p => (s.nbrs k).getLsbD p.1 && p.1 != k).map fun p => p.2
  match ns with
  | a :: b :: r =>
      let l := a :: b :: r
      let hi := l.foldl max a
      let lo := l.foldl min a
      let m : Int := l.length
      if 1536 < hi - lo then (false, true) else (decide (1536 * m < (e * m - l.sum).natAbs), false)
  | _ => (false, false)

/-- The enabled NTCs of a quay are all excluded (R344). -/
def State.refLost (s : State) (q : Quay) : Bool := !(s.ntcs q).isEmpty && s.refDef q

/-- TH_CTL is written: an NTC that is no longer enabled has no uncertainty (R341), and a quay whose enabled NTCs are now all excluded
raises 0x38 (R344). -/
def State.noteThCtl (s old : State) : State :=
  let s1 := s.forAll ((List.range 10).filter fun k => 6 ≤ k && !s.flag TH_CTL (k - 5)) fun s k => s.dropUnc k
  s1.forAll [Quay.north, Quay.south] fun s q =>
    if s.therm.started && !old.refLost q && s.refLost q then s.raiseQuay 0x38 TH_EVT q else s

/-- ROUND_COMPLETE: breakage is checked before any result is used, and the others wait for the next update (R337, R339,
R343, R344). An NTC whose NTCEN went to 0 during the round is not converted (R339). -/
def execRoundComplete (rs : List (Fin 10 × Reading)) (s : State) : Res :=
  .next (if s.therm.run = 0 then s
    else
      let here := rs.filter fun p => s.therm.run.getLsbD p.1.val && s.sensorOk p.1.val &&
        (match p.2 with | .die _ => p.1.val < 6 | .ntc _ _ => 6 ≤ p.1.val)
      let ref (k : Nat) : Int := if k < 8 then s.therm.runRef.1 else s.therm.runRef.2
      let res := here.map fun p => (p.1.val, s.readSensor p.1.val p.2)
      let ok := res.filterMap fun p => p.2.map fun c => (p.1, c)
      let es := ok.map fun p => (p.1, s.correction2 p.1 p.2 (ref p.1))
      let bad := es.filter fun p => (s.brokenCheck es p.1 p.2).1
      let dis := es.any fun p => (s.brokenCheck es p.1 p.2).2
      let s1 := s.forAll (res.filter fun p => p.2.isNone) fun s p => s.excludeSensor p.1 1 0x36
      let s2 := s1.forAll bad fun s p => s.excludeSensor p.1 0 0x35
      let s3 := if dis then s2.thEvt 2 else s2
      let use := ok.filter fun p => !(bad.any fun q => q.1 == p.1)
      let s4 := (s3.modTherm fun t => { t with
        used := t.used ++ use.map fun p => ⟨p.1, p.2, ref p.1, t.rounds⟩
        done := t.done ||| t.run
        run := 0 }).useFree 1
      if s4.therm.req = 0 then s4 else s4.startRound)

/-! ### The update (R334, R340 to R342, R346) -/

/-- The ladder equations of R334 for one node: numerators and denominators of the three changes in codes. -/
def State.nodeStep (s : State) (j : Nat) (p : Nat) : (Int × Nat) × (Int × Nat) × (Int × Nat) :=
  let x := s.node j
  let r1 := s.ladder j 0
  let r2 := s.ladder j 1
  let r3 := s.ladder j 2
  let d12 := x.t1 - x.t2
  let d23 := x.t2 - x.t3
  let d3 := 2 * x.t3 - s.nodeRef2 j
  (((p : Int) * 64 * r1 - d12 * 100000000, 1000000 * s.ladder j 3 * r1),
   (100 * (d12 * r2 - d23 * r1), r1 * r2 * s.ladder j 4),
   (50 * (2 * d23 * r3 - d3 * r2), r2 * r3 * s.ladder j 5))

/-- Mean power of node `j` over the past millisecond in µW (R336). -/
def State.nodePower (s : State) (j : Nat) : Nat :=
  if j < 78 then let a := s.therm.acc.getD j (0, 0); if a.2 = 0 then 0 else a.1 / a.2
  else 1000 * Config.diePower (j - 78) s.free

/-- Node `j` after one update. -/
def State.advanceNode (s : State) (j : Nat) : Node :=
  let x := s.node j
  let p := s.nodePower j
  let d := s.nodeStep j p
  let f (i : Nat) (a : Int × Nat) : Int := (s.useFree (3 * j + i)).roundFree a.1 a.2
  let g (i : Nat) (t : Int) : Int := s.inFormat (3 * j + i) t
  { x with t1 := g 0 (x.t1 + f 0 d.1), t2 := g 1 (x.t2 + f 1 d.2.1), t3 := g 2 (x.t3 + f 2 d.2.2), p := p
           hist := (x.t1 :: x.hist).take 100 }

/-- Every node advances one millisecond. -/
def State.advanceNodes (s : State) : State :=
  (s.modTherm fun t => { t with nodes := (List.range 85).map fun j => s.advanceNode j }).useFree 255

/-- Move every stage of a node, within the format of R13. -/
def State.shift (s : State) (x : Node) (d : Int) : Node :=
  { x with t1 := s.inFormat 0 (x.t1 + d), t2 := s.inFormat 1 (x.t2 + d), t3 := s.inFormat 2 (x.t3 + d) }

/-- Change one node. -/
def State.modNode (s : State) (j : Nat) (f : Node → Node) : State :=
  s.modTherm fun t => { t with nodes := t.nodes.modify j f }

/-- A used result with the doubled correction `e` is recorded: TH_SENSk, its uncertainty (R341), divergence (R342). -/
def State.noteResult (s : State) (k : Nat) (code e : Int) : State :=
  let s1 := (s.wr (TH_SENS0 + k) (wd code)).modTherm fun t =>
    { t with unc := t.unc.set k (512000 + 2000 * e.natAbs) }
  if 2 * (s.rd TH_DIVLIM).toNat < e.natAbs then (s1.thEvt 3).raiseAll 0x37 TH_EVT else s1

/-- The used results of a quay's NTCs in the latest round that converted any of them give its board reference (R340). -/
def State.setBoardRef (s : State) (q : Quay) (used : List UsedRes) : State :=
  let l := used.filter fun p => match q with | .north => p.k == 6 || p.k == 7 | .south => p.k == 8 || p.k == 9
  let last := l.foldl (fun m p => max m p.round) 0
  let cs := (l.filter fun p => p.round == last).map (·.code)
  if cs.isEmpty then s
  else
    let m := s.roundFree cs.sum cs.length
    (s.modTherm fun t => match q with | .north => { t with refN := some m } | .south => { t with refS := some m }).useFree 1

/-- The results that wait and whose sensors can still be converted (R339, R340). -/
def State.results (s : State) : List UsedRes := s.therm.used.filter fun p => s.sensorOk p.k

/-- The results that wait are used, oldest first (R340 to R342). -/
def State.useResults (s : State) : State :=
  let g : Int := (s.rd TH_CORRG).toNat
  let used := s.results
  let s1 := s.forAll used fun s' p =>
    let e := s'.correction2 p.k p.code p.ref
    ((s'.forAll (sensorNodes p.k) fun s j => s.modNode j fun x => s'.shift x (rdiv (g * e) 131072)).useFree 3).noteResult p.k p.code e
  (s1.setBoardRef .north used).setBoardRef .south used

/-- All stages of a node take one value. -/
def Node.fill (x : Node) (v : Int) : Node := { x with t1 := v, t2 := v, t3 := v, hist := List.replicate 100 v }

/-- The first results start the model (R346). -/
def State.startModel (s : State) : State :=
  let used := s.results
  let s1 := (s.setBoardRef .north used).setBoardRef .south used
  let mean : Int := if used.isEmpty then sgn (s.rd TH_REFDEF) else s1.roundFree (used.map (·.code)).sum used.length
  let s2 := s1.forAll (List.range 6) fun s k =>
    let v := ((used.find? fun p => p.k == k).map (·.code)).getD mean
    s.forAll (sensorNodes k) fun s j => s.modNode j fun x => x.fill v
  let s3 := (s2.forAll (List.range 78) fun s j => s.modNode j fun x => x.fill ((s2.useFree 1).roundFree (s2.nodeRef2 j) 2)).useFree 2
  let s4 := s3.forAll used fun s p => s.wr (TH_SENS0 + p.k) (wd p.code)
  let s5 := s4.modTherm fun t => { t with
    unc := (List.range 10).map fun k => if s.sensorOk k then 2048000 else 0, first := false }
  match s.flag TH_CTL 0, s.therm.saved with
  | true, some c =>
      (s5.modTherm fun t => { t with nodes := t.nodes.mapIdx fun j x =>
        let v := c.getD j (-131072, -131072, -131072)
        let y := { x with t1 := max x.t1 v.1, t2 := max x.t2 v.2.1, t3 := max x.t3 v.2.2 }
        { y with hist := List.replicate 100 y.t1 } }).setb TH_STAT 8
  | _, _ => s5

/-- Uncertainties grow (R341), before the results of this update are used. -/
def State.growUnc (s : State) (old : List Node) : State :=
  let grown (k u : Nat) : Nat :=
    let d := (sensorNodes k).foldl (fun m j => max m (((s.node j).t1 - (old.getD j {}).t1).natAbs)) 0
    if s.sensorOk k then u + (s.rd TH_UGROW).toNat * 16 + d * 1000 else 0
  s.modTherm fun t => { t with unc := t.unc.mapIdx grown }

/-! ### Levels (R347 to R349) -/

/-- Base address of a node's threshold set, and its RATE register. -/
def levelBase (j : Nat) : Nat × Nat :=
  if j < 72 then (0x850, 0x85C) else if j < 78 then (0x854, 0x85D) else (0x858, 0x85E)

/-- WARN, THR and STOP (i = 0 to 2) and HARD (i = 3) of node `j` (R347). -/
def State.level (s : State) (j i : Nat) : Int :=
  if i = 3 ∧ 78 ≤ j then 10880 else sgn (s.prd ((levelBase j).1 + i))
/-- TH_HYST. -/
def State.thHyst (s : State) : Int := (s.prd TH_HYST).toNat
/-- t1 less t1 of 100 updates ago (R334); the rate is ten times this per second. -/
def Node.rise (x : Node) : Int := x.t1 - x.hist.getD 99 x.t1
/-- The rate is above its RATE (R349). -/
def State.rateHigh (s : State) (j : Nat) : Bool :=
  decide (((s.prd (levelBase j).2).toNat : Int) * 64 < (s.node j).rise * 100)
/-- The node is in throttle (R349). -/
def State.inThrottle (s : State) (j : Nat) : Bool := decide (s.level j 1 ≤ (s.node j).t1) || (s.node j).byRate

/-- Node `j` enters and leaves warn, throttle by rate and stop; `was` says whether it was in throttle (R349). -/
def State.nodeLevels (s : State) (j : Nat) (was : Bool) : State :=
  let x := s.node j
  let warn := decide (s.level j 0 ≤ x.t1) || (x.warn && decide (s.level j 0 - s.thHyst ≤ x.t1))
  let byRate := warn && s.rateHigh j
  let s1 := s.modNode j fun x => { x with warn := warn, byRate := byRate, stop := decide (s.level j 2 ≤ x.t1) }
  let s2 := if warn && !x.warn then s1.raise { src := 0x31, affected := s.nodeBerths j, adr := TH_EVT } else s1
  if byRate && !was then (s2.thEvt 4).raise { src := 0x34, affected := s.nodeBerths j, adr := TH_EVT } else s2

/-! ### Throttling and restoring (R351 to R353) -/

/-- Change one unit. -/
def State.modUnit (s : State) (u : Nat) (f : UnitTh → UnitTh) : State :=
  s.modTherm fun t => { t with units := t.units.modify u f }

/-- One update of unit `u`. -/
def State.unitUpdate (s : State) (u : Nat) : State :=
  let x := s.therm.units.getD u {}
  let thr := (unitNodes u).any fun j => s.inThrottle j
  let calm := (unitNodes u).all fun j => decide ((s.node j).t1 < s.level j 1 - s.thHyst) && !s.rateHigh j
  let since := x.since.map (· + 1)
  let need := x.need &&& ~~~s.therm.done &&& s.unitSensors u
  let rest : Option Nat := if calm then some ((x.rest.map (· + 1)).getD 0) else none
  let lower := rest.any fun r => (s.prd TH_RESINT).toNat ≤ r
  if x.asked && need = 0 && thr && x.step < 15 then
    ((s.modUnit u fun x => { x with step := x.step + 1, since := some 0, rest := none, asked := false, need := 0 }).thEvt 5).raise
      { src := 0x32, affected := s.unitBerth u, adr := TH_EVT }
  else if !x.asked && thr && x.step < 15 && since.all (fun m => (s.prd TH_THRINT).toNat ≤ m) then
    (s.modUnit u fun x => { x with since := since, rest := rest, asked := true, need := s.unitSensors u }).requestRound (s.unitSensors u)
  else
    s.modUnit u fun x => { x with
      since := since, rest := if lower then some 0 else rest, need := need, asked := x.asked && need != 0
      step := if lower then x.step - 1 else x.step }

/-! ### Thermal stops (R354 to R356, R386) -/

/-- The form of a thermal stop: orderly when every governing node in stop that rises reaches HARD no sooner than
TH_STOPWIN (R354). -/
def State.orderlyForm (s : State) (u : Nat) : Bool :=
  (unitNodes u).all fun j =>
    let x := s.node j
    !(x.stop && decide (0 < x.rise)) ||
      decide (((s.prd TH_STOPWIN).toNat : Int) * (x.rise * 10) ≤ (s.level j 3 - x.t1) * 1000)

/-- The mark and the source of a thermal stop of a unit (R354). -/
def State.markStop (s : State) (u : Nat) : State :=
  ((s.setb TH_STOPM u).thEvt 6).raise { src := 0x33, affected := s.unitBerth u, adr := TH_EVT }

/-- A berth's thermal stop (R354): orderly under TH_STOPWIN, or coast. -/
def State.thermalStopBerth (s : State) (n : Berth) (orderly : Bool) : State :=
  let st := s.bst n
  let s1 := s.markStop n.val
  if orderly then
    let s2 := s1.stopRequest n
    if st = stRunning ∨ (st = stSeaTrial ∧ !(s.berth n).start.trialStop) then
      s2.modStart n fun q => { q with stopWin := some (s.prd TH_STOPWIN).toNat }
    else s2
  else if st = stStarting ∨ st = stRunning ∨ st = stHolding ∨ st = stStopping ∨ st = stRecatch then s1.stopNow n stStopped
  else if st = stSeaTrial then
    (((s1.bclr n BP_FORCE 6).disableEn n).bput n BO_PHASE 3 0 0).modStart n fun q => { q with closed := false, trialStop := false }
  else s1

/-- A unit whose governing node has just entered stop receives its thermal stop (R354, R356). -/
def State.thermalStop (s : State) (u : Nat) : State :=
  let orderly := s.orderlyForm u
  if h : u < 12 then if s.outOfUse ⟨u, h⟩ then s else s.thermalStopBerth ⟨u, h⟩ orderly
  else if h : u - 12 < 3 then
    let t : Tender := ⟨u - 12, h⟩
    if !s.tdHere t then s
    else if t = 0 && s.decl.vgdSrc = 0 then
      let s1 := s.forAll berthList fun s n => if s.outOfUse n then s else s.thermalStopBerth n orderly
      let s2 := s1.markStop u
      if orderly && !s2.allIdle then s2.modTherm fun x => { x with waitStop := true } else s2.thermalStopTender t orderly
    else (s.markStop u).thermalStopTender t orderly
  else s

/-- TH_STOPM of a unit clears when every governing node is below STOP - HYST (R355); a tender that waits for it starts
again (R386). -/
def State.clearStop (s : State) (u : Nat) : State :=
  if !s.flag TH_STOPM u || !((unitNodes u).all fun j => decide ((s.node j).t1 < s.level j 2 - s.thHyst)) then s
  else
    let s1 := s.clrb TH_STOPM u
    if h : 12 ≤ u ∧ u - 12 < 3 then
      let t : Tender := ⟨u - 12, h.2⟩
      if (s.tender t).thWait && s.tdState t == tdOff && s.tflag t TD_CTL 0 then
        (s1.modTender t fun x => { x with thWait := false }).setTd t tdStartDelay
      else s1
    else s1

/-- THERMAL_STOP_WINDOW_END (R356). -/
def execThermalStopWindowEnd (t : Tender) (s : State) : Res :=
  .next (if t = 0 && s.therm.waitStop then (s.modTherm fun x => { x with waitStop := false }).thermalStopTender 0 true else s)

/-- The registers that show the units: TH_STEP0 to TH_STEP3 and TH_WARNM. -/
def State.showUnits (s : State) : State :=
  let s1 := s.forAll (List.range 15) fun s u =>
    s.put (TH_STEP0 + u / 4) (4 * (u % 4) + 3) (4 * (u % 4)) (s.thStep u)
  s1.forAll (List.range 15) fun s u => s.putb TH_WARNM u ((unitNodes u).any fun j => (s.node j).warn)

/-- Region pairs by their bit in GLB_SKEW, with their nodes (R27, R28). -/
def skewPairs : List (Nat × Nat × Nat) := [(5, 78, 80), (6, 79, 80), (7, 78, 81), (8, 79, 81), (9, 80, 81)]

/-- A region pair's comparison changes (R28). -/
def State.skewSet (s : State) (b : Nat) (exceeds : Bool) : State :=
  let s1 := s.putb GLB_SKEWNOW b exceeds
  if exceeds && !s.flag GLB_SKEWNOW b then (s1.setb GLB_SKEW b).raiseAll 0x11 GLB_SKEW else s1

/-- REGION_SKEW (R28): a pair exceeds its limit, or no longer does. -/
def execRegionSkew (pair : Fin 10) (exceeds : Bool) (s : State) : Res :=
  .next (if s.awake then s.skewSet pair.val exceeds else s)

/-- MODEL_UPDATE (R334, R340 to R342, R346, R349 to R356). LE_OCC is engine measurement (log entry 11). -/
def execModelUpdate (s : State) : Res :=
  .next (if !s.awake || !s.therm.started then s
    else
      let old := s.therm.nodes
      let was := (List.range 85).map fun j => s.inThrottle j
      let s1 := if s.therm.first && (s.therm.done != 0) then s.startModel else s.advanceNodes.growUnc old |>.useResults
      let s2 := s1.forAll (List.range 85) fun s j => s.nodeLevels j (was.getD j false)
      let s3 := s2.forAll (List.range 15) fun s u => s.clearStop u
      let enters := (List.range 85).filter fun j => (s3.node j).stop && !(old.getD j {}).stop
      let s4 := s3.forAll ((List.range 15).filter fun u => (unitNodes u).any enters.contains) fun s u => s.thermalStop u
      let s5 := s4.forAll (List.range 15) fun s u => s.unitUpdate u
      let s6 := s5.forAll (List.range 10) fun s k =>
        if s.sensorOk k && decide ((s.rd TH_ULIM).toNat * 16000 < s.therm.unc.getD k 0) then
          s.requestRound (1#10 <<< k) else s
      let s7 := s6.forAll skewPairs fun s p =>
        s.skewSet p.1 (decide (2560 < ((s.node p.2.1).t1 - (s.node p.2.2).t1).natAbs))
      let s8 := s7.forAll (List.range 10) fun s k =>
        s.wr (TH_SUNC0 + k) (if s.sensorOk k then wd (min (s.therm.unc.getD k 0 / 16000) 262143) else 0)
      ((s8.showUnits.waitingStop.modTherm fun t => { t with
        acc := List.replicate 78 (0, 0), used := [], done := 0 }).put LE_OCC 9 0 s8.freeVal).useFree 1)

/-- The model starts at commit (R334, R346): a round of every sensor that is not disabled; until it ends, nodes and
references stand at TH_REFDEF (log entry 12). -/
def State.thermCommit (s : State) (saved : Option ThermalCopy) : State :=
  let v := sgn (s.rd TH_REFDEF)
  let s1 := s.modTherm fun t => { t with
    started := true, first := true, saved := saved, nodes := List.replicate 85 (Node.fill {} v)
    unc := List.replicate 10 2048000 }
  s1.requestRound (BitVec.ofNat 10 0x3FF)

/-! ### Junction comparators (R357) -/

/-- JUNCTION_COMPARATOR: source 0x30 with a forced hardware safe state of the device. -/
def execJunctionComparator (site : Fin 6) (s : State) : Res :=
  .next (if !s.awake || s.therm.comps.getLsbD site.val then s
    else ((s.modTherm fun t => { t with comps := t.comps ||| (1#6 <<< site.val) }).thEvt 7).raiseForced 0x30 TH_EVT 6)

/-- JUNCTION_COMPARATOR_RELEASE. -/
def execJunctionComparatorRelease (site : Fin 6) (s : State) : Res :=
  .next (s.modTherm fun t => { t with comps := t.comps &&& ~~~(1#6 <<< site.val) })

end Sys2Proof.Machine
end

