-- ==== Sys2Proof/Machine/Flags.lean ====
section
/-! DEFINITION. The registers whose value follows other state at the instant of the read: pin levels, the tide time, the
collector's words, present flags of berths, the thermal windows, queue levels, the digest; and the levels of FAULTN and
HINTN (R67, R410, R411). -/

namespace Sys2Proof.Machine

/-! ### Protection set and digest (R523, R525) -/

/-- The registers of the protection set, rising (R523). -/
def protRegs : List Nat :=
  (List.range 7).map (0x120 + ·) ++ [0x400] ++ (List.range 256).map (0x500 + ·) ++ (List.range 3).map (0x84C + ·) ++
  (List.range 15).map (0x850 + ·) ++ (List.range 3).map (0xC00 + ·) ++ (List.range 3).map (0xC40 + ·) ++
  (List.range 12).flatMap fun n =>
    [0x400C + 0x400 * n, 0x4094 + 0x400 * n, 0x4095 + 0x400 * n, 0x4228 + 0x400 * n]

/-- The digest of a protection set (R525); its registers hold RWL fields only. -/
def digestOf (prot : List (Nat × Word)) : Nat :=
  crc32 (protRegs.flatMap fun a => leBytes 2 a ++ leBytes 4 (look prot a).toNat)

/-- The staged records of CS_PADRk and CS_PVALk (R527). -/
def State.staged (s : State) : List (Nat × Word) :=
  (List.range (s.get CS_PCNT 4 0)).map fun k => (s.get (CS_PADR0 + k) 15 0, s.rd (CS_PVAL0 + k))

/-- The set that results from records applied to the set in force. -/
def applyRecords (prot : List (Nat × Word)) (l : List (Nat × Word)) : List (Nat × Word) :=
  l.foldl (fun m p => store m p.1 p.2) prot

/-- What CS_DIGEST shows (R526, R527): 0 before commit. -/
def State.digest (s : State) : Nat :=
  if !s.committed then 0
  else if s.get CS_STAT 1 0 = 0 then digestOf s.prot
  else digestOf (applyRecords s.prot s.staged)

/-! ### Collector -/

/-- Pending source `k`. -/
def State.pending? (s : State) (k : Nat) : Bool := s.coll.pend.any fun p => p.src == k
/-- An uncleared fault (R410). -/
def State.uncleared (s : State) : Bool := s.coll.pend.any fun p => decide (s.pget FC_CTL 3 1 ≤ p.sev)
/-- A device safe-state reaction is in force, whether or not a berth is in use (R399). -/
def State.devSafe (s : State) : Bool := s.coll.pend.any fun p => p.react == 6 || p.forced == 6

/-- Word `w` of a bit list over sources, 18 to a word. -/
def srcWord (l : List Nat) (w : Nat) : Word :=
  l.foldl (fun m k => if k / 18 = w then m ||| (1#18 <<< (k % 18)) else m) 0

/-- A berth has a reaction of one of these codes in force (FC_BSAFE, FC_BSTOP, FC_BDER). -/
def State.bodyOf (s : State) (c : Nat → Bool) : BitVec 12 :=
  maskOf (berthList.filter fun n => s.coll.pend.any fun p => c (s.pendOn p n))

/-- A word of the first-error record, by its place from FC_FIRSTTS0 (R406, R409). -/
def FirstErr.word (f : FirstErr) (i : Nat) : Word :=
  let e := f.ev
  if i < 3 then BitVec.ofNat 18 (e.ts / 2 ^ (18 * i))
  else if i = 3 then BitVec.ofNat 18 (e.acc * 32768 + e.master * 2048 + f.sev * 256 + e.src)
  else if i = 4 then BitVec.ofNat 18 (e.adr % 65536)
  else if i = 5 then BitVec.ofNat 18 (e.kind * 65536 + e.adr / 65536 % 65536)
  else if i = 6 then BitVec.ofNat 18 f.count
  else srcWord f.merged (i - 7)

/-! ### Host port responses (R435, R443, R448) -/

/-- The response words of a completed entry (R443, R451). -/
def HEntry.words (e : HEntry) (compat : Bool) : List Nat :=
  let n := e.reads.length
  let h := e.kind * 2 ^ 14 + e.stream * 1024 + e.status * 128 + n
  if compat then h :: e.reads.map (·.toNat % 65536)
  else (e.tag * 2 ^ 16 + h) :: e.reads.map (·.toNat)

/-- The ready words not yet delivered, oldest first: responses become ready in issue order (R435). -/
def readyGo (compat : Bool) : List HEntry → List Nat
  | [] => []
  | e :: r => if e.phase = .done then (e.words compat).drop e.sent ++ readyGo compat r else []

/-- READY before its saturation. -/
def State.hostReady (s : State) : Nat := (readyGo s.compat s.host.queue).length
/-- FREE (R428). -/
def State.hostFree (s : State) : Nat := 64 - s.host.queue.length

/-- The host-port response condition (R448). -/
def State.hostCondition (s : State) : Bool :=
  decide (s.get HP_CTL 6 0 ≤ s.hostReady) ||
  (s.flag HP_CTL 7 && decide (0 < s.hostReady) && s.host.queue.all fun e => e.phase == .done)

/-! ### Pins -/

/-- FC_STAT.FNDRV: the collector's own drive of FAULTN (R410). -/
def State.fnDrv (s : State) : Bool := s.inService && s.uncleared
/-- The collector drives HINTN low (R411): in loading and service, and while VIO is in its range (R62, R66). -/
def State.hintDrv (s : State) : Bool :=
  s.awake && s.dev.vioOk && (
  (s.coll.pend.any fun p => s.flag FC_INTEN p.sev) ||
  (s.rd TIDE_WTSTAT0 &&& s.rd FC_WTIE0) != 0 || (s.rd TIDE_WTSTAT1 &&& s.rd 0x406) != 0 ||
  (s.flag FC_INTEN 8 && s.hostCondition))
/-- The level to which the device leaves FAULTN: low in reset and loading, and while a fault is uncleared; in sleep as
latched; high-impedance when unpowered (R62, R67, R68, R98). Between 1.5 V and 3.0 V on VSUP R67 allows either; the model
holds FAULTN low in every reset state (DESIGN CHOICE, log entry 115). -/
def State.faultn (s : State) : Bool :=
  match s.dev.mode with
  | .unpowered => true
  | .service => !s.fnDrv
  | .sleep => !s.dev.sleepLatch
  | _ => false

/-! ### Live words -/

/-- BP_TRIP with its present causes (R164, R170). -/
def State.liveTrip (s : State) (n : Berth) (w : Word) : Word :=
  putBits (putBits (putBits w 3 3 (b2n (s.tripLow n.quay))) 4 4 (b2n (s.brakeTrip n.quay))) 5 5 (b2n (s.safeLine n))

/-- BP_STAT with its pending marks and HALTED. -/
def State.liveBpStat (s : State) (n : Berth) (w : Word) : Word :=
  let pend := (s.berth n).pwm.pend
  putBits (putBits (putBits w 3 3 (b2n (pend.getLsbD 0))) 2 2 (b2n ((List.range 6).any fun i => pend.getLsbD (i + 1))))
    0 0 (b2n s.halted)

/-- BG_HELD (R193, R200). BSOFF shows an undervoltage turn-off alone, not a first turn-on that R195 withholds (DEDUCED, log
entry 119). -/
def State.liveHeld (s : State) (n : Berth) : Word :=
  phases.foldl (fun w p =>
    let l := s.leg n p
    putBits (putBits (putBits w p.idx p.idx (b2n l.bsHi)) (3 + 2 * p.idx) (3 + 2 * p.idx) (b2n l.scHi))
      (4 + 2 * p.idx) (4 + 2 * p.idx) (b2n l.scLo)) 0

/-- A berth register as it reads now. -/
def State.liveBerth (s : State) (n : Berth) (off : Nat) (w : Word) : Word :=
  if off = BP_TRIP then s.liveTrip n w
  else if off = BP_STAT then s.liveBpStat n w
  else if off = BG_HELD then s.liveHeld n
  else if off = BO_STAT then putBits w 5 5 (b2n (s.shortsLow n))
  else if off = BO_PHASE then
    putBits w 5 4 (((s.berth n).start.times.filter fun t => decide (since s.tide.now t ≤ oneSecond)).length)
  else if off = BE_PEND then
    (List.range 8).foldl (fun w k => putBits w k k (b2n (s.pending? (0x80 + 8 * n.val + k)))) 0
  else if off = BE_REACT then BitVec.ofNat 18 (s.reactOn n)
  else w

/-- A collector register as it reads now. -/
def State.liveColl (s : State) (a : Nat) (w : Word) : Word :=
  let c := s.coll
  if a = FC_STAT then
    BitVec.ofNat 18 (16 * b2n (!c.broken.isEmpty || c.brokenL != 0) + 8 * b2n s.devSafe + 4 * b2n s.hintDrv + 2 * b2n s.fnDrv +
      b2n c.first.isSome)
  else if 0x410 ≤ a ∧ a ≤ 0x425 then match c.first with | some f => f.word (a - 0x410) | none => 0
  else if 0x440 ≤ a ∧ a ≤ 0x44E then srcWord (c.pend.map (·.src)) (a - 0x440)
  else if 0x460 ≤ a ∧ a ≤ 0x46E then srcWord c.broken (a - 0x460)
  else if a = FC_BROKENL then c.brokenL.setWidth 18
  else if a = 0x480 ∨ a = 0x481 then BitVec.ofNat 18 (c.evcnt / 2 ^ (18 * (a - 0x480)))
  else if a = 0x490 then (s.bodyOf fun k => 4 ≤ k).setWidth 18
  else if a = 0x491 then (s.bodyOf fun k => k == 3).setWidth 18
  else if a = 0x492 then (s.bodyOf fun k => k == 2).setWidth 18
  else w

/-- The node with the highest t1 (TH_HOTN). -/
def State.hotNode (s : State) : Nat :=
  (List.range 85).foldl (fun m j => if (s.node m).t1 < (s.node j).t1 then j else m) 0

/-- A thermal register as it reads now. -/
def State.liveTherm (s : State) (a : Nat) (w : Word) : Word :=
  let x := s.node (s.get TH_SEL 6 0)
  if a = TH_STAT then
    putBits (putBits (putBits (putBits w 11 11 (b2n (s.therm.run != 0))) 10 10 (b2n (s.therm.started && s.refDef .south)))
      9 9 (b2n (s.therm.started && s.refDef .north))) 7 7 (b2n (s.therm.comps != 0))
  else if !s.therm.started then w
  else if a = 0x861 then codeOf x.t1
  else if a = 0x862 then codeOf x.t2
  else if a = 0x863 then codeOf x.t3
  else if a = 0x864 then BitVec.ofNat 18 (min (x.p / 1000) 0x3FFFF)
  else if a = 0x865 then codeOf (x.rise * 10)
  else if a = 0x866 then codeOf (s.node s.hotNode).t1
  else if a = 0x867 then BitVec.ofNat 18 s.hotNode
  else w

/-- DD_ODOCK: lanes in state 3, docked tenders, memory port, ports A and B. -/
def State.odock (s : State) : Nat :=
  ((List.range 5).filter fun l => s.get LE_LANE (3 * l + 2) (3 * l) == 3).foldl (fun m l => m + 2 ^ l) 0 +
  (tenderList.filter fun t => s.tdState t == tdDocked).foldl (fun m t => m + 2 ^ (5 + t.val)) 0 +
  256 * b2n s.mem.docked + 512 * b2n s.moor.dockA + 1024 * b2n s.moor.dockB

/-- Berths UNMOORING, DRYDOCK or SEA TRIAL. -/
def State.bdock (s : State) : BitVec 12 :=
  maskOf (berthList.filter fun n => s.bst n == stUnmooring || s.bst n == stDrydock || s.bst n == stSeaTrial)

/-- Bits set in ML_TAKEN (R498). -/
def State.ringSize (s : State) : Nat :=
  (List.range 512).foldl (fun m k => m + s.get (ML_TAKEN0 + k / 18) (k % 18) (k % 18)) 0

/-- The value that a register reads as now; `w` is its stored word. -/
def State.liveWord (s : State) (a : Nat) (w : Word) : Word :=
  match blockOf a with
  | .berth n => s.liveBerth n ((a - 0x4000) % 0x400) w
  | .tender _ => w
  | .unmapped => 0
  | .page =>
      if a = GLB_PINLVL then
        BitVec.ofNat 18 (256 * b2n (!s.dev.bypassOpen) + 128 * b2n (s.faultn && s.dev.pins.faultn) +
          64 * b2n (!s.hintDrv && s.dev.pins.hintn) + 32 * b2n s.dev.pins.wake +
          16 * b2n s.dev.pins.testen + 8 * b2n s.dev.pins.compat + 4 * b2n s.dev.pins.tripnS + 2 * b2n s.dev.pins.tripnN +
          b2n s.dev.vioOk)
      else if a = PWR_STAT then putBits w 6 6 (b2n s.dev.vioOk)
      else if 0x200 ≤ a ∧ a ≤ 0x202 then BitVec.ofNat 18 (s.tide.now / 2 ^ (18 * (a - 0x200)))
      else if 0x400 ≤ a ∧ a < 0x500 then s.liveColl a w
      else if 0x800 ≤ a ∧ a < 0x900 then s.liveTherm a w
      else if a = HP_STAT then
        BitVec.ofNat 18 (s.host.lastSeq * 65536 + 32768 * b2n s.host.blk + 16384 * b2n (s.host.fenced != 0) +
          s.hostFree * 128 + min s.hostReady 127)
      else if a = HP_QMAX then putBits w 6 0 (max (bits w 6 0) s.host.queue.length)
      else if a = HP_FENCED then s.host.fenced.setWidth 18
      else if a = HP_HELD then s.host.held.setWidth 18
      else if a = MP_STAT then
        BitVec.ofNat 18 (128 * b2n (s.mem.queue.any (·.wire)) + s.mem.queue.length)
      else if a = MP_HSTAT then putBits w 3 3 (b2n (s.inMem (· == .host)))
      else if a = LOG_STAT then putBits (putBits w 10 10 (b2n s.mem.log.trace.frozen)) 9 3 s.mem.log.buf.length
      else if a = 0xB06 ∨ a = 0xB07 then BitVec.ofNat 18 (Config.uid / 2 ^ (18 * (a - 0xB06)))
      else if a = ML_RINGSZ then BitVec.ofNat 18 s.ringSize
      else if a = 0xC06 then BitVec.ofNat 18 s.digest
      else if a = 0xC07 then BitVec.ofNat 18 (s.digest / 2 ^ 18)
      else if a = DD_BDOCK then s.bdock.setWidth 18
      else if a = DD_ODOCK then BitVec.ofNat 18 s.odock
      else if a = MF_KEYSTAT then putBits w 0 0 (b2n s.key.isSome)
      else w

/-- Fields that read as 0: those a card gives as WO, and reserved bits (R5, R6). -/
def maskWo (a : Nat) (w : Word) : Word :=
  match cardAt a with
  | none => 0
  | some c => c.fields.foldl (fun w f => if f.acc = .wo then putBits w f.hi f.lo 0 else w) w

/-- The word that a read of address `a` returns now, side effects apart. -/
def State.liveReg (s : State) (a : Nat) : Word := maskWo a (s.liveWord a (s.word a))

/-! ### Multi-word values (R42) -/

/-- Values of the device pages wider than 18 bits: lowest address and number of words. -/
def pageValues : List (Nat × Nat) :=
  [(0x200, 3), (0x410, 22), (0x480, 2), (0x861, 5), (0x866, 2), (0x906, 2), (0xA21, 2), (0xA24, 2), (0xA26, 2),
   (0xA32, 2), (0xA34, 2), (0xB06, 2), (0xB0F, 2), (0xB20, 5), (0xB28, 2), (0xB2A, 2), (0xB2C, 2)] ++
  [(0xC06, 2), (0xC08, 2), (0xD07, 2), (0xD09, 2)]
/-- Those of a berth block, by offset. -/
def berthValues : List (Nat × Nat) :=
  [(0x110, 9), (0x1A0, 10), (0x240, 5), (0x21A, 2), (0x248, 2), (0x24A, 2), (0x302, 2), (0x304, 2), (0x306, 2), (0x308, 2), (0x30A, 2)]

/-- The multi-word value that an address belongs to. -/
def valueOf (a : Nat) : Option (Nat × Nat) :=
  match blockOf a with
  | .page => pageValues.find? fun p => p.1 ≤ a && a < p.1 + p.2
  | .berth n =>
      (berthValues.find? fun p => ba n p.1 ≤ a && a < ba n p.1 + p.2).map fun p => (ba n p.1, p.2)
  | _ => none

/-- A list with the entry of one key replaced. -/
def putKey {α : Type} (l : List (Nat × α)) (k : Nat) (v : Option α) : List (Nat × α) :=
  let r := l.filter fun p => p.1 != k
  match v with | some x => (k, x) :: r | none => r

/-- A read of an RC field clears it (R8). -/
def State.clearRc (s : State) (a : Nat) : State :=
  match cardAt a with
  | none => s
  | some c =>
      if c.fields.any (fun f => f.acc == .rc) then
        s.wr a (c.fields.foldl (fun w f => if f.acc = .rc then putBits w f.hi f.lo 0 else w) (s.rd a))
      else s

/-- A read of one register by a master (R8, R35, R42, R43). -/
def State.readReg (s : State) (m : Nat) (a : Nat) : Word × State :=
  let w := s.liveReg a
  match valueOf a with
  | none => (w, s.clearRc a)
  | some (b, k) =>
      if a = b then
        let snap : Snap := { base := b, upper := (List.range (k - 1)).map fun i => s.liveReg (b + 1 + i) }
        (w, { s with access := { s.access with snaps := putKey s.access.snaps m (some snap) } })
      else match (s.access.snaps.find? fun p => p.1 == m).map (·.2) with
        | some sn => if sn.base = b then (sn.upper.getD (a - b - 1) 0, s) else (w, s.setb GLB_SNAPSTAT m)
        | none => (w, s.setb GLB_SNAPSTAT m)

end Sys2Proof.Machine
end

