-- ==== Sys2Proof/Machine/Tide.lean ====
section
/-! DEFINITION. The reference and the delay line (R130, R136, R137, R139 to R142) and the watch timers (R143 to R146). -/

namespace Sys2Proof.Machine

/-! ### State of the loader that follows the reference -/

/-- Set MF_STAT.STATE. -/
def State.putMfState (s : State) (v : Nat) : State := s.put MF_STAT 3 0 v
/-- The tide runs from the internal oscillator (TIDE_REFSTAT.INTACT). -/
def State.onInternal (s : State) : Bool := s.flag TIDE_REFSTAT 3
/-- The committed manifest names a reference on XIN (REFSEL 0 or 1). -/
def State.refExternal (s : State) : Bool := s.committed && decide (s.decl.refSel < 2)
/-- The declared reference is running (R131). -/
def State.refRunning (s : State) : Bool := s.committed && (!s.refExternal || !s.onInternal)

/-- What STATE reads outside the loader's own work and before the first gate release (R119, R120, R130). -/
def State.waitState (s : State) : Nat :=
  if !s.committed then mfNone else if s.refRunning then mfWaitVgd else mfWaitRef
/-- STATE follows the reference between commit and the first gate release; KEYPROG covers it (R120). -/
def State.showWait (s : State) : State :=
  if s.mfState = mfWaitRef ∨ s.mfState = mfWaitVgd then s.putMfState s.waitState else s

/-- The tide's first calibration cycle has not begun: the search of R130 runs. -/
def State.searching (s : State) : Bool :=
  s.dev.mode == .loading && s.mfState == mfRefSearch && !s.flag TIDE_CALSTAT 0 && !s.flag TIDE_CALSTAT 11 && !s.flag MF_STAT 10

/-- The tide moves to the reference on XIN. -/
def State.toReference (s : State) : State := (s.clrb TIDE_REFSTAT 3).modTide fun t => { t with lost := false }

/-- REFERENCE_FOUND (R130, R133): taken up during the search, or after commit by a device that waits for it. At any other
time PRESENT alone shows it. -/
def execReferenceFound (s : State) : Res :=
  .next (
    let s1 := s.setb TIDE_REFSTAT 2
    if !s.awake then s
    else if s.searching then s1.toReference.setb TIDE_CALSTAT 0
    else if s.refExternal && s.onInternal && !s.tide.lost then s1.toReference.showWait
    else s1)

/-- REF_SEARCH_TIMEOUT (R130, R133). -/
def execRefSearchTimeout (s : State) : Res :=
  .next (if s.searching then (s.setb MF_STAT 10).setb TIDE_CALSTAT 0 else s)

/-- REF_STOP_BEFORE_COMMIT (R130). -/
def execRefStopBeforeCommit (s : State) : Res :=
  .next (
    if s.dev.mode != .loading || s.committed then s
    else if s.onInternal then s.clrb TIDE_REFSTAT 2
    else ((s.clrb TIDE_REFSTAT 2).setb TIDE_REFSTAT 3).setb MF_STAT 10)

/-- REFERENCE_LOST (R136). -/
def execReferenceLost (s : State) : Res :=
  .next (
    if !s.awake || !s.committed then s
    else
      let s1 := s.clrb TIDE_REFSTAT 2
      if !s.refExternal || s.onInternal then s1
      else ((((s1.setb TIDE_REFSTAT 3).setb TIDE_REFSTAT 4).modTide fun t => { t with lost := true }).raiseAll 0x12
        TIDE_REFSTAT).showWait)

/-- REFERENCE_RETURN (R137). -/
def execReferenceReturn (s : State) : Res :=
  .next (
    if !s.awake || !s.refExternal || !s.onInternal then s
    else (s.setb TIDE_REFSTAT 2).toReference.showWait)

/-! ### Calibration (R140 to R142) -/

/-- The end of a step; after 17 of them the cycle ends. -/
def State.calNext (s : State) : State :=
  if s.tide.calStep + 1 < 17 then s.modTide fun t => { t with calStep := t.calStep + 1 }
  else
    let s1 := ((s.put TIDE_CALDRIFT 7 0 (min s.tide.calMax 255)).wr TIDE_CALCNT (s.rd TIDE_CALCNT + 1)).setb TIDE_CALSTAT 11
    let s2 := if s.tide.retired.isEmpty then s1 else s1.clrb TIDE_CALSTAT 0
    let s3 := s2.modTide fun t => { t with calStep := 0, calMax := 0 }
    if s.mfState = mfRefSearch then (s3.putMfState mfHeaders).readHeaders else s3

/-- The group that the present step trims: the one that is out, or after a retirement the next in the line (R140, R142). -/
def State.calGroup (s : State) : Nat := (16 + s.tide.calStep) % 17

/-- CALIBRATION_STEP: `corr` is the correction in 1/64 tick; `trimmed` says that the group came within 1/8 tick. -/
def execCalibrationStep (corr : Nat) (trimmed : Bool) (s : State) : Res :=
  .next (
    if !s.awake || !s.flag TIDE_CALSTAT 0 then s
    else if trimmed then
      let s1 := if 16 < corr then s.setb TIDE_CALSTAT 12 else s
      let s2 := s1.modTide fun t => { t with calMax := max t.calMax corr }
      let s3 := if s.tide.retired.isEmpty then s2.put TIDE_CALSTAT 5 1 ((s.calGroup + 1) % 17) else s2
      s3.calNext
    else
      let s1 := (s.modTide fun t => { t with retired := t.retired ++ [s.calGroup] }).setb TIDE_CALSTAT 13
      if s.tide.retired.isEmpty then
        let s2 := ((s1.setb TIDE_CALSTAT 14).put TIDE_CALSTAT 5 1 s.calGroup).raiseAll 0x13 TIDE_CALSTAT
        if s.flag TIDE_CALSTAT 11 then s2.clrb TIDE_CALSTAT 0 else s2.calNext
      else (s1.clrb TIDE_CALSTAT 0).raiseAll 0x13 TIDE_CALSTAT)

/-! ### Watch timers (R143 to R146) -/

abbrev wtFree : Nat := 0
abbrev wtBlank : Nat := 1
abbrev wtOneshot : Nat := 2
abbrev wtPeriodic : Nat := 3

/-- Mode of timer `k`. -/
def State.wtMode (s : State) (k : Nat) : Nat := s.get (TIDE_WTCFG0 + 2 * k) 2 0
/-- Length of timer `k`. -/
def State.wtLen (s : State) (k : Nat) : Nat := (s.rd (TIDE_WTCFG0 + 2 * k + 1)).toNat
/-- Change the run of timer `k`. -/
def State.modWt (s : State) (k : Nat) (f : WtSt → WtSt) : State :=
  s.modTide fun t => { t with wt := t.wt.modify k f }

/-- A length lies in the range of a mode (R143). -/
def wtLenOk (mode len : Nat) : Bool :=
  if mode = wtFree then true else if mode = wtBlank then decide (len ≤ 20480) else decide (1 ≤ len)

/-- A write of TIDE_WTCMD fails (R145, R146). -/
def State.wtCommandFails (s : State) (v : Word) : Bool :=
  let k := bits v 4 0
  let start := v.getLsbD 6
  let stop := v.getLsbD 5
  (start && stop) || ((start || stop) && (s.wtMode k == wtFree || s.wtMode k == wtBlank)) ||
    (start && !wtLenOk (s.wtMode k) (s.wtLen k))

/-- START from zero, or STOP without an expiry (R145). -/
def State.wtCommand (s : State) (v : Word) : State :=
  let k := bits v 4 0
  if v.getLsbD 6 then s.modWt k fun _ => { running := true, len := s.wtLen k }
  else if v.getLsbD 5 then s.modWt k fun w => { w with running := false }
  else s

/-- WT_EXPIRY (R145, R146). -/
def execWtExpiry (k : Fin 24) (s : State) : Res :=
  .next (
    if !(s.tide.wt.getD k.val {}).running then s
    else
      let s1 := s.setb (TIDE_WTSTAT0 + k.val / 18) (k.val % 18)
      if s.wtMode k.val = wtPeriodic then s1.modWt k.val fun _ => { running := true, len := s.wtLen k.val }
      else s1.modWt k.val fun w => { w with running := false })

/-- A write that changes the mode of a running timer stops it (R146). -/
def State.wtReconfigured (s : State) (k mode : Nat) : State :=
  if s.wtMode k = mode then s else s.modWt k fun w => { w with running := false }

end Sys2Proof.Machine
end

