-- ==== Sys2Proof/Machine/Manifest.lean ====
section
/-! DEFINITION. The manifest image (R105 to R117), its checks (R122, R126) and the values that a slot which passes gives.
A failing item is a pair of its byte offset and its code. -/

namespace Sys2Proof.Machine

/-! ### Failing items -/

/-- One failing item when a condition holds. -/
def failIf (c : Bool) (off code : Nat) : List (Nat × Nat) := if c then [(off, code)] else []

/-- A `k`-byte field at `o` lies outside its range (code 7). -/
def rangeFail (b : List Nat) (o k lo hi : Nat) : List (Nat × Nat) :=
  failIf (leAt b o k < lo || hi < leAt b o k) o 7

/-- The failing item that a code reports: the lowest offset, then the lowest code (R122). -/
def lowestFail : List (Nat × Nat) → Option (Nat × Nat)
  | [] => none
  | x :: r => match lowestFail r with
    | some y => if y.1 < x.1 || (y.1 = x.1 && y.2 < x.2) then some y else some x
    | none => some x

/-! ### Header and directory (R106 to R108) -/

/-- Header fields that break R106. -/
def headerFails (b : List Nat) : List (Nat × Nat) :=
  let len := leAt b 8 4
  failIf (leAt b 0 4 != 0x464D5A53) 0 2 ++ failIf (leAt b 4 1 != 1) 4 3 ++ failIf (leAt b 6 2 != 168) 6 3 ++
  failIf (len < 256 || 262144 < len || len % 4 != 0) 8 3 ++
  failIf (leAt b 0xC 4 = 0 || leAt b 0xC 4 = 0xFFFFFFFF) 0xC 3 ++
  failIf (leAt b 0x10 1 != 0 && leAt b 0x10 1 != 0xA5) 0x10 3

/-- The image is sealed. -/
def sealedImage (b : List Nat) : Bool := leAt b 0x10 1 == 0xA5

/-- Walk the directory from entry `i`; `stop` is the end of the last present section. -/
def dirGo (b : List Nat) : Nat → Nat → Nat → List (Option (Nat × Nat)) × List (Nat × Nat) × Nat
  | 0, _, stop => ([], [], stop)
  | k + 1, i, stop =>
      let at_ := 0x20 + 8 * i
      let off := leAt b at_ 4
      let len := leAt b (at_ + 4) 4
      if len = 0 then
        let r := dirGo b k (i + 1) stop
        (none :: r.1, failIf (off != 0 || i = 0 || i = 16) at_ 4 ++ r.2.1, r.2.2)
      else if off < stop || off % 4 != 0 || len % 4 != 0 || leAt b 8 4 - 8 < off + len then
        let r := dirGo b k (i + 1) stop
        (none :: r.1, (at_, 4) :: r.2.1, r.2.2)
      else
        let r := dirGo b k (i + 1) (off + len)
        (some (off, len) :: r.1, r.2.1, r.2.2)

/-- The 17 sections, the failing entries, and the end of the last section. -/
def directory (b : List Nat) : List (Option (Nat × Nat)) × List (Nat × Nat) × Nat := dirGo b 17 0 0xA8

/-! ### Records (R109, R110) -/

/-- A record: its byte offset, register address, 4-byte value and section index. -/
structure MRec where
  off : Nat
  adr : Nat
  val : Nat
  sec : Nat
deriving DecidableEq, Repr

/-- The records of the area from `p` to `stop`, or its failing item (code 5), and nonzero padding: R122 names no code for it, and
the model gives 7 (DESIGN CHOICE, log entry 124). -/
def recordArea (b : List Nat) (p stop sec : Nat) : List MRec × List (Nat × Nat) :=
  let n := leAt b p 4
  let size := 4 + 6 * n
  if stop < p + 4 ∨ p + (size + 3) / 4 * 4 ≠ stop then ([], [(p, 5)])
  else
    ((List.range n).map fun k =>
      { off := p + 4 + 6 * k, adr := leAt b (p + 4 + 6 * k) 2, val := leAt b (p + 6 + 6 * k) 4, sec := sec },
     failIf (((b.drop (p + size)).take (stop - (p + size))).any (· != 0)) (p + size) 7)

/-- The section may load the register (R110, R113, R187, R383, R393): an address of the section with a field that a record
loads; RWL fields through the protection section alone. -/
def loadable (vgdSrc : Nat) (present : Nat → Bool) (sec a : Nat) : Bool :=
  match cardAt a with
  | none => false
  | some c =>
      let ld := c.fields.any fun f => f.ld
      if isProt a then sec = 16 && !(0x500 ≤ a && a < 0x600 && reservedSource (a - 0x500))
      else ld &&
        (if sec = 0 then
          a ≤ 0x2FF || (0x800 ≤ a && a ≤ 0x9FF) || (0xA00 ≤ a && a ≤ 0xAFF) || (0xE00 ≤ a && a ≤ 0xEFF)
        else match blockOf a with
          | .berth n => sec = 1 + n.val && !(isH n && isAdaptiveOff ((a - 0x4000) % 0x400))
          | .tender t => sec = 13 && present t.val && !(a = ta 0 TD_VREF && vgdSrc = 0)
          | .page => sec = 15 && 0xB00 ≤ a && a ≤ 0xBFF
          | .unmapped => false)

/-- A field's value lies in the range that its card states. -/
def fieldOk (f : Field) (w : Word) : Bool :=
  let u := bits w f.hi f.lo
  let x : Int := if f.sgn && 2 ^ (f.hi - f.lo) ≤ u then (u : Int) - 2 ^ (f.hi + 1 - f.lo) else u
  (f.zero && x = 0) || (f.min ≤ x && x ≤ f.max)

/-- Class-dependent ranges: ADAPT of an H-class berth and CICEN of an L-class berth take only 0 (R187, R278). -/
def classOk (a : Nat) (w : Word) : Bool :=
  match blockOf a with
  | .berth n =>
      !(a = ba n BG_CTL && isH n && w.getLsbD 0) && !(a = ba n BO_CTL && !isH n && w.getLsbD 4)
  | _ => true

/-- Bits that no field of the register covers are 0, and so are bits above 17 (R105). -/
def reservedZero (c : Card) (v : Nat) : Bool :=
  v < 2 ^ 18 && v == c.fields.foldl (fun m f => m + bits (BitVec.ofNat 18 v) f.hi f.lo * 2 ^ f.lo) 0

/-- Failing items of one record; `seen` are the addresses of earlier records (R110, R122). -/
def recordFails (vgdSrc : Nat) (present : Nat → Bool) (seen : List Nat) (r : MRec) : List (Nat × Nat) :=
  if seen.contains r.adr || !loadable vgdSrc present r.sec r.adr then [(r.off, 6)]
  else match cardAt r.adr with
  | none => [(r.off, 6)]
  | some c =>
      let w : Word := BitVec.ofNat 18 r.val
      failIf (c.fields.any fun f => !f.ld && bits w f.hi f.lo != 0) (r.off + 2) 6 ++
      failIf (!reservedZero c r.val || !(c.fields.all fun f => !f.ld || fieldOk f w) || !classOk r.adr w) (r.off + 2) 7

/-- Failing items of a list of records. -/
def recordsFail (vgdSrc : Nat) (present : Nat → Bool) : List Nat → List MRec → List (Nat × Nat)
  | _, [] => []
  | seen, r :: l => recordFails vgdSrc present seen r ++ recordsFail vgdSrc present (r.adr :: seen) l

/-- The register value that a record leaves: its loaded fields on the reset values of the others (R110). -/
def recordWord (a : Nat) (v : Nat) : Word :=
  match cardAt a with
  | none => 0
  | some c => c.fields.foldl (fun w f => if f.ld then putBits w f.hi f.lo (bits (BitVec.ofNat 18 v) f.hi f.lo) else w) (resetWord a)

/-! ### Sections (R111 to R116) -/

/-- Offset and length of section `i`. -/
def findSec (secs : List (Option (Nat × Nat))) (i : Nat) : Option (Nat × Nat) := (secs.getD i none)

/-- The global declaration block (R111). -/
def selAt (b : List Nat) (q : Nat) : SelDecl × List (Nat × Nat) :=
  let kind := leAt b q 1
  let z := leAt b (q + 1) 1
  (⟨kind, z⟩, failIf (3 < kind) q 7 ++ failIf (kind != 0 && kind ≤ 3 && (z < 10 || 32 < z)) (q + 1) 7 ++
    failIf (leAt b (q + 2) 2 != 0) (q + 2) 7)

/-- Bytes of a select (R111). -/
def selSize (d : SelDecl) : Nat := if d.kind = 0 then 0 else 2 ^ d.sizeLog2

/-- Declaration and failing items of the global section at `o`. -/
def globalDecl (b : List Nat) (o : Nat) : Decl × List (Nat × Nat) :=
  let sels := (List.range 4).map fun k => selAt b (o + 0xC + 4 * k)
  ({ vgdNom := leAt b o 2, vgdSrc := leAt b (o + 2) 1, refSel := leAt b (o + 3) 1, budget := leAt b (o + 4) 2
     vgdWait := leAt b (o + 6) 2, compat6 := leAt b (o + 8) 1 == 1, compatReq := leAt b (o + 9) 1, sels := sels.map (·.1) },
   rangeFail b o 2 10000 13500 ++ rangeFail b (o + 2) 1 0 1 ++ rangeFail b (o + 3) 1 0 2 ++ rangeFail b (o + 4) 2 1 2200 ++
   rangeFail b (o + 6) 2 1 500 ++ rangeFail b (o + 8) 1 0 1 ++ rangeFail b (o + 9) 1 0 2 ++ rangeFail b (o + 0xA) 2 0 0 ++
   sels.flatMap (·.2))

/-- Declaration and failing items of a berth section at `o` (R112). CLASS that breaks R2 has code 8 (R126). -/
def berthDecl (b : List Nat) (o : Nat) (n : Berth) : BerthDecl × List (Nat × Nat) :=
  let cls := leAt b o 1
  (⟨leAt b (o + 2) 2, leAt b (o + 4) 4, leAt b (o + 8) 2⟩,
   failIf (1 < cls) o 7 ++ failIf (cls ≤ 1 && cls != b2n (isH n)) o 8 ++ rangeFail b (o + 1) 1 0 0 ++ rangeFail b (o + 2) 2 1 10000 ++
   rangeFail b (o + 4) 4 2500 100000 ++ failIf (cls = 0 && leAt b (o + 8) 2 != 0) (o + 8) 7 ++
   failIf (leAt b (o + 0xA) 6 != 0) (o + 0xA) 7)

/-- Declaration and failing items of a tender entry at `q` (R113). -/
def tenderDecl (b : List Nat) (q : Nat) : Option TenderDecl × List (Nat × Nat) :=
  if leAt b q 1 = 0 then (none, failIf (leAt b (q + 1) 11 != 0) (q + 1) 7)
  else if leAt b q 1 ≠ 1 then (none, [(q, 7)])
  else
    (some ⟨leAt b (q + 2) 2, leAt b (q + 4) 4⟩,
     rangeFail b (q + 1) 1 0 0 ++ rangeFail b (q + 2) 2 1 10000 ++ rangeFail b (q + 4) 4 300000 2200000 ++ rangeFail b (q + 8) 4 0 0)

/-- A curve entry (R114): its berth, NPOINT and points. -/
structure CurveEntry where
  off : Nat
  berth : Nat
  npoint : Nat
  points : List (Nat × Nat)
deriving DecidableEq, Repr

/-- The curve entries and failing items of the curves section at `o` (R114). -/
def curveDecl (b : List Nat) (o len : Nat) : List CurveEntry × List (Nat × Nat) :=
  let nc := leAt b o 4
  if nc = 0 ∨ 12 < nc then ([], [(o, 7)])
  else if len ≠ 4 + 132 * nc then ([], [(o, 5)])
  else
    let es := (List.range nc).map fun k =>
      let q := o + 4 + 132 * k
      ({ off := q, berth := leAt b q 1, npoint := leAt b (q + 1) 1
         points := (List.range 16).map fun j => (leAt b (q + 4 + 8 * j) 4, leAt b (q + 8 + 8 * j) 4) } : CurveEntry)
    (es, es.flatMap fun e =>
      failIf (11 < e.berth) e.off 7 ++ failIf (16 < e.npoint) (e.off + 1) 7 ++ failIf (leAt b (e.off + 2) 2 != 0) (e.off + 2) 7 ++
      failIf (es.any fun d => d.off < e.off && d.berth = e.berth) e.off 8 ++
      e.points.zipIdx.flatMap fun p =>
        failIf (2 ^ 18 ≤ p.1.1 || (e.npoint ≤ p.2 && p.1.1 != 0)) (e.off + 4 + 8 * p.2) 7 ++
        failIf (2 ^ 18 ≤ p.1.2 || (e.npoint ≤ p.2 && p.1.2 != 0)) (e.off + 8 + 8 * p.2) 7)

/-! ### The parsed image -/

/-- What a well-placed image holds. -/
structure Image where
  gen : Nat := 0
  build : Nat := 0
  decl : Decl := {}
  recs : List MRec := []
  curves : List CurveEntry := []
  fails : List (Nat × Nat) := []
  /-- Offsets of the sections that checks refer to. -/
  secs : List (Option (Nat × Nat)) := []
deriving DecidableEq, Repr

/-- Add records and failing items. -/
def Image.add (m : Image) (r : List MRec × List (Nat × Nat)) : Image :=
  { m with recs := m.recs ++ r.1, fails := m.fails ++ r.2 }

/-- A section too short for its declaration block. -/
def Image.short (m : Image) (o : Nat) : Image := { m with fails := m.fails ++ [(o, 5)] }

/-- Section 0. -/
def Image.readGlobal (m : Image) (b : List Nat) : Image :=
  match findSec m.secs 0 with
  | none => m
  | some (o, len) =>
      if len < 32 then m.short o
      else
        let g := globalDecl b o
        ({ m with decl := g.1, fails := m.fails ++ g.2 }).add (recordArea b (o + 28) (o + len) 0)

/-- Section of berth `n`. -/
def Image.readBerth (b : List Nat) (m : Image) (n : Berth) : Image :=
  match findSec m.secs (1 + n.val) with
  | none => { m with decl := { m.decl with berths := m.decl.berths ++ [none] } }
  | some (o, len) =>
      if len < 20 then { m.short o with decl := { m.decl with berths := m.decl.berths ++ [none] } }
      else
        let d := berthDecl b o n
        ({ m with decl := { m.decl with berths := m.decl.berths ++ [some d.1] }, fails := m.fails ++ d.2 }).add
          (recordArea b (o + 16) (o + len) (1 + n.val))

/-- Section 13. -/
def Image.readTenders (m : Image) (b : List Nat) : Image :=
  match findSec m.secs 13 with
  | none => { m with decl := { m.decl with tenders := [none, none, none] } }
  | some (o, len) =>
      if len < 40 then { m.short o with decl := { m.decl with tenders := [none, none, none] } }
      else
        let ds : List (Option TenderDecl × List (Nat × Nat)) := (List.range 3).map fun t => tenderDecl b (o + 12 * t)
        ({ m with decl := { m.decl with tenders := ds.map Prod.fst }, fails := m.fails ++ ds.flatMap Prod.snd }).add
          (recordArea b (o + 36) (o + len) 13)

/-- Section 14. -/
def Image.readCurves (m : Image) (b : List Nat) : Image :=
  match findSec m.secs 14 with
  | none => m
  | some (o, len) =>
      let c := curveDecl b o len
      { m with curves := c.1, fails := m.fails ++ c.2 }

/-- Section 15. R115 gives ALIGN no range beside its meaning at 1; a value above 1 counts as out of range (DESIGN CHOICE, log entry
124). -/
def Image.readMooring (m : Image) (b : List Nat) : Image :=
  match findSec m.secs 15 with
  | none => m
  | some (o, len) =>
      if len < 12 then m.short o
      else
        let node := leAt b o 2
        ({ m with
          decl := { m.decl with mooring := some (node, leAt b (o + 2) 1 == 1) }
          fails := m.fails ++ failIf (512 ≤ node && node != 0xFFFF) o 7 ++ rangeFail b (o + 2) 1 0 1 ++ rangeFail b (o + 3) 5 0 0 }).add
          (recordArea b (o + 8) (o + len) 15)

/-- The protection set that a list of records defines, CS_SEAL.SEALED from the section's byte (R116, R526). -/
def protOf (recs : List MRec) (sealed : Bool) : List (Nat × Word) :=
  store ((recs.filter fun r => r.sec == 16).foldl (fun m r => store m r.adr (recordWord r.adr r.val)) []) CS_SEAL
    (BitVec.ofNat 18 (b2n sealed))

/-- Section 16. -/
def Image.readProtection (m : Image) (b : List Nat) : Image :=
  match findSec m.secs 16 with
  | none => m
  | some (o, len) =>
      if len < 16 then m.short o
      else
        let a : List MRec × List (Nat × Nat) := recordArea b (o + 8) (o + len - 4) 16
        let sealed := leAt b o 1 == 0xA5
        ({ m with
          decl := { m.decl with sealed := sealed, pilot := leAt b (o + 4) 4 }
          fails := m.fails ++ failIf (leAt b o 1 != leAt b 0x10 1) o 13 ++ rangeFail b (o + 1) 3 0 0 ++
            (a.1.filter fun (r : MRec) => r.adr == CS_SEAL && r.val % 2 != b2n sealed).map (fun (r : MRec) => (r.off + 2, 13)) ++
            failIf (digestOf (protOf a.1 sealed) != leAt b (o + len - 4) 4) (o + len - 4) 12 }).add a

/-- The image with every section read, before the checks over records and across fields. A nonzero byte after the last section
breaks R117, for which R122 names no code: 7 (DESIGN CHOICE, log entry 124). -/
def readImage (b : List Nat) : Image :=
  let d := directory b
  let len := leAt b 8 4
  let tail := (b.drop d.2.2).take (len - 8 - d.2.2)
  let m : Image :=
    { gen := leAt b 0xC 4, build := leAt b 0x14 4, secs := d.1
      fails := failIf (leAt b 0x11 3 != 0) 0x11 7 ++ failIf (leAt b 0x18 8 != 0) 0x18 7 ++ d.2.1 ++
        failIf (tail.any (· != 0)) (d.2.2 + (tail.takeWhile (· == 0)).length) 7 }
  let m1 := berthList.foldl (Image.readBerth b) (m.readGlobal b)
  ((((m1.readTenders b).readCurves b).readMooring b).readProtection b)

/-- The value that the image gives a register: its record's, else the reset value. -/
def Image.val (m : Image) (a : Nat) : Word :=
  match m.recs.find? fun r => r.adr == a with
  | some r => recordWord a r.val
  | none => resetWord a

/-- Offset of the failing item of a rule across fields: the value bytes of the lowest record of the registers that it joins,
else `dflt` (log entry 34). -/
def Image.at_ (m : Image) (l : List Nat) (dflt : Nat) : Nat :=
  match (m.recs.filter fun r => l.contains r.adr).map (·.off + 2) with
  | [] => dflt
  | x :: r => r.foldl min x

/-- Section `i` is present and its records could not be read: its length is inconsistent (code 5). -/
def Image.unread (m : Image) (i : Nat) : Bool :=
  match findSec m.secs i with
  | some (o, len) => m.fails.any fun f => f.2 == 5 && o ≤ f.1 && f.1 < o + len
  | none => false

/-- A failing item of a rule that joins fields of the sections `secs`: it is judged on sections that could be read (R122). -/
def Image.joint (m : Image) (secs : List Nat) (c : Bool) (off code : Nat) : List (Nat × Nat) :=
  failIf (c && !secs.any m.unread) off code

/-- The twelve berth sections. -/
def berthSecs : List Nat := (List.range 12).map (1 + ·)

/-- Offset of section `i`, or of its directory entry when it is absent. -/
def Image.sec (m : Image) (i : Nat) : Nat := ((findSec m.secs i).map (·.1)).getD (0x20 + 8 * i)

/-- Berths whose section is present. -/
def Decl.berth? (d : Decl) (n : Berth) : Option BerthDecl := d.berths.getD n.val none
/-- Tenders whose entry is present. -/
def Decl.tender? (d : Decl) (t : Tender) : Option TenderDecl := d.tenders.getD t.val none

/-- A berth section is present and not out of use under R129. -/
def Decl.inUse (d : Decl) (compat : Bool) (n : Berth) : Bool :=
  (d.berth? n).isSome && !(compat && !d.compat6 && 6 ≤ n.val)

/-! ### Rules that join fields, over any reading `v` of the registers -/

/-- R147: PERIOD x PRESCALE lies from 51200 to 2048000 ticks. -/
def periodOk (v : Nat → Word) (n : Berth) : Bool :=
  let t := (v (ba n BP_PERIOD)).toNat * 2 ^ bits (v (ba n BP_CTL)) 3 2
  51200 ≤ t && t ≤ 2048000
/-- R102, R147: the carrier does not exceed FMAX. -/
def carrierOk (v : Nat → Word) (n : Berth) (fmax : Nat) : Bool :=
  5120000000 ≤ fmax * ((v (ba n BP_PERIOD)).toNat * 2 ^ bits (v (ba n BP_CTL)) 3 2)
/-- R219: FMAX / D does not exceed 40 kHz. -/
def divOk (v : Nat → Word) (n : Berth) (fmax : Nat) : Bool := fmax ≤ 40000 * (bits (v (ba n BS_CTL)) 5 3 + 1)
/-- R215: the short-circuit threshold lies within the amplifier's range. -/
def scthrOk (v : Nat → Word) (n : Berth) : Bool :=
  bits (v (ba n BG_SCTHR)) 7 0 * 4 * (5 * 2 ^ bits (v (ba n BS_CTL)) 1 0) ≤ 2048
/-- R297: no CATCH or RECATCH while a BP_DISLVL code is 1. -/
def catchOk (v : Nat → Word) (n : Berth) : Bool :=
  bits (v (ba n BO_CTL)) 3 2 = 0 ||
    ([0, 2, 4].all fun k => bits (v (ba n BP_DISLVL)) (k + 1) k != 1)
/-- R321: the demand settings of a berth. -/
def demandOk (v : Nat → Word) (n : Berth) : Bool :=
  let w (o : Nat) : Nat := (v (ba n o)).toNat
  w BD_PMIN ≤ w BD_PMAX && w BD_VLO != w BD_VHI && w BD_BANDLO < w BD_BANDHI && w BD_OFF ≤ w BD_ON &&
    !(bits (v (ba n BD_CTL)) 1 0 ≤ 1 && w BD_LOSST = 0)
/-- R186: MIN does not exceed MAX. -/
def codelimOk (v : Nat → Word) (n : Berth) : Bool := bits (v (ba n BG_CODELIM)) 4 0 ≤ bits (v (ba n BG_CODELIM)) 12 8
/-- R192: the pump is not off while a present berth has REFEN 0. -/
def pumpOk (v : Nat → Word) (d : Decl) : Bool :=
  (v PWR_PUMP).getLsbD 0 || berthList.all fun n => (d.berth? n).isNone || (v (ba n BG_CTL)).getLsbD 4
/-- R89: TAMODE stop with TA supplying VGD needs every berth in use chosen. -/
def sagOk (v : Nat → Word) (d : Decl) (compat : Bool) : Bool :=
  !(d.vgdSrc = 0 && bits (v PWR_SAGCFG) 1 0 = 2 &&
    berthList.any fun n => d.inUse compat n && !(v PWR_SAGBERTH).getLsbD n.val)
/-- R335: time constants of ladder index `j`. -/
def ladderOk (v : Nat → Word) (j : Nat) : Bool :=
  let r (i : Nat) : Nat := (v (0x8A0 + 16 * i + j)).toNat
  let c (i : Nat) : Nat := (v (0x8D0 + 16 * i + j)).toNat
  400 ≤ r 0 * c 0 && 400 ≤ r 0 * c 1 && 400 ≤ r 1 * c 1 && 400 ≤ r 1 * c 2 && 400 ≤ r 2 * c 2
/-- R345: TH_NBRk does not name sensor k. -/
def nbrOk (v : Nat → Word) (k : Nat) : Bool := !(v (TH_NBR0 + k)).getLsbD k
/-- R364, R102: the tender's frequency does not exceed FSWMAX. -/
def fswOk (v : Nat → Word) (t : Tender) (fsw : Nat) : Bool := 5120000000 ≤ fsw * bits (v (ta t TD_PERIOD)) 14 0
/-- R365: OFS stays below PERIOD. -/
def ofsOk (v : Nat → Word) (t : Tender) : Bool := bits (v (ta t TD_OFS)) 14 0 < bits (v (ta t TD_PERIOD)) 14 0
/-- R143, R146: LEN of timer `k` lies in the range of its mode. -/
def timerLenOk (v : Nat → Word) (k : Nat) : Bool :=
  wtLenOk (bits (v (TIDE_WTCFG0 + 2 * k)) 2 0) (v (TIDE_WTCFG0 + 2 * k + 1)).toNat
/-- R144: the BLANK timer `k` names a present berth that no other BLANK timer names. -/
def timerBlankOk (v : Nat → Word) (d : Decl) (k : Nat) : Bool :=
  let m (j : Nat) : Nat := bits (v (TIDE_WTCFG0 + 2 * j)) 2 0
  let b (j : Nat) : Nat := bits (v (TIDE_WTCFG0 + 2 * j)) 7 4
  m k != wtBlank ||
    ((d.berths.getD (b k) none).isSome && (List.range 24).all fun j => j = k || m j != wtBlank || b j != b k)
/-- R515: the relay's channel is owned and its berth present. -/
def relayOk (v : Nat → Word) (d : Decl) : Bool :=
  let r := v ML_RELAY
  let ch := bits r 5 0
  !r.getLsbD 17 || ((v (ML_DEMOWN0 + ch / 18)).getLsbD (ch % 18) && (d.berths.getD (bits r 16 13) none).isSome)

/-- R211: an enabled brake trip of quay `q` (0, 1) has TRIP at least ON + 1.0 V. -/
def brakeOk (v : Nat → Word) (q : Nat) : Bool :=
  !(v PWR_BRKCTL).getLsbD (2 * q + 1) || bits (v (0x121 + 3 * q)) 9 0 + 10 ≤ bits (v (0x122 + 3 * q)) 9 0
/-- R348: one set of thermal levels; `hard` is HARD in 1/64 K. -/
def levelsOk (w t s hard hyst : Int) : Bool := w ≤ t && t ≤ s && s < hard && w - hyst ≤ t - hyst && -2560 ≤ w - hyst
/-- R348: the three sets; HARD of the die set is 170 °C. -/
def thermalOk (v : Nat → Word) : Bool :=
  let x (a : Nat) : Int := sgn (v a)
  levelsOk (x 0x850) (x 0x851) (x 0x852) (x 0x853) (x TH_HYST) && levelsOk (x 0x854) (x 0x855) (x 0x856) (x 0x857) (x TH_HYST) &&
    levelsOk (x 0x858) (x 0x859) (x 0x85A) 10880 (x TH_HYST)
/-- R396: no CLASS above 2 in tiered mode. -/
def classesOk (v : Nat → Word) : Bool :=
  !(v FC_CTL).getLsbD 0 || (List.range 256).all fun k => bits (v (FC_MAP + k)) 5 3 ≤ 2
/-- The rules across fields of the protection set (R527 check 7). -/
def protectionOk (v : Nat → Word) : Bool :=
  brakeOk v 0 && brakeOk v 1 && thermalOk v && classesOk v && berthList.all fun n => scthrOk v n

/-- The three logbook areas of R466 as start and size in bytes. -/
def logAreas (v : Nat → Word) : List (Nat × Nat) :=
  let a (x : Nat) : Nat := (v x).toNat + bits (v (x + 1)) 13 0 * 2 ^ 18
  [(a LOG_BASE0, (v LOG_SECT).toNat * 4096), (a LOG_THBASE0, 8192), (a LOG_PARBASE0, (v LOG_PARSECT).toNat * 4096)]
/-- An area lies within one select of kind 1 or 2. -/
def inSelect (x : Nat × Nat) : Nat → List SelDecl → Bool
  | _, [] => false
  | lo, d :: r => ((d.kind = 1 || d.kind = 2) && lo ≤ x.1 && x.1 + x.2 ≤ lo + selSize d) || inSelect x (lo + selSize d) r
/-- Two areas do not overlap. -/
def apart (x y : Nat × Nat) : Bool := x.1 + x.2 ≤ y.1 || y.1 + y.2 ≤ x.1
/-- R466. -/
def logOk (v : Nat → Word) (d : Decl) : Bool :=
  match logAreas v with
  | [j, t, p] =>
      [j, t, p].all (fun x => inSelect x 0 d.sels && x.1 % 4096 = 0 && 0xC0000 ≤ x.1) && apart j t && apart j p && apart t p
  | _ => false

/-! ### Checks (R122, R126) -/

/-- The dissipation estimate of R100 in mW, from the declaration blocks (R127): in units of 10^-10 mW before rounding. -/
def estimate (d : Decl) : Nat :=
  let b : Rat := (berthList.map fun n => match d.berth? n with
    | none => (0 : Rat)
    | some x =>
        let p : Rat := ((6 * x.qg * d.vgdNom * x.fmax : Nat) : Rat)
        if isH n then p * 2000 / ((2000 + x.rg : Nat) : Rat) else p).foldl (· + ·) 0
  let t : Rat := (tenderList.map fun t => match d.tender? t with
    | none => (0 : Rat)
    | some x => ((2 * x.qg * d.vgdNom * x.fsw : Nat) : Rat)).foldl (· + ·) 0
  (900 + (b + t) / 10000000000 + 1 / 2).floor.toNat

/-- The declaration blocks in force at a COMPAT level: berths out of use under R129 count as absent. -/
def Decl.atCompat (d : Decl) (compat : Bool) : Decl :=
  { d with berths := berthList.map fun n => if d.inUse compat n then d.berth? n else none }

/-- Failing items across the fields of one berth section. -/
def Image.berthFails (m : Image) (n : Berth) : List (Nat × Nat) :=
  match m.decl.berth? n with
  | none => []
  | some d =>
      let v := m.val
      let i := 1 + n.val
      let f (c : Bool) (l : List Nat) (code : Nat) := m.joint [i] c (m.at_ (l.map (ba n)) (m.sec i)) code
      f (!periodOk v n) [BP_PERIOD, BP_CTL] 7 ++ f (!carrierOk v n d.fmax) [BP_PERIOD, BP_CTL] 8 ++
      f (!divOk v n d.fmax) [BS_CTL] 8 ++ f (!isH n && !codelimOk v n) [BG_CODELIM] 7 ++
      f (!catchOk v n) [BO_CTL, BP_DISLVL] 8 ++
      f (!demandOk v n) [BD_CTL, BD_ON, BD_OFF, BD_LOSST, BD_PMIN, BD_PMAX, BD_VLO, BD_VHI, BD_BANDLO, BD_BANDHI] 8 ++
      m.joint [i, 16] (!scthrOk v n) (m.at_ [ba n BG_SCTHR, ba n BS_CTL] (m.sec i)) 8

/-- SEL0 breaks R111 within the ranges of its fields, or the declared sizes are too large; a KIND or SIZELOG2 outside its range has
code 7 and is no part of either rule. -/
def selFails (g : Nat) (sels : List SelDecl) : List (Nat × Nat) :=
  let ok (d : SelDecl) : Bool := 1 ≤ d.kind && d.kind ≤ 3 && 10 ≤ d.sizeLog2 && d.sizeLog2 ≤ 32
  let s0 := sels.headD ⟨0, 0⟩
  failIf (s0.kind = 0 || s0.kind = 3) (g + 0xC) 8 ++
  failIf ((s0.kind = 1 || s0.kind = 2) && 10 ≤ s0.sizeLog2 && s0.sizeLog2 < 20) (g + 0xD) 8 ++
  failIf (decide (2 ^ 32 < ((sels.filter ok).map selSize).foldl (· + ·) 0)) (g + 0xC) 8

/-- Failing items across fields of the whole image (R126 and the rules of the other chapters). -/
def Image.crossFails (m : Image) (compat : Bool) : List (Nat × Nat) :=
  let d := m.decl
  let v := m.val
  let g := m.sec 0
  let p := m.sec 16
  m.joint (0 :: berthSecs) (!sagOk v d compat) (m.at_ [PWR_SAGBERTH, PWR_SAGCFG] g) 8 ++
  m.joint [0, 13] (d.vgdSrc = 0 && (d.tender? 0).isNone) (g + 2) 8 ++
  m.joint [0, 13] (d.vgdSrc = 0 && (d.tender? 0).isSome && !(v (ta 0 TD_CTL)).getLsbD 0) (m.at_ [ta 0 TD_CTL] (m.sec 13)) 8 ++
  failIf ((d.compatReq = 1 && compat) || (d.compatReq = 2 && !compat)) (g + 9) 8 ++
  m.joint [0, 15] (d.refSel = 2 && (match d.mooring with | some x => x.2 | none => false)) (m.sec 15 + 2) 8 ++
  (if m.unread 0 && d.sels.isEmpty then [] else selFails g d.sels) ++
  m.joint [0] (!logOk v d) (m.at_ ((List.range 8).map (LOG_BASE0 + ·)) g) 8 ++
  m.joint (0 :: berthSecs) (!pumpOk v d) (m.at_ (PWR_PUMP :: berthList.map fun n => ba n BG_CTL) g) 8 ++
  (List.range 24).flatMap (fun k =>
    m.joint [0] (!timerLenOk v k) (m.at_ [TIDE_WTCFG0 + 2 * k + 1, TIDE_WTCFG0 + 2 * k] g) 7 ++
    m.joint (0 :: berthSecs) (!timerBlankOk v d k) (m.at_ [TIDE_WTCFG0 + 2 * k] g) 8) ++
  (List.range 15).flatMap (fun j =>
    m.joint [0] (!ladderOk v j) (m.at_ ((List.range 6).map fun i => 0x8A0 + 16 * i + j) g) 8) ++
  (List.range 10).flatMap (fun k => m.joint [0] (!nbrOk v k) (m.at_ [TH_NBR0 + k] g) 7) ++
  berthList.flatMap (fun n => m.berthFails n) ++
  tenderList.flatMap (fun t => match d.tender? t with
    | none => []
    | some x => m.joint [13] (!fswOk v t x.fsw || !ofsOk v t) (m.at_ [ta t TD_PERIOD, ta t TD_OFS] (m.sec 13)) 8) ++
  m.joint (15 :: berthSecs) (!relayOk v d)
    (m.at_ [ML_RELAY, ML_DEMOWN0, ML_DEMOWN0 + 1, ML_DEMOWN0 + 2, ML_DEMOWN0 + 3] (m.sec 15)) 8 ++
  m.curves.flatMap (fun e => m.joint [1 + e.berth] (e.berth ≤ 11 && (d.berths.getD e.berth none).isNone) e.off 8) ++
  m.joint [16] (!brakeOk v 0) (m.at_ [0x120, 0x121, 0x122] p) 8 ++ m.joint [16] (!brakeOk v 1) (m.at_ [0x120, 0x124, 0x125] p) 8 ++
  m.joint [16] (!thermalOk v) (m.at_ ((List.range 12).map (0x850 + ·)) p) 8 ++
  m.joint [16] (!classesOk v) (m.at_ (FC_CTL :: (List.range 256).map (FC_MAP + ·)) p) 8

/-- The parsed image with every failing item, CRC and TAG apart. `sealReq`: a RELOAD asks for a sealed slot (R545). -/
def checkedImage (b : List Nat) (compat blank sealReq : Bool) : Image :=
  let m := readImage b
  let present (t : Nat) : Bool := (m.decl.tenders.getD t none).isSome
  let est := failIf (m.decl.budget < estimate (m.decl.atCompat compat)) (m.sec 0 + 4) 9
  { m with fails :=
      m.fails ++ failIf ((sealedImage b && blank) || (sealReq && !sealedImage b)) 0x10 13 ++
        recordsFail m.decl.vgdSrc present [] m.recs ++ m.crossFails compat ++ est }

/-- Result code and offset of a slot (R122): the header, then CRC, then TAG, then the lowest failing item; 1 when it passes.
`key` is the manifest key, none while its store is blank (R118). -/
def slotResult (b : List Nat) (compat : Bool) (key : Option (BitVec 128)) (sealReq : Bool) : Nat × Nat × Image :=
  match lowestFail (headerFails b) with
  | some (o, c) => (c, o, {})
  | none =>
      let len := leAt b 8 4
      let m := checkedImage b compat key.isNone sealReq
      if crc32 (b.take (len - 8)) ≠ leAt b (len - 8) 4 then (10, len - 8, m)
      else if (aesCmac (keyBytes (key.getD 0)) (b.take (len - 4))).take 4 ≠ (b.drop (len - 4)).take 4 then (11, len - 4, m)
      else match lowestFail m.fails with
        | some (o, c) => (c, o, m)
        | none => (1, 0, m)

/-! ### Applying loaded values (R110, R121, R123) -/

/-- A word with the loaded fields of its register taken from `v`. -/
def mergeLoaded (a : Nat) (w v : Word) : Word :=
  match cardAt a with
  | none => w
  | some c => c.fields.foldl (fun w f => if f.ld then putBits w f.hi f.lo (bits v f.hi f.lo) else w) w

/-- A record is written: the loaded fields of its register (R110). -/
def State.loadRecord (s : State) (r : MRec) : State := s.wr r.adr (mergeLoaded r.adr (s.rd r.adr) (BitVec.ofNat 18 r.val))

/-- Every field that a manifest may load returns to its reset value (R9, R121). -/
def State.unloadAll (s : State) : State :=
  { s.wrs (s.regs.map fun p => (p.1, mergeLoaded p.1 p.2 (resetWord p.1))) with prot := State.reset.prot }

/-- The records of the slot that has been read are written into their registers (R123), before its checks; those of the protection
section take effect at commit, since the reaction map holds its reset values until then (R134). -/
def State.stageImage (s : State) (b : List Nat) : State :=
  if !(headerFails b).isEmpty then s
  else
    let m := readImage b
    let present (t : Nat) : Bool := (m.decl.tenders.getD t none).isSome
    (m.recs.filter fun r => r.sec != 16 && loadable m.decl.vgdSrc present r.sec r.adr).foldl State.loadRecord s

end Sys2Proof.Machine
end

