-- ==== Sys2Proof/Machine/Log.lean ====
section
/-! DEFINITION. The memory port and the logbook (chapter 15): entries on the wire, records, writing and wear, the mount,
trace bursts, saved state. -/

namespace Sys2Proof.Machine

abbrev logOff : Nat := 0
abbrev logMounting : Nat := 1
abbrev logReady : Nat := 2
abbrev logFailed : Nat := 3
abbrev logDocked : Nat := 4

/-- LOG_STAT.STATE. -/
def State.logState (s : State) : Nat := s.get LOG_STAT 2 0
/-- Set LOG_STAT.STATE; a docked port keeps showing DOCKED (R480). -/
def State.putLogState (s : State) (v : Nat) : State :=
  if s.mem.docked then s.modLog fun l => { l with before := v } else s.put LOG_STAT 2 0 v
/-- Set a bit of LOG_EVT. -/
def State.logEvt (s : State) (b : Nat) : State := s.setb LOG_EVT b
/-- LOG_EVT.WFAIL and source 0x26 (R471, R481). -/
def State.logWfail (s : State) : State := (s.logEvt 2).raiseAll 0x26 LOG_EVT
/-- A two-word byte address. -/
def State.addr2 (s : State) (a : Nat) : Nat := (s.rd a).toNat + s.get (a + 1) 13 0 * 2 ^ 18

/-! ### Records (R467 to R469) -/

/-- CTX0 to CTX7 as 32 bytes. -/
def ctxBytes (l : List Word) : List Nat := (List.range 8).flatMap fun i => leBytes 4 (l.getD i 0).toNat

/-- The context of an event (R468). -/
def State.eventCtx (s : State) (e : Event) : List Word :=
  if h : 0x80 ≤ e.src ∧ (e.src - 0x80) / 8 < 12 then
    let n : Berth := ⟨(e.src - 0x80) / 8, h.2⟩
    [BS_IU, BS_IU + 1, BS_IU + 2, BS_VBUS, BO_OMEGA, BO_THETA, BL_STATE, BF_ILIMF].map fun o => s.liveReg (ba n o)
  else (if e.kind = 0 then s.liveReg e.adr else 0) ::
    [PWR_STAT, 0x866, 0x867, LE_OCC, HP_STAT, MF_STAT, GLB_SKEWNOW].map fun a => s.liveReg a

/-- The event record (R467, R468). -/
def State.eventRecord (s : State) (e : Event) (sev react flags : Nat) : LogRec :=
  { typ := 1
    flags := flags + (if s.committed then 0 else 16)
    pay := leBytes 8 e.ts ++ [e.src, sev + 16 * react, e.master + 16 * e.acc, e.kind] ++ leBytes 4 e.adr ++
      ctxBytes (s.eventCtx e) ++ leBytes 2 e.affected.toNat ++ [(s.coll.first.map (·.count)).getD 0, 0] }

/-- A marker (R469). -/
def State.marker (s : State) (code : Nat) (ctx : List Word) : LogRec :=
  { typ := 4, flags := if s.committed then 0 else 16
    pay := leBytes 8 s.tide.now ++ [code, 0, 0, 0, 0, 0, 0, 0] ++ ctxBytes ctx ++ [0, 0, 0, 0] }

/-- The slots left before the logbook accepts nothing more. -/
def State.logFree (s : State) : Nat := 64 - s.mem.log.buf.length

/-- The 64 bytes of a record in its slot (R467). -/
def slotBytes (typ flags boot rseq : Nat) (pay : List Nat) : List Nat :=
  let b := [typ, flags] ++ leBytes 2 boot ++ leBytes 4 rseq ++ (pay ++ List.replicate 52 0).take 52
  b ++ leBytes 4 (crc32 b)

/-- The slot's CRC holds (R467). -/
def slotValid (b : List Nat) : Bool := crc32 (b.take 60) == leAt b 60 4
/-- What a slot of 64 bytes reads as (R467, R475). -/
def slotRead (b : List Nat) : SlotRead :=
  if b.all (· == 0xFF) then .blank
  else if slotValid b then .valid (leAt b 0 1) (leAt b 2 2) (leAt b 4 4) else .bad
/-- Slot `k` of a sector. -/
def slotOf (b : List Nat) (k : Nat) : List Nat := (b.drop (64 * k)).take 64
/-- SSEQ and ERASES of a sector's valid header (R467). -/
def sectorHead (b : List Nat) : Option (Nat × Nat) :=
  let h := slotOf b 0
  if slotValid h && leAt h 0 1 == 0x7E then some (leAt h 4 4, leAt h 8 4) else none
/-- Slots 1 to 63 of a sector. -/
def sectorSlots (b : List Nat) : List SlotRead := (List.range 63).map fun k => slotRead (slotOf b (k + 1))
/-- A sector of the parameter area (R479). -/
def parSector (b : List Nat) : ParSector where
  sseq := (sectorHead b).map (·.1)
  slots := sectorSlots b
  recs := (List.range 63).filterMap fun k =>
    let r := slotOf b (k + 1)
    if slotValid r && leAt r 0 1 == 0x10 then
      some (leAt r 4 4, leAt r 8 1, BitVec.ofNat 18 (leAt r 0xC 4), BitVec.ofNat 18 (leAt r 0x10 4))
    else none
/-- GEN of a thermal copy, none when it is not valid (R478). -/
def copyGen (b : List Nat) : Option Nat :=
  if leAt b 0 4 = 0x48545A53 ∧ leAt b 8 2 = 85 ∧ crc32 (b.take 0x40C) = leAt b 0x40C 4 then some (leAt b 4 4) else none

/-! ### Programming (R470 to R473) -/

/-- Byte address of a journal slot. -/
def State.slotAddr (s : State) (sector slot : Nat) : Nat := s.addr2 LOG_BASE0 + sector * 4096 + slot * 64

/-- The sector that follows `k`, skipped ones left out (R471). -/
def nextSector (n : Nat) (skipped : List Nat) : Nat → Nat → Nat
  | 0, k => k
  | f + 1, k => let j := (k + 1) % n; if skipped.contains j then nextSector n skipped f j else j

/-- The sector after the current one. -/
def State.logNext (s : State) : Nat :=
  let n := (s.rd LOG_SECT).toNat
  nextSector n s.mem.log.skipped (min n 64) s.mem.log.sector

/-- Show the write position, which after the last slot of a sector is the start of the next one, and the next RSEQ. -/
def State.showLog (s : State) (rseq : Nat) : State :=
  let l := s.mem.log
  let a := if l.slot < 64 then s.slotAddr l.sector l.slot else s.slotAddr s.logNext 0
  (((s.wr LOG_WPTR0 (BitVec.ofNat 18 a)).wr 0xA35 (BitVec.ofNat 18 (a / 2 ^ 18 % 2 ^ 14))).wr LOG_RSEQ0
    (BitVec.ofNat 18 rseq)).wr 0xA33 (BitVec.ofNat 18 (rseq / 2 ^ 18 % 2 ^ 14))

/-- The journal lies on FRAM: each record is programmed at once (R470). -/
def State.logFram (s : State) : Bool :=
  match s.selOf (s.addr2 LOG_BASE0) with | some (_, _, d) => d.kind == 2 | none => false

/-- Program the first `n` waiting records at the write position (R470, R471): a sector header goes with the first records
of its sector. -/
def State.logProgram (s : State) (n : Nat) : State :=
  let l := s.mem.log
  let boot := s.get LOG_BOOT 15 0
  let rseq := s.addr2 LOG_RSEQ0
  let hdr : List Nat := if l.slot = 0 then
      slotBytes 0x7E 0 boot l.sseq (leBytes 4 (((l.erases.find? fun p => p.1 == l.sector).map (·.2)).getD 0)) else []
  let data := (l.buf.take n).zipIdx.flatMap fun p => slotBytes p.1.typ p.1.flags boot (rseq + p.2) p.1.pay
  ((s.modLog fun l => { l with prog := n }).enqueue
    (s.programEntries .page (s.slotAddr l.sector l.slot) (hdr ++ data))).useFree 1

/-- Records are programmed when the rules of R470 and R473 call for it; `lazy` says that LAZY has run out. -/
def State.logPump (s : State) (lazy : Bool := false) : State :=
  let l := s.mem.log
  if s.logState != logReady || l.prog != 0 || l.buf.isEmpty || l.off || s.mem.docked then s
  else
    let s1 := if l.slot < 64 then s
      else if l.ready then
        s.modLog fun l => { l with sector := s.logNext, slot := 0, sseq := l.sseq + 1, ready := false }
      else s
    let l1 := s1.mem.log
    if 64 ≤ l1.slot || !l1.cur then s1
    else
      let room := (if l1.slot = 0 then 3 else 4 - l1.slot % 4)
      if s1.logFram then s1.logProgram 1
      else if room ≤ l1.buf.length then s1.logProgram room
      else if l1.flush || lazy then s1.logProgram l1.buf.length
      else s1

/-- The LOSS marker (R469). No rule drops a trace burst, so its second count stays 0. -/
def State.lossMarker (s : State) : LogRec := s.marker 4 [BitVec.ofNat 18 s.mem.log.lost, 0]

/-- A record is made (R470, R472): dropped and counted when the buffer is full, or while a LOSS marker is due. -/
def State.logPush (s : State) (r : LogRec) : State :=
  if s.committed && !s.flag LOG_CTL 11 then s
  else
    let free := s.logFree
    let l := s.mem.log
    if free = 0 || (l.lost != 0 && decide (free < 4)) then
      ((s.incSat LOG_DROP).logEvt 4).modLog fun l => { l with lost := min (l.lost + 1) 0x3FFFF }
    else
      let mark := if l.lost != 0 then [s.lossMarker] else []
      (s.modLog fun l => { l with buf := l.buf ++ mark ++ [r], lost := 0 }).logPump

/-- LOSS_MARKER: four slots are free after drops (R472). -/
def execLossMarker (s : State) : Res :=
  .next (
    let l := s.mem.log
    if l.lost != 0 && decide (4 ≤ s.logFree) then
      (s.modLog fun l => { l with buf := l.buf ++ [s.lossMarker], lost := 0 }).logPump
    else s)

/-- LAZY_EXPIRY: the oldest waiting record is LOG_CTL.LAZY ms old (R470). -/
def execLazyExpiry (s : State) : Res := .next (s.logPump true)

/-- Writes end after LOG_CTL.EN was cleared (R474). -/
def State.logSettleOff (s : State) : State :=
  if s.mem.log.off && s.mem.log.prog = 0 && s.mem.log.prep = .none && !s.inMem MemJob.ofLog then
    (s.modLog fun l => { l with off := false }).putLogState logOff
  else s

/-- PAGE_PROGRAM_DONE (R470, R481): the records leave the buffer, or stay and go to the next page boundary. -/
def execPageProgramDone (ok : Bool) (s : State) : Res :=
  .next (
    let l := s.mem.log
    if l.prog = 0 then s
    else
      let s1 := s.endJob .page
      let s2 := if ok then
          (s1.modLog fun l => { l with buf := l.buf.drop l.prog, prog := 0, slot := l.slot + l.prog + (if l.slot = 0 then 1 else 0) }).showLog
            (s.addr2 LOG_RSEQ0 + l.prog)
        else ((s1.modLog fun l => { l with prog := 0, slot := (l.slot / 4 + 1) * 4 }).showLog (s.addr2 LOG_RSEQ0)).logWfail
      s2.logPump.logSettleOff)

/-- The sector to prepare: the current one while it is not (R474), else the next (R471). -/
def State.logTarget (s : State) : Nat := if s.mem.log.cur then s.logNext else s.mem.log.sector

/-- The read of a whole sector. -/
def State.sectorRead (s : State) (job : MemJob) (a : Nat) : MemEntry := s.readEntry job a 4096

/-- SECTOR_PREPARE (R471): the sector is read. -/
def execSectorPrepare (s : State) : Res :=
  .next (
    let l := s.mem.log
    if s.logState != logReady || (l.cur && l.ready) || l.prep != .none then s
    else (s.modLog fun l => { l with prep := .verify, seen := none }).enqueue
      [s.sectorRead .prepare (s.slotAddr s.logTarget 0)])

/-- The sector in preparation is erased and read again (R471). FRAM has no erase and is not read again (R456; DESIGN CHOICE,
log entry 122). -/
def State.eraseTarget (s : State) : State :=
  let a := s.slotAddr s.logTarget 0
  if s.logFram then s.modLog fun l => { l with seen := some true }
  else ((s.modLog fun l => { l with seen := none }).enqueue (s.eraseEntries .prepare a ++ [s.sectorRead .prepare a])).useFree 1

/-- The sector in preparation has been read (R471). Blank, it is verified and takes the highest ERASES found at the mount. Else
it is erased, WRAPPED is set, and it takes ERASES of its old header plus 1, a free value where that header is not valid. A
read after an erase says whether it succeeded. -/
def State.sectorSeen (s : State) (b : List Nat) : State :=
  let blank := b.all (· == 0xFF)
  let k := s.logTarget
  if s.mem.log.prep != .verify then s.modLog fun l => { l with seen := some blank }
  else if blank then s.modLog fun l => { l with seen := some true, erases := putKey l.erases k (some l.wear) }
  else
    let n := (match sectorHead b with | some h => h.2 | none => s.freeVal % 2 ^ 32) + 1
    let s1 := (s.modLog fun l => { l with prep := .erase, erases := putKey l.erases k (some n) }).useFree 1
    ((s1.setb LOG_STAT 11).wr LOG_WEARMAX (BitVec.ofNat 18 (min (max n (s.rd LOG_WEARMAX).toNat) 0x3FFFF))).eraseTarget

/-- A sector fails its second verification: it is skipped until reset (R471). -/
def State.skipSector (s : State) : State :=
  let k := s.logTarget
  let n := (s.rd LOG_SECT).toNat
  (s.modLog fun l => { l with
    prep := .none, skipped := k :: l.skipped
    sector := if l.cur then l.sector else nextSector n (k :: l.skipped) (min n 64) k }).logWfail

/-- SECTOR_PREPARE_DONE (R471): a failed verification erases once more; a second failure skips the sector. -/
def execSectorPrepareDone (s : State) : Res :=
  .next (
    let l := s.mem.log
    match l.seen with
    | none => s
    | some ok =>
        let s1 := s.modLog fun l => { l with seen := none }
        let s2 := if ok then s1.modLog fun l => { l with prep := .none, cur := true, ready := l.cur }
          else if l.prep = .again then s1.skipSector
          else (s1.modLog fun l => { l with prep := .again }).eraseTarget
        s2.logPump.logSettleOff)

/-- A flush begins (R473). -/
def State.logFlush (s : State) : State := (s.modLog fun l => { l with flush := true }).logPump

/-- FLUSH_COMPLETE: the buffer is empty (R473), or the logbook is OFF or FAILED and can program nothing. -/
def execFlushComplete (s : State) : Res :=
  .next (
    if s.mem.log.flush && (s.mem.log.buf.isEmpty || s.logState == logOff || s.logState == logFailed) then
      (s.modLog fun l => { l with flush := false }).modDev fun d => { d with sagFlush := false }
    else s)

/-! ### Mount (R474, R475, R479) -/

/-- The logbook begins its mount: every sector header is read (R474 step 1). -/
def State.mountReads (s : State) : State :=
  ((s.modLog fun l => { l with mount := {} }).enqueue
    ((List.range (s.rd LOG_SECT).toNat).map fun k => s.readEntry .head (s.slotAddr k 0) 64)).clrb LOG_STAT 11 |>.putLogState logMounting

/-- The logbook begins its mount, once committed, with EN 1 and out of OFF. -/
def State.logMount (s : State) : State :=
  if s.committed && s.flag LOG_CTL 11 && s.logState = logOff then
    (s.modLog fun l => { l with off := false }).mountReads
  else s

/-- MOUNT (R474). -/
def execMount (s : State) : Res := .next s.logMount

/-- LOG_CMD.FLUSH: a flush, or in FAILED the mount again (R473, R481). -/
def State.hostFlush (s : State) : State := if s.logState = logFailed then s.mountReads else s.logFlush

/-- LOG_CTL.EN goes from 1 to 0: entries in flight end, then OFF (R474). -/
def State.logDisable (s : State) : State := (s.modLog fun l => { l with off := true }).logSettleOff

/-- Loss searches start from their saved values (R479), clamped to R268. -/
def State.seedLoss (s : State) (l : List (Option (Word × Word))) : State :=
  s.forAll berthList fun s n =>
    match l.getD n.val none with
    | some (id, an) =>
        let id := clampI (sgn id) (s.bint n BF_LSIDMIN) 0
        let m : Int := s.bnat n BF_LSAMAX
        let an := clampI (sgn an) (-m) m
        ((s.bwr n BF_LSID (wd id)).bwr n BF_LSANG (wd an)).modCtl n fun c => { c with lsid := id, lsang := an }
    | none => s

/-- The values from which the loss searches have started: those just seeded, or 0 (R479). -/
def State.noteStart (s : State) (seeded : Bool) : State :=
  s.modLog fun l => { l with parStart := some (berthList.map fun n =>
    if seeded then (s.brd n BF_LSID, s.brd n BF_LSANG) else (0, 0)) }

/-- The thermal sector that does not hold the newest copy is erased ahead of time (R478). -/
def State.eraseThermal (s : State) : State :=
  (s.enqueue (s.eraseEntries .thErase (s.addr2 LOG_THBASE0 + 4096 * (1 - s.mem.log.thSect)))).useFree 1

/-- After the mount: the thermal sector is erased (R478), and so is a parameter sector that starts now (R471, R479). -/
def State.prepareAreas (s : State) : State :=
  let s1 := s.eraseThermal
  if s.mem.log.parSlot = 0 then
    (s1.enqueue (s1.eraseEntries .param (s.addr2 LOG_PARBASE0 + 4096 * s.mem.log.parSect))).useFree 1
  else s1

/-- The position and the value of the highest entry. -/
def highest (l : List (Option Nat)) : Option (Nat × Nat) :=
  l.zipIdx.foldl (fun m p => match p.1, m with
    | some q, none => some (p.2, q)
    | some q, some (k, b) => if b < q then some (p.2, q) else some (k, b)
    | none, m => m) none

/-- The first page boundary after the last slot that is not blank (R474 steps 2 and 3): `slots` are slots 1 to 63. -/
def resumeSlot (slots : List SlotRead) : Nat :=
  ((slots.zipIdx.filter fun p => p.1 != .blank).map fun p => p.2 + 1).foldl max 0 / 4 * 4 + 4
/-- The last slot that is not blank is not valid either: torn (R475). -/
def tornSlot (slots : List SlotRead) : Bool := (slots.filter (· != .blank)).getLast? == some .bad
/-- Slots that are not valid, the torn one apart (R475). -/
def badSlots (slots : List SlotRead) : Bool := ((slots.filter (· != .blank)).dropLast).any (· == .bad)
/-- BOOT and RSEQ of the valid slot with the highest RSEQ (R474). -/
def highSeq (slots : List SlotRead) : Option (Nat × Nat) :=
  slots.foldl (fun m x => match x, m with
    | .valid _ b q, none => some (b, q)
    | .valid _ b q, some (c, r) => if r < q then some (b, q) else some (c, r)
    | _, m => m) none

/-- The current journal sector, its SSEQ (R474). -/
def MountSt.current (m : MountSt) : Option (Nat × Nat) := highest (m.heads.map fun h => h.map (·.1))
/-- The current parameter sector, its SSEQ. -/
def MountSt.parCurrent (m : MountSt) : Option (Nat × Nat) := highest (m.pars.map (·.sseq))
/-- Every parameter record found. -/
def MountSt.parRecs (m : MountSt) : List (Nat × Nat × Word × Word) := m.pars.flatMap (·.recs)
/-- The newest loss-search record of each berth (R479). -/
def MountSt.params (m : MountSt) : List (Option (Word × Word)) :=
  berthList.map fun n => (m.parRecs.foldl (fun (x : Option (Nat × Word × Word)) r =>
    if r.2.1 != n.val then x
    else match x with
      | none => some (r.1, r.2.2)
      | some y => if y.1 < r.1 then some (r.1, r.2.2) else x) none).map (·.2)
/-- A slot read during the mount was neither blank, valid nor torn (R475). -/
def MountSt.badrec (m : MountSt) : Bool :=
  m.bad || badSlots m.slots || m.pars.zipIdx.any fun p =>
    badSlots p.1.slots || (tornSlot p.1.slots && m.parCurrent.map (·.1) != some p.2)
/-- A torn slot was found (R475). -/
def MountSt.torn (m : MountSt) : Bool :=
  tornSlot m.slots || m.pars.zipIdx.any fun p => tornSlot p.1.slots && m.parCurrent.map (·.1) == some p.2

/-- After the headers: the current sector is read, and so are the thermal copies and the parameter area (R474, R478, R479). -/
def State.mountAreas (s : State) : State :=
  let cur := match s.mem.log.mount.current with
    | some (k, _) => [s.sectorRead .sector (s.slotAddr k 0)]
    | none => []
  s.enqueue (cur ++ ((List.range 2).map fun k => s.readEntry .thRead (s.addr2 LOG_THBASE0 + 4096 * k) 1040) ++
    (List.range (s.rd LOG_PARSECT).toNat).map fun k => s.sectorRead .parRead (s.addr2 LOG_PARBASE0 + 4096 * k))

/-- A read of the mount is in. -/
def State.mountRead (s : State) (job : MemJob) (b : List Nat) : State :=
  match job with
  | .head =>
      let s1 := s.modLog fun l => { l with mount := { l.mount with
        heads := l.mount.heads ++ [sectorHead b], bad := l.mount.bad || slotRead (slotOf b 0) == .bad } }
      if s1.inMem (· == .head) || s.mem.log.off then s1 else s1.mountAreas
  | .sector => s.modLog fun l => { l with mount := { l.mount with slots := sectorSlots b } }
  | .thRead => s.modLog fun l => { l with mount := { l.mount with copies := l.mount.copies ++ [copyGen b] } }
  | .parRead => s.modLog fun l => { l with mount := { l.mount with pars := l.mount.pars ++ [parSector b] } }
  | _ => s

/-- BOOT and RSEQ from which the journal goes on (R474): 0 without a valid header; where the current sector holds no valid
record the rule names none: a free value. -/
def State.mountSeq (s : State) : Nat × Nat :=
  let m := s.mem.log.mount
  match highSeq m.slots, m.current with
  | some (b, q), _ => ((b + 1) % 65536, q + 1)
  | none, none => (0, 0)
  | none, some _ => (s.freeVal % 65536, s.freeVal)

/-- The write positions that the mount finds (R474, R478, R479). -/
def State.mountPlace (s : State) : State :=
  let m := s.mem.log.mount
  let newest : Nat × Nat := match m.copies.getD 0 none, m.copies.getD 1 none with
    | some a, some b => if a < b then (b, 1) else (a, 0)
    | some a, none => (a, 0) | none, some b => (b, 1) | none, none => (0, 1)
  let par := m.parCurrent
  let wear := m.heads.foldl (fun w h => match h with | some (_, e) => max w e | none => w) 0
  (s.modLog fun l => { l with
    sector := (m.current.map (·.1)).getD 0, sseq := (m.current.map (·.2)).getD 0
    slot := if m.current.isSome then resumeSlot m.slots else 0, cur := m.current.isSome, ready := false, prog := 0
    erases := m.heads.zipIdx.filterMap fun p => p.1.map fun h => (p.2, h.2)
    wear := wear, thGen := newest.1, thSect := newest.2
    parSect := (par.map (·.1)).getD 0, parSseq := (par.map (·.2)).getD 0
    parSlot := (par.map fun p => resumeSlot ((m.pars.map (·.slots)).getD p.1 [])).getD 0
    parRseq := m.parRecs.foldl (fun x r => max x (r.1 + 1)) 0 }).wr LOG_WEARMAX (BitVec.ofNat 18 (min wear 0x3FFFF))

/-- MOUNT_DONE (R474, R475, R478, R479, R481): the reads of the mount have ended. -/
def execMountDone (s : State) : Res :=
  .next (
    let m := s.mem.log.mount
    if s.logState != logMounting || s.inMem MemJob.ofMount then s
    else if m.lost then (s.putLogState logFailed).logWfail
    else if m.pars.length < (s.rd LOG_PARSECT).toNat then s
    else
      let q := s.mountSeq
      let s2 := (((s.mountPlace).useFree 1).putLogState logReady).put LOG_BOOT 15 0 q.1
      let s3 := if m.torn then s2.logEvt 0 else s2
      let s4 := if m.badrec then (s3.logEvt 1).raiseAll 0x25 LOG_EVT else s3
      let s5 := if s.mem.log.parStart.isSome then s4
        else (if s.flag LOG_CTL 10 then s4.seedLoss m.params else s4).noteStart (s.flag LOG_CTL 10)
      let mark := s5.marker 1 ([PWR_RSTCAUSE, MF_STAT, MF_GEN0, MF_GEN0 + 1, MF_BUILD0, MF_BUILD0 + 1].map fun a => s5.liveReg a)
      let full := 64 ≤ s.mem.log.buf.length
      let s6 := s5.modLog fun l => { l with buf := (mark :: l.buf).take 64, lost := if full then l.lost + 1 else l.lost }
      ((if full then (s6.incSat LOG_DROP).logEvt 4 else s6).showLog q.2).logPump.prepareAreas)

/-! ### Saved state (R478, R479) -/

/-- The 1040 bytes of a thermal copy (R478). -/
def State.thermalBytes (s : State) (gen : Nat) : List Nat :=
  let b := [0x53, 0x5A, 0x54, 0x48] ++ leBytes 4 gen ++ leBytes 2 85 ++ List.replicate 6 0 ++
    (List.range 85).flatMap fun j =>
      let x := s.node j
      [x.t1, x.t2, x.t3].flatMap fun t => leBytes 4 (codeOf t).toNat
  b ++ leBytes 4 (crc32 b)

/-- A thermal-state save (R478); it fails without a mounted memory (R481). -/
def State.logSaveTh (s : State) : State :=
  let s0 := s.modDev fun d => { d with sagSave := false }
  if s.logState != logReady then s0.logEvt 3
  else
    let g := s.mem.log.thGen + 1
    let k := 1 - s.mem.log.thSect
    let a := s.addr2 LOG_THBASE0 + 4096 * k
    let b := s.thermalBytes g
    let pages := (List.range 5).flatMap fun i => s.programEntries .thermal (a + 256 * i) ((b.drop (256 * i)).take 256)
    ((s0.modLog fun l => { l with thGen := g, thSect := k }).enqueue pages).useFree 1

/-- SAVETH. -/
def execSaveth (s : State) : Res := .next s.logSaveTh

/-- The loss search of berth `n` has moved since commit (R479). -/
def State.lossMoved (s : State) (n : Berth) : Bool :=
  (s.brd n BF_LSID, s.brd n BF_LSANG) != (s.mem.log.parStart.getD []).getD n.val (0, 0)

/-- The parameter record of berth `n` is programmed at once, after a sector header where one is due; the sector after it is
erased ahead of time (R471, R479). -/
def State.parProgram (s : State) (n : Berth) : State :=
  let l := s.mem.log
  let count := (s.rd LOG_PARSECT).toNat
  let full := decide (64 ≤ l.parSlot)
  let sect := if full then (l.parSect + 1) % count else l.parSect
  let slot := if full then 0 else l.parSlot
  let sseq := if full then l.parSseq + 1 else l.parSseq
  let boot := s.get LOG_BOOT 15 0
  let base := s.addr2 LOG_PARBASE0
  let hdr := if slot = 0 then slotBytes 0x7E 0 boot sseq [] else []
  let record := slotBytes 0x10 0 boot l.parRseq
    ([n.val, 0, 0, 0] ++ leBytes 4 (s.brd n BF_LSID).toNat ++ leBytes 4 (s.brd n BF_LSANG).toNat)
  let ahead := if slot = 0 then s.eraseEntries .param (base + 4096 * ((sect + 1) % count)) else []
  ((s.enqueue (s.programEntries .param (base + 4096 * sect + 64 * slot) (hdr ++ record) ++ ahead)).modLog fun l => { l with
    parSect := sect, parSlot := slot + (if slot = 0 then 2 else 1), parSseq := sseq, parRseq := l.parRseq + 1 }).useFree 1

/-- Parameter records (R479): one for each berth whose loss search has moved since commit. -/
def State.logSavePar (s : State) : State :=
  if s.logState != logReady then s
  else s.forAll (berthList.filter fun n => s.lossMoved n) fun s n => s.parProgram n

/-- SAVEPAR. -/
def execSavepar (s : State) : Res := .next s.logSavePar

/-! ### Trace bursts (R476, R477) -/

/-- Channels of LOG_TRCFG.CHMASK. -/
def State.trChannels (s : State) : Nat := ((List.range 8).filter fun k => s.flag LOG_TRCFG k).length
/-- NSAMP. -/
def State.trNsamp (s : State) : Nat := if s.trChannels = 0 then 0 else 1024 / s.trChannels

/-- A trigger (R476): ignored, with TRMISS, until the last burst has entered the buffer whole. -/
def State.logTrig (s : State) (src : Nat) : State :=
  let t := s.mem.log.trace
  if s.trChannels = 0 then s
  else if t.trig.isSome then s.logEvt 5
  else
    let n := s.trNsamp
    s.modLog fun l => { l with trace := { t with
      trig := some (s.tide.now, src), left := n * (8 - s.get LOG_TRCFG 10 8) / 8 } }

/-- TRIG: the host's trigger, or an event taken that qualifies (R476). -/
def execTrig (event : Option (Fin 256)) (s : State) : Res :=
  .next (match event with
    | none => s.logTrig 0xFF
    | some k =>
        if s.coll.pend.any fun p => p.src == k.val && p.affected.getLsbD (s.get LOG_TRCFG 17 14) &&
            decide (s.get LOG_TRCFG 13 11 ≤ p.sev) then s.logTrig k.val
        else s)

/-- Samples packed 18 bits each into the bytes of a payload (R477). -/
def packSamples (l : List Word) : List Nat :=
  leBytes 52 (l.reverse.foldl (fun m w => m * 2 ^ 18 + w.toNat) 0)

/-- Groups of 23 samples. -/
def groups23 : Nat → List Word → List (List Word)
  | 0, _ => []
  | k + 1, l => if l.isEmpty then [] else l.take 23 :: groups23 k (l.drop 23)

/-- The records of the frozen burst (R477). -/
def State.traceBurst (s : State) : List LogRec :=
  let t := s.mem.log.trace
  let n := s.trNsamp
  let total := s.trChannels * n
  let smp := (t.samples.take total ++ List.replicate (total - t.samples.length) 0).reverse
  let recs := groups23 45 smp
  let ts := t.times.take n
  let mean := match ts with
    | a :: _ :: _ => since a (ts.getLastD a) / (ts.length - 1)
    | _ => 0
  let g := t.trig.getD (0, 0xFF)
  { typ := 2, pay := leBytes 8 g.1 ++ [g.2, s.get LOG_TRCFG 17 14, s.get LOG_TRCFG 7 0, 0] ++
      leBytes 2 (n - n * (8 - s.get LOG_TRCFG 10 8) / 8) ++ leBytes 2 n ++ leBytes 4 mean ++ [recs.length] } ::
    recs.map fun r => { typ := 3, pay := packSamples r }

/-- TRACE_FREEZE: the samples after the trigger are recorded (R476). -/
def execTraceFreeze (s : State) : Res :=
  .next (
    let t := s.mem.log.trace
    if t.trig.isSome && t.left = 0 && !t.frozen then
      s.modLog fun l => { l with trace := { t with frozen := true, burst := s.traceBurst } }
    else s)

/-- TRACE_ENTER_BUFFER: records of the burst enter while 16 slots are free (R476). -/
def execTraceEnterBuffer (s : State) : Res :=
  .next (
    let t := s.mem.log.trace
    if !t.frozen || s.logFree < 16 then s
    else
      let k := s.logFree - 15
      let rest := t.burst.drop k
      (s.modLog fun l => { l with
        buf := l.buf ++ t.burst.take k
        trace := if rest.isEmpty then {} else { t with burst := rest } }).logPump)

/-! ### Entries of the memory port (R459 to R464) -/

/-- An entry fails (R463): 0 RANGE, 1 TIMEOUT, 2 VIO. The first-error record names the host, the loader or the logbook. -/
def State.failEntry (s : State) (e : MemEntry) (why : Nat) : State :=
  let own := e.job.ofLog
  let s1 := ((s.dropEntry e).setb MP_EVT why).raise
    { src := 0x24, affected := s.allBerths, acc := 4
      master := if e.job = .host then 1 else if own then 0 else 3
      kind := if own then 1 else 2
      adr := if own then e.adr else 0 }
  match e.job with
  | .host => s1.put MP_HSTAT 2 0 (2 + why)
  | .page => (((s1.endJob .page).modLog fun l => { l with prog := 0, slot := (l.slot / 4 + 1) * 4 }).showLog
      (s.addr2 LOG_RSEQ0)).logWfail.logPump.logSettleOff
  | .prepare => ((s1.endJob .prepare).modLog fun l => { l with prep := .none, seen := none }).logWfail.logSettleOff
  | .thErase => (s1.endJob .thErase).logWfail.logSettleOff
  | .thermal =>
      ((s1.endJob .thermal).modLog fun l => { l with thGen := l.thGen - 1, thSect := 1 - l.thSect }).logWfail.logEvt 3 |>.logSettleOff
  | .param => (s1.endJob .param).logWfail.logSettleOff
  | .loader | .reload => (s1.endJob e.job).modLoad fun x => { x with lost := true }
  | .head | .sector | .thRead | .parRead =>
      ((s1.endJobs MemJob.ofMount).modLog fun l => { l with mount := { l.mount with lost := true } }).logSettleOff

/-- Every entry that waits or runs fails with VIO (R80, R463). -/
def State.failAllVio (s : State) : State :=
  (s.mem.queue ++ s.mem.wait).foldl (fun s e => if (s.mem.queue ++ s.mem.wait).contains e then s.failEntry e 2 else s) s

/-- The incoming words of a run of the host entry go into the buffer (R464). -/
def State.hostWords (s : State) (e : MemEntry) (incoming : List Nat) : State :=
  s.wrs ((e.words incoming).zipIdx.map fun p => (MP_HBUF0 + e.out.length + p.2, BitVec.ofNat 18 p.1))

/-- An entry completes with its incoming words (R464); after a thermal save the other sector is erased (R478); what the
loader and the mount read is kept, and a slot's image that is whole is staged (R123). -/
def State.completeEntry (s : State) (e : MemEntry) (incoming : List Nat) : State :=
  let s1 := s.dropEntry e
  match e.job with
  | .host => (s1.hostWords e incoming).put MP_HSTAT 2 0 1
  | .thermal => if s1.inMem (· == .thermal) then s1 else s1.eraseThermal.logSettleOff
  | .loader =>
      let s2 := s1.takeRead .loader (s.load.cands.headD 0) (e.words incoming)
      if s.mfState = mfSlot then (match s2.image .loader with | some b => s2.stageImage b | none => s2) else s2
  | .reload => s1.takeRead .reload ((s.dock.reload.map (·.2)).getD 0) (e.words incoming)
  | .prepare => if e.nin = 4096 then (s1.sectorSeen (e.words incoming)).logSettleOff else s1.logSettleOff
  | .head | .sector | .thRead | .parRead => (s1.mountRead e.job (e.words incoming)).logSettleOff
  | _ => s1.logSettleOff

/-- The first entry that may start: not waiting between polls, and first on its select (R461). -/
def startable : List Nat → List MemEntry → Option MemEntry
  | _, [] => none
  | sels, e :: r =>
      if sels.contains e.sel then startable sels r
      else if e.between then startable (e.sel :: sels) r
      else some e

/-- The entry `e`, at its first place, goes on the wire. -/
def putOnWire (e : MemEntry) : List MemEntry → List MemEntry
  | [] => []
  | x :: r => if x = e then { x with wire := true, ran := true } :: r else x :: putOnWire e r

/-- MEMORY_ENTRY_START (R460, R461, R463): an entry of an unusable select fails; one with count 0 completes at once. -/
def execMemoryEntryStart (s : State) : Res :=
  .next (
    if s.mem.docked || !s.dev.vioOk || !s.awake || s.mem.queue.any (·.wire) then s
    else match startable [] s.mem.queue with
      | none => s
      | some e =>
          if !s.selOk e.sel then s.failEntry e 0
          else if e.out.length + e.nin = 0 then s.completeEntry e []
          else s.modMem fun m => { m with queue := putOnWire e m.queue })

/-- MEMORY_ENTRY_COMPLETE (R459, R462, R464): a poll whose last word does not match waits for its next run; a host entry's
words reach the buffer at each run. -/
def execMemoryEntryComplete (incoming : List Nat) (s : State) : Res :=
  .next (match s.mem.queue.find? (·.wire) with
    | none => s
    | some e =>
        let again := match e.poll with
          | some (m, v, _) => (incoming.getD (e.nin - 1) 0 % 256) &&& m != v
          | none => false
        if again then
          (if e.job = .host then s.hostWords e incoming else s).modMem fun q => { q with
            queue := q.queue.map fun x => if x.wire then { x with wire := false, between := true } else x }
        else s.completeEntry e incoming)

/-- POLL_RETRY: 5 µs after a run that did not match, the poll of a select may run again (R462). Entries of one select run one
at a time, so at most one of them is between two runs. -/
def execPollRetry (sel : Fin 4) (s : State) : Res :=
  .next (s.modMem fun m => { m with queue := m.queue.map fun x =>
    if x.between && x.sel == sel.val then { x with between := false } else x })

/-- POLL_TIMEOUT: the poll of a select that has begun has not matched within POLLT (R462), whether it runs, waits for its next
run or waits for the wire. -/
def execPollTimeout (sel : Fin 4) (s : State) : Res :=
  .next (match s.mem.queue.find? fun e => e.poll.isSome && e.ran && e.sel == sel.val with
    | none => s
    | some e => s.failEntry e 1)

/-- MP_HCMD.GO: the host entry joins the queue (R464). Its buffer words below WLEN bits are sent. -/
def State.hostGo (s : State) : State :=
  let wlen := s.get MP_HENT0 4 0
  let nout := s.get MP_HENT1 7 0
  s.enqueueHost {
    job := .host, sel := s.get MP_HENT0 6 5, wlen := wlen, hold := s.flag MP_HENT0 7
    out := (List.range nout).map fun i => (s.rd (MP_HBUF0 + i)).toNat % 2 ^ wlen
    nin := s.get MP_HENT2 7 0
    poll := if s.flag MP_HENT0 8 then some (s.get MP_HPOLL 15 8, s.get MP_HPOLL 7 0, s.get MP_HPOLLT 11 0) else none }

/-- The GO write fails (R464). -/
def State.goFails (s : State) : Bool :=
  let wlen := s.get MP_HENT0 4 0
  decide (144 < s.get MP_HENT1 7 0 + s.get MP_HENT2 7 0) || wlen < 8 || 18 < wlen ||
  s.inMem (· == .host) || s.mfState ≤ mfSlot || s.logState == logDocked

end Sys2Proof.Machine
end

