-- ==== Sys2Proof/Machine/Demand.lean ====
section
/-! DEFINITION. Demand inputs, curves and the ramp (chapter 10). -/

namespace Sys2Proof.Machine

/-- A source delivers a value (R312, R313): it joins the average, and the loss time starts again. -/
def State.deliver (s : State) (n : Berth) (d : Nat) : State :=
  s.modDem n fun q => { q with
    vals := (min d 0x10000 :: q.vals).take 8, fresh := true, got := true, lossMs := 0, edges := 0 }

/-- A BADPER or BAND event (R314, R316, R320). -/
def State.demandEvt (s : State) (n : Berth) (bit : Nat) : State :=
  (s.bset n BD_EVT bit).modDem n fun q => { q with broken := true, got := false }

/-- SRC, INV, STEADY and MCHAN as the chain uses them: a write takes effect at the next evaluation (R318). -/
def State.demCtl (s : State) (n : Berth) : Word := (s.berth n).dem.old.getD (s.brd n BD_CTL)
/-- BD_CTL.SRC in effect. -/
def State.demSrc (s : State) (n : Berth) : Nat := bits (s.demCtl n) 1 0
/-- BD_CTL.INV in effect. -/
def State.demInv (s : State) (n : Berth) : Bool := (s.demCtl n).getLsbD 4

/-- DMD_EDGE (R314, R317): an edge on DMDn at a tick of the present tide period. -/
def execDmdEdge (n : Berth) (level : Bool) (tick : Fin 256) (s : State) : Res :=
  let t := s.tick + tick.val
  let q := (s.berth n).dem
  let active := level != s.demInv n
  let s0 := s.modDem n fun q => { q with level := level }
  .next (
    if !s.inService || s.outOfUse n || s.demSrc n != 0 then s0
    else
      let s1 := s0.modDem n fun q => { q with edges := q.edges + 1 }
      if !active then
        s1.modDem n fun q => { q with actLen := match q.actAt with | some a => some (t - a) | none => none }
      else
        let s2 := match q.actAt with
          | none => s1
          | some a =>
              let P := t - a
              let s' := s1.bwr n BD_DMDPER (BitVec.ofNat 18 (min (P / 5120) 0x3FFFF))
              if s.bnat n BD_PMIN * 5120 ≤ P ∧ P ≤ s.bnat n BD_PMAX * 5120 then
                match q.actLen with
                | some k => s'.deliver n (rdiv (k * 65536) P).toNat
                | none => s'
              else s'.demandEvt n 2
        s2.modDem n fun q => { q with actAt := some t, actLen := none })

/-- DMD_CONVERSION: one of the eight conversions of the millisecond (R316). -/
def execDmdConversion (n : Berth) (mv : Nat) (s : State) : Res :=
  .next (
    if !s.inService || s.outOfUse n || s.demSrc n != 1 then s
    else s.modDem n fun q => { q with adc := (mv :: q.adc).take 8 })

/-- The demand value of a voltage (R316): ties toward plus infinity; a VHI below VLO gives a falling map. -/
def analogMap (v lo hi : Int) : Nat :=
  if lo < hi then (clampI (rdiv ((v - lo) * 65536) (hi - lo)) 0 0x10000).toNat
  else if hi < lo then (clampI (rdiv ((lo - v) * 65536) (lo - hi)) 0 0x10000).toNat
  else 0

/-- A write of SRC, INV, STEADY or MCHAN takes effect (R318): what the old source delivered or converted counts no more,
and a host demand that waited for the first evaluation is delivered when the host is the source (R331). -/
def State.demSource (s : State) (n : Berth) : State :=
  let new := s.brd n BD_CTL
  let s1 := match (s.berth n).dem.old with
    | none => s
    | some o => s.modDem n fun q =>
        let same := bits o 1 0 = bits new 1 0
        { q with
          old := none
          vals := if same then q.vals else [], adc := if same then q.adc else [], got := same && q.got
          actAt := if same ∧ bits o 4 4 = bits new 4 4 then q.actAt else none
          actLen := if same ∧ bits o 4 4 = bits new 4 4 then q.actLen else none }
  if !(s.berth n).dem.hostPend then s1
  else
    let s2 := s1.modDem n fun q => { q with hostPend := false }
    if bits new 1 0 = 2 then s2.deliver n (s.bget n BD_HDEM 16 0) else s2

/-- Capture (R313 to R317): the analog mean, whose rounding is free, and a held level of SRC 0 with STEADY. -/
def State.demCapture (s : State) (n : Berth) : State :=
  let q := (s.berth n).dem
  let src := s.demSrc n
  if src = 1 then
    if q.adc = [] then s
    else
      let v := (s.roundFree (q.adc.foldl (· + ·) 0 : Nat) q.adc.length).toNat
      let s1 := ((s.bwr n BD_DMDV (BitVec.ofNat 18 v)).modDem n fun q => { q with adc := [] }).useFree 1
      if s.bnat n BD_BANDLO ≤ v ∧ v ≤ s.bnat n BD_BANDHI then
        s1.deliver n (analogMap v (s.bnat n BD_VLO) (s.bnat n BD_VHI))
      else s1.demandEvt n 3
  else if src = 0 && (s.demCtl n).getLsbD 5 && decide (s.bnat n BD_LOSST ≤ q.lossMs) && decide (q.edges ≤ 1) then
    s.deliver n (if q.level != s.demInv n then 0x10000 else 0)
  else s

/-- The averaged value of the source (R315): pin sources average the last 2^AVG values, rounded down. -/
def State.demAverage (s : State) (n : Berth) : Option Nat :=
  let q := (s.berth n).dem
  let l := if s.demSrc n ≤ 1 then q.vals.take (2 ^ s.bget n BD_CTL 3 2) else q.vals.take 1
  if l = [] then none else some (l.foldl (· + ·) 0 / l.length)

/-- Loss handling (R315, R317 to R320). -/
def State.demLoss (s : State) (n : Berth) : State :=
  let q := (s.berth n).dem
  let losst := s.bnat n BD_LOSST
  let due := decide (losst ≤ q.lossMs) && !(losst == 0 && 2 ≤ s.demSrc n)
  let avg := s.demAverage n
  let s0 := match avg with | some a => s.bwr n BD_CAP (BitVec.ofNat 18 a) | none => s
  if !s.bflag n BD_STAT 0 then
    if due then
      ((((s0.bset n BD_STAT 0).bset n BD_EVT 0).bwr n BD_DEM (BitVec.ofNat 18 (s.bget n BD_FALLBK 16 0))).raiseBerth n 7).modDem
        n fun q => { q with vals := [], restMs := none }
    else match avg with
      | some a => s0.bwr n BD_DEM (BitVec.ofNat 18 a)
      | none => s0
  else
    let r := if q.broken || due then (if q.got then some 0 else none)
      else match q.restMs with
        | some m => some (m + 1)
        | none => if q.got then some 0 else none
    let s1 := s0.modDem n fun q => { q with restMs := r }
    match r, avg with
    | some m, some a =>
        if s.bnat n BD_RESTT ≤ m then
          (((s1.bclr n BD_STAT 0).bset n BD_EVT 1).bwr n BD_DEM (BitVec.ofNat 18 a)).modDem n
            fun q => { q with restMs := none }
        else s1
    | _, _ => s1

/-- Hysteresis (R292, R322, R331). -/
def State.demHyst (s : State) (n : Berth) : State :=
  let d := s.bget n BD_DEM 16 0
  let st := s.bst n
  if s.bget n BD_ON 16 0 ≤ d then s.bset n BD_STAT 1
  else if d < s.bget n BD_OFF 16 0 then
    let s1 := (s.bclr n BD_STAT 1).restart n
    if st = stUnmooring ∨ st = stDrydock then s1 else s1.stopRequest n
  else s

/-- Segments of the curve from point `k` on (R324). -/
def curveGo (x y : Nat → Int) (d : Int) (last : Int) : Nat → Nat → Int
  | 0, _ => last
  | m + 1, k =>
      if x k ≤ d ∧ d < x (k + 1) then y k + ((y (k + 1) - y k) * (d - x k)).tdiv (x (k + 1) - x k)
      else curveGo x y d last m (k + 1)

/-- The curve output of the active points (R324, R325). -/
def State.curve (s : State) (n : Berth) (d : Nat) : Int :=
  let np := s.bget n BD_CCTLA 4 0
  let x : Nat → Int := fun k => s.bnat n (BD_CXA0 + k)
  let y : Nat → Int := fun k => s.bint n (BD_CYA0 + k)
  if !s.bflag n BD_CCTLA 5 then d
  else if np = 0 then 0
  else if (d : Int) < x 0 then y 0
  else curveGo x y d (y (np - 1)) (np - 1) 0

/-- Clamp of the curve output in speed mode by a derate (R400) and by the trial speed (R546); in positioner mode they act
on the speed of the move. -/
def State.targetClamp (s : State) (n : Berth) (y : Int) : Int :=
  if s.bflag n BD_CTL 17 then y else
  let y1 := if s.derated n then clampI y (-(s.bnat n BE_DERLIM : Int)) (s.bnat n BE_DERLIM) else y
  if s.bst n = stSeaTrial then
    let m : Int := (s.prd 0xC41).toNat
    clampI y1 (-m) m
  else y1

/-- Direction and ramp in speed mode (R327 to R329). -/
def State.demRamp (s : State) (n : Berth) (y : Int) : State :=
  let st := s.bst n
  if st = stRunning ∧ y ≠ 0 ∧ (decide (y < 0) != s.bflag n BD_STAT 2) then
    ((s.bset n BD_STAT 3).bset n BD_EVT 4).stopRequest n
  else if st = stRunning ∨ (st = stSeaTrial ∧ !(s.berth n).start.trialStop) then
    let w := s.bint n BD_WREF
    let rate := if w.natAbs < y.natAbs then s.bnat n BD_ACC else s.bnat n BD_DEC
    let x := rate * 64 + (s.berth n).dem.rem
    let k : Int := (x / 1000 : Nat)
    let w' := if w < y then min y (w + k) else max y (w - k)
    (s.bwr n BD_WREF (wd w')).modDem n fun q => { q with rem := if w' = y then 0 else x % 1000 }
  else s

/-- The position target of a positioner (R330). -/
def State.demPosition (s : State) (n : Berth) (y : Int) : State :=
  let t := y * 2 ^ s.bget n BD_CTL 10 6
  if (s.berth n).dem.lastTgt = some t then s
  else ((s.bwr n BO_PTGT0 (BitVec.ofNat 18 (t % 262144).toNat)).bwr n BO_PTGT1 (wd (t / 262144))).modDem n
    fun q => { q with lastTgt := some t }

/-- With ML_RELAY.EN each evaluation of the relayed berth copies its BD_DEM into ML_DEMV of the channel (R515). -/
def State.demRelay (s : State) (n : Berth) : State :=
  if s.flag ML_RELAY 17 && s.get ML_RELAY 16 13 == n.val then s.put (ML_DEMV0 + s.get ML_RELAY 5 0) 16 0 (s.bget n BD_DEM 16 0)
  else s

/-- DEMAND_EVALUATION (R311): capture, loss handling, hysteresis, curve, direction and ramp. In drydock the chain goes on
without requests and writes neither BD_WREF nor BO_PTGT (R331). -/
def execDemandEvaluation (n : Berth) (s : State) : Res :=
  .next (
    if !s.inService || s.outOfUse n then s
    else
      let s0 := s.modDem n fun q => { q with lossMs := if q.fresh then 0 else q.lossMs + 1, fresh := false }
      let s1 := (((s0.demSource n).demCapture n).demLoss n).demHyst n
      let s2 := s1.modDem n fun q => { q with fresh := false, got := false, broken := false }
      let y := s2.targetClamp n (s2.curve n (s2.bget n BD_DEM 16 0))
      let s3 := (s2.bwr n BD_TGT (wd y)).demRelay n
      if s3.bst n = stDrydock then s3
      else if s3.bflag n BD_CTL 17 then s3.demPosition n y
      else s3.demRamp n y)

/-- A write that changes SRC, INV, STEADY or MCHAN (R315, R318): it clears the loss and any restore and starts the loss
time; what it selects takes effect at the next evaluation. -/
def State.demandSource (s : State) (n : Berth) (v : Word) : State :=
  let now := s.brd n BD_CTL
  let s1 := s.bwr n BD_CTL v
  if bits now 1 0 = bits v 1 0 ∧ bits now 5 4 = bits v 5 4 ∧ bits now 16 11 = bits v 16 11 then s1
  else (s1.bclr n BD_STAT 0).modDem n fun q => { q with
    old := some (s.demCtl n), vals := if s.bflag n BD_STAT 0 then [] else q.vals
    restMs := none, lossMs := 0, fresh := true, edges := 0 }

/-- A host write of BD_HDEM: stored, and delivered when the source is the host (R313, R331); before the first evaluation,
or the one at which the host becomes the source (R318), it is delivered there. -/
def State.hostDemand (s : State) (n : Berth) (v : Word) : State :=
  let s1 := s.bwr n BD_HDEM v
  if !s.inService || s.demSrc n != 2 && s.bget n BD_CTL 1 0 == 2 then s1.modDem n fun q => { q with hostPend := true }
  else if s.demSrc n = 2 then s1.deliver n (bits v 16 0) else s1

/-- Active X values decrease somewhere among the first `np` points (R325). -/
def State.nonMono (s : State) (n : Berth) (np : Nat) : Bool :=
  (List.range (np - 1)).any fun k => decide (s.bnat n (BD_CX0 + k + 1) < s.bnat n (BD_CX0 + k))

/-- APPLY: the edit curve becomes the active curve in one step (R326). -/
def State.applyCurve (s : State) (n : Berth) : State :=
  let np := s.bget n BD_CCTL 4 0
  let s1 := s.wrs ((List.range 32).map fun k => (ba n (BD_CXA0 + k), s.brd n (BD_CX0 + k)))
  ((s1.bput n BD_CCTLA 4 0 np).bput n BD_CCTLA 5 5 (s.bget n BD_CCTL 5 5)).bputb n BD_CCTLA 6 (s.nonMono n np)

end Sys2Proof.Machine
end

