-- ==== Sys2Proof/Machine/Mooring.lean ====
section
/-! DEFINITION. The mooring link (chapter 16): frames, slots, anchor and numbers, chains, tide alignment, and what the
ring carries. -/

namespace Sys2Proof.Machine

abbrev mlBypass : Nat := 0
abbrev mlJoining : Nat := 1
abbrev mlRing : Nat := 2
abbrev mlChain : Nat := 3

/-- ML_STAT.MODE. -/
def State.mlMode (s : State) : Nat := s.get ML_STAT 9 8
/-- Set ML_STAT.MODE. -/
def State.putMlMode (s : State) (v : Nat) : State := s.put ML_STAT 9 8 v
/-- Set a bit of ML_EVT. -/
def State.mlEvt (s : State) (b : Nat) : State := s.setb ML_EVT b
/-- Numbered (ML_NODE.NSTAT 1), or a fixed device in conflict, which keeps its number (R500). -/
def State.numbered (s : State) : Bool := s.get ML_NODE 13 12 == 1 || (s.get ML_NODE 13 12 == 2 && s.flag ML_NODE 14)
/-- Own node number. -/
def State.node? (s : State) : Nat := s.get ML_NODE 8 0
/-- The committed manifest has a mooring section (R486). -/
def State.hasMooring (s : State) : Bool := s.decl.mooring.isSome

/-! ### Frames (R488, R489) -/

/-- Port `p` is docked: its transceiver is idle, and the port counts as dead (R72, R501). -/
def State.portDocked (s : State) : MPort → Bool
  | .a => s.moor.dockA | .b => s.moor.dockB
/-- No frame reaches the device: in BYPASS, or with a docked port A while frames come on that port alone. -/
def State.deaf (s : State) : Bool := s.mlMode == mlBypass || (s.moor.dockA && s.mlMode != mlChain)

/-- Three bytes of an 18-bit word, as R421 feeds them. -/
def wordBytes3 (w : Nat) : List Nat := [w / 65536 % 4, w / 256 % 256, w % 256]

/-- The check word's CRC (R489): MARK, HOPS and the CORR words of TIME count as 0. -/
def frameCrc (typ len src dst : Nat) (pay : List Word) : Nat :=
  let body := pay.zipIdx.map fun p => if typ = 5 ∧ 4 ≤ p.2 then 0 else p.1.toNat
  crc16 ((typ * 16384 + len * 1024 + src) :: dst :: body |>.flatMap wordBytes3)

/-- The frame passes its checks (R489). -/
def frameOk (f : MFrame) : Bool :=
  f.len ≤ 8 && f.typ < 15 && f.pay.length == f.len && f.crc == frameCrc f.typ f.len f.src f.dst f.pay

/-- An own frame (R488, R490). -/
def State.mkFrame (s : State) (typ dst : Nat) (pay : List Word) : MFrame :=
  let src := if s.numbered then s.node? else 0
  { typ := typ, len := pay.length, mark := false, src := src, hops := 0, dst := dst, pay := pay
    crc := frameCrc typ pay.length src dst pay }

/-- A 54-bit or 36-bit value in words, lowest first. -/
def wordsOf (k v : Nat) : List Word := (List.range k).map fun i => BitVec.ofNat 18 (v / 2 ^ (18 * i))
/-- The value of words, lowest first. -/
def ofWords : List Word → Nat
  | [] => 0
  | w :: r => w.toNat + 2 ^ 18 * ofWords r

/-- Payload word `i`. -/
def payWord (f : MFrame) (i : Nat) : Word := f.pay.getD i 0

/-- The device may originate frames of a type (R490, R500): none in BYPASS, unnumbered only CLAIM and ANNOUNCE, in conflict
only ANNOUNCE. -/
def State.maySend (s : State) (typ : Nat) : Bool :=
  s.mlMode != mlBypass && (s.numbered || typ == 1 || typ == 2) && (!s.moor.mute || typ == 2)

/-- The device originates a frame (R490, R500, R503): in CHAIN mode through both ports. -/
def State.originate (s : State) (typ dst : Nat) (pay : List Word) : State :=
  let f := s.mkFrame typ dst pay
  if !s.maySend typ then s
  else if s.mlMode = mlChain then s.modMoor fun m => { m with ownA := m.ownA ++ [f], ownB := m.ownB ++ [f] }
  else s.modMoor fun m => { m with out := m.out ++ [f] }

/-- Place of a type in the order of R492. -/
def sendRank (typ : Nat) : Nat :=
  match typ with
  | 12 => 0 | 13 => 1 | 7 => 2 | 5 => 3 | 8 => 4 | 1 => 5 | 2 => 6 | 3 => 7 | 4 => 8 | 6 => 9 | 10 => 10 | 9 => 11 | _ => 12

/-- The frame to send next: highest in the order of R492, the oldest first. -/
def nextFrame : List MFrame → Option MFrame
  | [] => none
  | f :: r => match nextFrame r with
    | some g => if sendRank g.typ < sendRank f.typ then some g else some f
    | none => some f

/-- A frame is the own one in flight, which returns (R492, R494); CORR of a TIME frame has changed on the way. -/
def State.isOwn (s : State) (f : MFrame) : Bool :=
  match s.moor.flight with
  | some g => f.typ == g.typ && f.src == g.src && f.crc == g.crc && (f.typ == 5 || f.pay == g.pay)
  | none => false

/-! ### Slots (R491 to R493, R495, R497, R505) -/

/-- A frame with a check error on port A (R489, R505). -/
def State.checkError (s : State) : State :=
  let errs := s.tide.now :: s.moor.errs.filter fun t => since s.tide.now t < 2000000
  let s1 := (s.incSat ML_ERRCNT).modMoor fun m => { m with errs := errs }
  if (s.rd ML_ERRLIM).toNat ≤ errs.length then
    ((s1.mlEvt 1).raiseAll 0x29 ML_EVT).modMoor fun m => { m with errs := [] }
  else s1

/-- A device that joins the ring (R495, R498). -/
def State.announceSelf (s : State) : State :=
  let u := wordsOf 2 Config.uid
  if s.numbered then s.originate 2 0 (BitVec.ofNat 18 (s.node? + 512 * s.get ML_NODE 14 14) :: u)
  else s.originate 2 0 (1024#18 :: u)

/-- An own TIME frame as it leaves a port: T0 is the tide time of its delimiter, which follows eight bits of preamble, and
CORR the delay of the segment (R487, R507). -/
def State.stamped (s : State) (f : MFrame) (seg : Nat) : MFrame :=
  if f.typ = 5 then s.mkFrame 5 0 (wordsOf 3 ((s.tide.now + 8) % 2 ^ 54) ++ [0] ++ wordsOf 2 (s.get seg 11 0)) else f

/-- The device fills an empty slot with its next own frame, when none is in flight (R492). -/
def State.fillSlot (s : State) (e : Bool) : State :=
  match s.moor.flight, nextFrame s.moor.out with
  | none, some f =>
      if s.moor.dockB then s else
      let g := s.stamped f ML_SEGDLYB
      s.modMoor fun m => { m with out := m.out.erase f, flight := some g, sent := some ⟨e, some g⟩, echo := false }
  | _, _ => if s.moor.dockB then s else s.modMoor fun m => { m with sent := some ⟨e, none⟩, echo := false }

/-- What a device may change in a frame that it passes on: HOPS, and CORR of a TIME frame, to which it adds `t` ticks
(R488, R491, R507). -/
def passed (f : MFrame) (t : Nat) : MFrame :=
  let corr := wordsOf 2 ((ofWords (f.pay.drop 4) + t) % 2 ^ 36)
  { f with hops := min (f.hops + 1) 511, pay := if f.typ = 5 ∧ f.len = 6 then f.pay.take 4 ++ corr else f.pay }

/-- Ticks that a frame stays in the device, from delimiter in to delimiter out: 15 to 16 bit times in a repeater (R491),
otherwise free. -/
def State.residence (s : State) : Nat :=
  if s.mlMode = mlRing ∧ s.moor.role = .repeater then 3840 + s.freeVal % 257 else s.freeVal

/-- A frame passed on to port B. -/
def State.passB (s : State) (f : MFrame) : MFrame := passed f (s.residence + s.get ML_SEGDLYB 11 0)

/-- A slot that arrives with E set is echoed on port A (R506). -/
def State.echoBurst (s : State) (e : Bool) : State := if e && !s.moor.dockA then s.modMoor fun m => { m with sentEcho := m.sentEcho + 1 } else s

/-- The slot sent on port B: its E bit is the one that ECHO_SLOT asked for, and its contents are given. -/
def State.sendSlot (s : State) (f : Option MFrame) : State :=
  if s.moor.dockB then s else s.modMoor fun m => { m with sent := some ⟨m.echo, f⟩, echo := false }

/-- The device has joined (R495, R498): a numbered one sends ANNOUNCE. -/
def State.joined (s : State) : State := if s.numbered then s.announceSelf else s

/-- SLOT_ARRIVAL on a device that is not the anchor (R491 to R495). A ROLL that an unnumbered device receives goes no
further (R499). -/
def execSlotArrival (sl : MSlot) (s : State) : Res :=
  .next (
    if s.moor.dockA || (s.mlMode != mlJoining && s.mlMode != mlRing) || (s.mlMode = mlRing && s.moor.role != .repeater) then s
    else
      let s0 := s.echoBurst sl.echo
      let s1 := if s.mlMode = mlJoining then
          ((s0.putMlMode mlRing).modMoor fun m => { m with role := .repeater }).joined
        else s0
      match sl.frame with
      | none => s1.fillSlot s.moor.echo
      | some f =>
          let s2 := if frameOk f then s1 else s1.checkError
          let s3 := if s2.isOwn f then s2.modMoor fun m => { m with flight := none } else s2
          if (s2.isOwn f && s2.numbered) || (frameOk f && f.typ = 3 && !s2.numbered) then s3.sendSlot none
          else (s3.sendSlot (some (s3.passB f))).useFree 1)

/-- SLOT_START (R487, R491, R493): the anchor passes on what arrived with MARK set, empties what comes marked or is its
own, and fills an empty slot. One that has heard a higher CLAIM becomes a repeater instead (R496). -/
def execSlotStart (arrived : Option MSlot) (s : State) : Res :=
  .next (
    if s.mlMode != mlRing || s.moor.role = .repeater then s
    else if s.moor.yields then (s.clrb ML_STAT 7).modMoor fun m => { m with role := .repeater, yields := false }
    else
      let arrived := if s.moor.dockA then none else arrived
      let s0 := s.echoBurst ((arrived.map (·.echo)).getD false)
      match arrived.bind (·.frame) with
      | none => s0.fillSlot s.moor.echo
      | some f =>
          let s1 := if frameOk f then s0 else s0.checkError
          let s2 := if s1.isOwn f then s1.modMoor fun m => { m with flight := none } else s1
          if (s1.isOwn f && s1.numbered) || f.mark then s2.sendSlot none
          else (s2.sendSlot (some { s2.passB f with mark := true })).useFree 1)

/-- No delimiter where one was due (R495, R497): with APRI above 0 a provisional anchor, else the device keeps waiting. -/
def State.noSlots (s : State) : State :=
  if 0 < s.get ML_CTL 17 15 then
    ((s.putMlMode mlRing).modMoor fun m => { m with role := .provisional, yields := false }).joined
  else s.putMlMode mlJoining

/-- BYPASS_OPEN (R71, R495). -/
def execBypassOpen (s : State) : Res :=
  .next (
    if s.committed && s.awake && s.hasMooring && !s.dev.bypassOpen then
      (s.modDev fun d => { d with bypassOpen := true }).putMlMode mlJoining
    else s)

/-- JOIN_TIMEOUT: no slot delimiter within 2 ms of joining (R495). -/
def execJoinTimeout (carrier : Bool) (s : State) : Res :=
  .next (if s.mlMode = mlJoining && carrier then s.noSlots else s)

/-- SLOT_LOSS (R497). -/
def execSlotLoss (s : State) : Res :=
  .next (if s.mlMode = mlRing then
      ((s.mlEvt 2).clrb ML_STAT 7).modMoor (fun m => { m with role := .repeater, flight := none, yields := false }) |>.noSlots
    else s)

/-! ### Breaks and chains (R501 to R504) -/

/-- Entry to CHAIN: own waiting frames go to both ports; a device that was joining has joined (R485). -/
def State.enterChain (s : State) : State :=
  let s1 := ((s.putMlMode mlChain).mlEvt 3).modMoor fun m => { m with
    ownA := m.ownA ++ m.out, ownB := m.ownB ++ m.out, out := [], flight := none, probes := 0, ringAt := none }
  if s.mlMode = mlJoining then s1.joined else s1

/-- HEAL goes out on port B, outside any slot (R501). -/
def State.sendHeal (s : State) : State :=
  if s.moor.dockB then s else s.modMoor fun m => { m with sentHeal := m.sentHeal + 1 }

/-- CARRIER_LOSS: no carrier on port A for 1 ms, as on a docked port; the device heads a chain (R501). -/
def execCarrierLoss (s : State) : Res :=
  .next (
    if s.mlMode = mlRing || s.mlMode = mlJoining then
      ((s.setb ML_STAT 6).raiseAll 0x27 ML_STAT).sendHeal.enterChain
    else s)

/-- HEAL: passed on to port B; the device enters CHAIN (R501). -/
def execHeal (s : State) : Res :=
  .next (
    if !s.moor.dockA && (s.mlMode = mlRing || s.mlMode = mlJoining) then (s.sendHeal.enterChain).raiseAll 0x2A ML_EVT
    else s)

/-- PORT_B_DEAD (R502). -/
def execPortBDead (s : State) : Res :=
  .next (if (s.mlMode = mlRing || s.mlMode = mlChain) && !s.flag ML_STAT 5 then
      (s.setb ML_STAT 5).raiseAll 0x28 ML_STAT else s)

/-- The next turn of a port: relayed frames, then own ones in the order of R492, else IDLE; with what then still waits. -/
def State.turnOf (s : State) (relayed own : List MFrame) (seg : Nat) : MFrame × List MFrame × List MFrame :=
  match relayed, nextFrame own with
  | f :: r, _ => (f, r, own)
  | [], some f => (s.stamped f seg, [], own.erase f)
  | [], none => (s.mkFrame 0 0 [], [], own)

/-- The turn that the device sends on a segment (R502, R503). -/
def State.sendTurn (s : State) (p : MPort) : State :=
  match p with
  | .a =>
      let t := s.turnOf s.moor.outA s.moor.ownA ML_SEGDLYA
      s.modMoor fun m => { m with sent := some ⟨false, some t.1⟩, outA := t.2.1, ownA := t.2.2 }
  | .b =>
      let t := s.turnOf s.moor.outB s.moor.ownB ML_SEGDLYB
      s.modMoor fun m => { m with sent := some ⟨false, some t.1⟩, outB := t.2.1, ownB := t.2.2 }

/-- A frame heard in a turn goes on through the other port, unless that segment is dead (R503); LOOP passes only from A to
B, PROBE and IDLE stay on their segment (R490). The time that it waits is free. -/
def State.relay (s : State) (p : MPort) (f : MFrame) : State :=
  if f.typ = 0 || f.typ = 14 || (f.typ = 13 && p == MPort.b) || (f.src = s.node? && s.numbered) then s
  else match p with
    | .a => if s.flag ML_STAT 5 || s.moor.dockB then s
        else (s.modMoor fun m => { m with outB := m.outB ++ [s.passB f] }).useFree 1
    | .b => if s.flag ML_STAT 6 || s.moor.dockA then s
        else (s.modMoor fun m => { m with outA := m.outA ++ [passed f (s.residence + s.get ML_SEGDLYA 11 0)] }).useFree 1

/-- CHAIN_TURN (R502, R503): what the other side sent is stored and passed on, and the device sends its own turn. A turn
heard on a dead port shows that its segment lives. The segment delay that both ends measure from the turns is free (R506). -/
def execChainTurn (p : MPort) (heard : Option MFrame) (s : State) : Res :=
  .next (
    if s.mlMode != mlChain || s.portDocked p then s
    else
      let s1 := match p with
        | .b => (s.clrb ML_STAT 5).put ML_SEGDLYB 11 0 s.freeVal
        | .a => s.put ML_SEGDLYA 11 0 s.freeVal
      let s1 := s1.useFree 1
      let s2 := match heard with
        | none => s1
        | some f => if p == MPort.a && !frameOk f then s1.checkError.relay p f else s1.relay p f
      s2.sendTurn p)

/-- PROBE_TIMER: a tail sends PROBE on its dead port B (R504). -/
def execProbeTimer (s : State) : Res :=
  .next (if s.mlMode = mlChain && s.flag ML_STAT 5 && !s.moor.dockB then
      s.modMoor fun m => { m with sent := some ⟨false, some (s.mkFrame 14 0 [])⟩ }
    else s)

/-- PROBE at a head (R504): after ten in a row the next is answered with an IDLE turn, DEADA clears and LOOP is sent. -/
def execProbe (f : MFrame) (s : State) : Res :=
  .next (
    if s.mlMode != mlChain || !s.flag ML_STAT 6 || s.moor.dockA then s
    else if !frameOk f then s.modMoor fun m => { m with probes := 0 }
    else if s.moor.probes < 10 then s.modMoor fun m => { m with probes := m.probes + 1 }
    else (s.clrb ML_STAT 6).modMoor fun m => { m with
      probes := 0, sent := some ⟨false, some (s.mkFrame 0 0 [])⟩
      ownB := if s.maySend 13 then m.ownB ++ [s.mkFrame 13 0 []] else m.ownB })

/-- LOOP: back at its sender on port A, the ring is whole; RING goes out with a switch time 25 ms ahead (R504). -/
def execLoop (f : MFrame) (s : State) : Res :=
  .next (
    if s.mlMode = mlChain && !s.moor.dockA && frameOk f && s.numbered && f.src = s.node? then
      let t := (s.tide.now + 500000) % 2 ^ 54
      (s.originate 12 0 (wordsOf 3 t)).modMoor fun m => { m with ringAt := some t }
    else s)

/-- The device enters RING at the switch time (R504). -/
def State.ringSwitch (s : State) : State :=
  (((s.putMlMode mlRing).mlEvt 4).put ML_STAT 6 5 0).modMoor fun m => { m with
    ringAt := none, out := m.ownB, ownA := [], ownB := [], outA := [], outB := [], flight := none }

/-- RING: the switch time is taken up, at once when it has passed (R504). -/
def execRing (f : MFrame) (s : State) : Res :=
  .next (
    if s.mlMode != mlChain || !frameOk f then s
    else
      let t := ofWords f.pay
      if since t s.tide.now = 0 || 2 ^ 53 ≤ since t s.tide.now then s.ringSwitch
      else s.modMoor fun m => { m with ringAt := some t })

/-- RING_SWITCH (R504). -/
def execRingSwitch (s : State) : Res :=
  .next (if s.mlMode = mlChain && s.moor.ringAt.isSome then s.ringSwitch else s)

/-! ### The anchor (R496) -/

/-- A rank is higher than another (R496). -/
def Rank.above (a b : Rank) : Bool :=
  if a.timeok != b.timeok then a.timeok
  else if a.apri != b.apri then decide (b.apri < a.apri) else decide (a.uid < b.uid)

/-- This device's rank. -/
def State.rank (s : State) : Rank :=
  { timeok := s.flag ML_NODE 15 && !s.flag TIDE_REFSTAT 3, apri := s.get ML_CTL 17 15, uid := Config.uid }

/-- CLAIM: a lower anchor or provisional anchor becomes a repeater, in RING mode at its next slot boundary; ML_ANCHOR shows
the anchor (R496). -/
def execClaim (f : MFrame) (s : State) : Res :=
  .next (
    let r : Rank := { timeok := (payWord f 0).getLsbD 3, apri := bits (payWord f 0) 2 0, uid := ofWords (f.pay.drop 1) }
    if s.deaf || !frameOk f || r.uid = Config.uid then s
    else
      let show_ (s : State) : State :=
        (s.put ML_ANCHOR 11 0 (r.apri * 512 + f.src)).modMoor fun m => { m with anchorRank := some r }
      if s.moor.role != .repeater then
        if !r.above s.rank then s
        else if s.mlMode = mlRing then show_ (s.modMoor fun m => { m with yields := true })
        else show_ ((s.clrb ML_STAT 7).modMoor fun m => { m with role := .repeater })
      else match s.moor.anchorRank with
        | none => show_ s
        | some a => if r.uid = a.uid || r.above a then show_ s else s)

/-- CLAIM_TIMER: a provisional anchor, an anchor, or a candidate that may claim against it (R496). -/
def execClaimTimer (s : State) : Res :=
  .next (
    let r := s.rank
    let candidate := match s.moor.alignedAt, s.moor.anchorRank with
      | some t, some a => decide (oneSecond ≤ since s.tide.now t) && r.above a
      | _, _ => false
    if r.apri != 0 && (s.moor.role != .repeater || candidate) then
      s.originate 1 0 (BitVec.ofNat 18 (r.apri + 8 * b2n r.timeok) :: wordsOf 2 r.uid)
    else s)

/-- ANCHOR_ELECTED: 50 ms without a higher CLAIM (R496). -/
def execAnchorElected (s : State) : Res :=
  .next (
    if s.moor.role = .provisional && s.mlMode != mlBypass && !s.moor.yields then
      ((s.setb ML_STAT 7).put ML_ANCHOR 11 0 (s.rank.apri * 512 + s.node?)).modMoor fun m =>
        { m with role := .anchor, anchorRank := some s.rank }
    else s)

/-! ### Node numbers (R498 to R500) -/

/-- Bit of a node in ML_TAKEN. -/
def State.putTaken (s : State) (k : Nat) (v : Bool) : State := s.putb (ML_TAKEN0 + k / 18) (k % 18) v

/-- ANNOUNCE (R498, R500). -/
def execAnnounce (f : MFrame) (s : State) : Res :=
  .next (
    let k := bits (payWord f 0) 8 0
    if s.deaf || !frameOk f || ofWords (f.pay.drop 1) = Config.uid || (payWord f 0).getLsbD 10 then s
    else
      let s1 := s.putTaken k true
      if !s.numbered || s.node? != k then s1
      else
        let s2 := ((s1.mlEvt 6).put ML_NODE 13 12 2).raiseAll 0x2D ML_EVT
        if s.flag ML_NODE 14 then s2.modMoor fun m => { m with mute := true } else s2.put ML_NODE 8 0 0)

/-- ANNOUNCE_TIMER (R498). -/
def execAnnounceTimer (s : State) : Res := .next s.announceSelf

/-- TAKEN_EXPIRY (R498). -/
def execTakenExpiry (node : Fin 512) (s : State) : Res := .next (s.putTaken node.val false)

/-- The smallest free number at or above `k`, else the smallest below (R499). -/
def State.freeNode (s : State) (k : Nat) : Option Nat :=
  let free := (List.range 512).filter fun j => !s.flag (ML_TAKEN0 + j / 18) (j % 18)
  match free.find? fun j => k ≤ j with | some j => some j | none => free.head?

/-- The device takes a roll-call number (R499). -/
def State.takeNode (s : State) (k : Nat) : State := (s.put ML_NODE 13 12 1).put ML_NODE 8 0 k

/-- A roll-call begins at the anchor (R499). -/
def State.rollCall (s : State) : State :=
  let s1 := s.setb ML_STAT 4
  if s.numbered then s1.originate 3 0 [0]
  else match s.freeNode 0 with
    | none => (s1.mlEvt 7).raiseAll 0x2D ML_EVT
    | some k => (s1.takeNode k).announceSelf.originate 3 0 [BitVec.ofNat 18 (k + 1)]

/-- ROLL_CALL_START: 100 ms after an ANNOUNCE with REQ 1, at the anchor (R499). -/
def execRollCallStart (s : State) : Res := .next (if s.moor.role = .anchor then s.rollCall else s)

/-- ROLL_FRAME (R499). -/
def execRollFrame (f : MFrame) (s : State) : Res :=
  .next (
    if s.deaf || !frameOk f then s
    else if s.numbered then
      if f.src = s.node? then (s.originate 4 0 [BitVec.ofNat 18 (s.ringSize + 1)]).clrb ML_STAT 4 else s.setb ML_STAT 4
    else match s.freeNode (bits (payWord f 0) 9 0) with
      | none => ((s.setb ML_STAT 4).mlEvt 7).raiseAll 0x2D ML_EVT
      | some k => ((s.setb ML_STAT 4).takeNode k).announceSelf.originate 3 0 [BitVec.ofNat 18 (k + 1)])

/-- ROLLDONE: the roll-call ends (R499). -/
def execRolldone (f : MFrame) (s : State) : Res := .next (if !s.deaf && frameOk f then s.clrb ML_STAT 4 else s)

/-! ### Tide alignment (R506 to R510) -/

/-- ECHO_SLOT: every 10 ms in RING mode one slot carries E (R506). -/
def execEchoSlot (s : State) : Res :=
  .next (if s.mlMode = mlRing then s.modMoor fun m => { m with echo := true } else s)

/-- ECHO_MEASURED: half the round trip, in ticks, internal delays already subtracted (R506). -/
def execEchoMeasured (roundTrip : Nat) (s : State) : Res :=
  .next (if s.mlMode = mlRing then s.put ML_SEGDLYB 11 0 (min (roundTrip / 2) 4095) else s)

/-- TIME_PERIOD: the anchor with TIMEOK 1 sends TIME (R507). -/
def execTimePeriod (s : State) : Res :=
  .next (
    if s.moor.role = .anchor && s.rank.timeok then
      s.originate 5 0 (wordsOf 3 s.tide.now ++ [0] ++ wordsOf 2 (s.get ML_SEGDLYB 11 0))
    else s)

/-- ALIGNED and the level source 0x2B after a TIME frame (R510). -/
def State.alignState (s : State) (ofs : Int) : State :=
  let inside := decide (ofs.natAbs ≤ (s.rd ML_ALIGNLIM).toNat)
  let far := if inside then 0 else s.moor.farRun + 1
  let near := if inside then s.moor.nearRun + 1 else 0
  let s1 := ((s.putb ML_STAT 3 inside).clrb ML_STAT 2).modMoor fun m => { m with
    farRun := far, nearRun := near
    alignedAt := if inside then some (m.alignedAt.getD s.tide.now) else none
    far := if 3 ≤ near then false else if 3 ≤ far then true else m.far }
  if 3 ≤ far && !s.moor.far then s1.raiseAll 0x2B ML_STAT else s1

/-- The correction's change after a TIME frame with offset `ofs`, as a fraction in 2^-16 tick per tide period: it takes out
what the offset has drifted per period since the previous frame, and the offset over the next ML_ALIGNINT (R508; log entry
13). -/
def State.slewChange (s : State) (ofs : Int) : Int × Nat :=
  let a := (s.rd ML_ALIGNINT).toNat * 20000
  match s.tide.lastOfs with
  | some (o, at0) =>
      let e := since s.tide.now at0
      if 0 < e then (-65536 * ((ofs - o) * a + ofs * e), e * a) else (-65536 * ofs, a)
  | none => (-65536 * ofs, a)

/-- TIME (R508, R510): the offset at the arrival of the delimiter, at `tick` of the present tide period; then a step or a
slew. -/
def execTime (f : MFrame) (tick : Fin 256) (s : State) : Res :=
  .next (
    if s.deaf || !frameOk f || !s.flag ML_NODE 15 || (s.numbered && f.src = s.node?) then s
    else
      let here : Int := s.tide.now * 256 + tick.val
      let sent : Int := ofWords (f.pay.take 3) * 256 + bits (payWord f 3) 7 0 + ofWords (f.pay.drop 4)
      let ofs := (here - sent + 2 ^ 61) % 2 ^ 62 - 2 ^ 61
      let s1 := (s.wr ML_OFS (wd (clampI ofs (-131072) 131071))).alignState ofs
      if (s.rd ML_STEPLIM).toNat < ofs.natAbs && (berthList.all fun n => !s.bflag n BP_CTL 0) && s.moor.role != .anchor then
        let st := wordsOf 2 ((-ofs) % 2 ^ 36).toNat
        (((s1.wr ML_STEP0 (st.getD 0 0)).wr 0xB10 (st.getD 1 0)).mlEvt 5).modTide fun t =>
          let x := ((t.now : Int) * 2 ^ 24 + t.phase - ofs * 65536) % 2 ^ 78
          { t with now := (x / 2 ^ 24).toNat, phase := (x % 2 ^ 24).toNat, lastOfs := some (0, (x / 2 ^ 24).toNat) }
      else
        let d := s.slewChange ofs
        (s1.modTide fun t => { t with
          corr := corrOf (t.corr + s.roundFree d.1 d.2), lastOfs := some (ofs, t.now) }).useFree 1)

/-- NOTIME: no TIME frame for 3 x ALIGNINT (R510). -/
def execNotime (s : State) : Res :=
  .next (if s.mlMode != mlBypass && s.flag ML_NODE 15 then
      ((s.setb ML_STAT 2).clrb ML_STAT 3).modMoor fun m => { m with alignedAt := none }
    else s)

/-! ### Demand, faults, ledger, interleave (R511 to R520) -/

/-- A demand of a channel is delivered to every berth that takes it (R514), as master MOOR. -/
def State.demandChannel (s : State) (ch d : Nat) : State :=
  s.forAll berthList fun s n =>
    if s.demSrc n = 3 && bits (s.demCtl n) 16 11 = ch then (s.bput n BD_MDEM 16 0 (min d 0x10000)).deliver n (min d 0x10000)
    else s

/-- Owned channels (ML_DEMOWN0 to ML_DEMOWN3). -/
def State.ownChannels (s : State) : List Nat :=
  (List.range 64).filter fun j => s.flag (ML_DEMOWN0 + j / 18) (j % 18)

/-- Runs of up to seven consecutive channels, from the lowest (R513); `cur` is the present run, latest first. -/
def runsGo : List Nat → List Nat → List (List Nat)
  | cur, [] => if cur.isEmpty then [] else [cur.reverse]
  | cur, c :: r =>
      match cur with
      | [] => runsGo [c] r
      | d :: l => if c = d + 1 ∧ (d :: l).length < 7 then runsGo (c :: d :: l) r else (d :: l).reverse :: runsGo [c] r

/-- DEMAND frames for the owned channels, delivered to the own berths too (R513). -/
def State.sendDemand (s : State) : State :=
  let v (c : Nat) : Word := BitVec.ofNat 18 (s.get (ML_DEMV0 + c) 16 0)
  if !s.maySend 6 then s else
  let s1 := s.forAll (runsGo [] s.ownChannels) fun s l =>
    s.originate 6 0 (BitVec.ofNat 18 (l.headD 0) :: l.map v)
  s1.forAll s.ownChannels fun s' c => s'.demandChannel c (v c).toNat

/-- DEMSEND. -/
def execDemsend (s : State) : Res := .next s.sendDemand

/-- DEMAND (R514). -/
def execDemand (f : MFrame) (s : State) : Res :=
  .next (
    if s.deaf || !frameOk f || (s.numbered && f.src = s.node?) then s
    else s.forAll (f.pay.drop 1).zipIdx fun s p => s.demandChannel (bits (payWord f 0) 5 0 + p.2) (bits p.1 16 0))

/-- FAULT (R517). -/
def execFault (f : MFrame) (s : State) : Res :=
  .next (
    let id := bits (payWord f 0) 7 0
    let ts := ofWords (f.pay.drop 1)
    let sev := bits (payWord f 0) 10 8
    if s.deaf || !frameOk f || !s.flag ML_CTL 9 || (s.numbered && f.src = s.node?) ||
        s.moor.taken.contains (f.src, id, ts) || sev < s.get ML_CTL 5 3 then s
    else
      ((((s.wrs ((wordsOf 3 ts).zipIdx.map fun p => (ML_FRXTS0 + p.2, p.1))).wr ML_FRXSRC
        (BitVec.ofNat 18 (f.src * 512 + sev * 64))).wr ML_FRXSRC2 (BitVec.ofNat 18 (bits (payWord f 0) 13 11 * 256 + id))).mlEvt 0
        |>.modMoor fun m => { m with taken := (f.src, id, ts) :: m.taken }).raise
        { src := 0x2C, affected := s.allBerths, master := 2, adr := ML_FRXTS0 })

/-- The FAULT frame of an event that the collector takes (R516): COPY 0 now, COPY 1 due 1 ms later. -/
def State.sendFault (s : State) (e : Event) (sev react : Nat) : State :=
  let recent := s.moor.lastFault.any fun p => p.1 == e.src && decide (since s.tide.now p.2 < 200000)
  if !s.flag ML_CTL 10 || sev < s.get ML_CTL 8 6 || e.src = 0x2C || recent || !s.maySend 7 then s
  else
    let w (copy : Nat) : Word := BitVec.ofNat 18 (e.src + 256 * sev + 2048 * react + 16384 * copy)
    (s.originate 7 0 (w 0 :: wordsOf 3 e.ts)).modMoor fun m => { m with
      lastFault := putKey m.lastFault e.src (some s.tide.now), copies := m.copies ++ [s.mkFrame 7 0 (w 1 :: wordsOf 3 e.ts)] }

/-- FAULT_COPY: the oldest frame's COPY 1 is sent (R516). -/
def execFaultCopy (s : State) : Res :=
  .next (match s.moor.copies with
    | [] => s
    | f :: r => (s.modMoor fun m => { m with copies := r }).originate 7 0 f.pay)

/-- The sums over the berths of BL_EIN, BL_EREG and BL_EOUT (R519). -/
def State.ledgerSums (s : State) : Nat × Nat × Nat :=
  berthList.foldl (fun a n =>
    (a.1 + s.wide (ba n BL_EIN0) 2, a.2.1 + s.wide (ba n BL_EREG0) 2, a.2.2 + s.wide (ba n BL_EOUT0) 2)) (0, 0, 0)

/-- A LEDGER frame: growth since the previous summary, 36-bit values, and the tide periods elapsed (R519). -/
def State.sendLedger (s : State) : State :=
  if !s.flag ML_CTL 13 || !s.maySend 9 then s
  else
    let n := s.ledgerSums
    let o := s.moor.sums
    let d (a b : Nat) : List Word := wordsOf 2 ((a + 2 ^ 36 - b % 2 ^ 36) % 2 ^ 36)
    (s.originate 9 0 (d n.1 o.1 ++ d n.2.1 o.2.1 ++ d n.2.2 o.2.2 ++ wordsOf 2 (since s.tide.now s.moor.ledAt))).modMoor
      fun m => { m with sums := n, ledAt := s.tide.now }

/-- LEDSEND. -/
def execLedsend (s : State) : Res := .next s.sendLedger

/-- LEDGER: the energies are added into the ring totals, this device's own frames included (R519). -/
def execLedger (f : MFrame) (s : State) : Res :=
  .next (
    if s.deaf || !frameOk f || !s.flag ML_CTL 12 then s
    else s.forAll [0, 1, 2] fun s k =>
      s.putWide (ML_REIN0 + 2 * k) (s.wide (ML_REIN0 + 2 * k) 2 + ofWords ((f.pay.drop (2 * k)).take 2)) 2)

/-- The valid pairs of ML_ILVTX (R511). -/
def State.ilvPairs (s : State) : List Word :=
  (List.range 4).flatMap fun k =>
    if s.flag (ML_ILVTX0 + 2 * k) 17 then [s.rd (ML_ILVTX0 + 2 * k), s.rd (ML_ILVTX0 + 2 * k + 1)] else []

/-- INTERLEAVE: a pair that names this node writes BP_PHASEOFS and arms the berth, as master MOOR (R511). -/
def execInterleave (f : MFrame) (s : State) : Res :=
  .next (
    if s.deaf || !frameOk f || !s.numbered || f.src = s.node? then s
    else s.forAll (List.range 4) fun s k =>
      let p := payWord f (2 * k)
      let b := bits p 12 9
      if f.len < 2 * k + 2 || bits p 8 0 != s.node? then s
      else if h : b < 12 then
        if s.outOfUse ⟨b, h⟩ then s else (s.writeShadow ⟨b, h⟩ 8 (payWord f (2 * k + 1))).strobe ⟨b, h⟩
      else s)

/-- ILVAUTO_OFFSET: automatic offsets as the device takes a node number (R512). -/
def execIlvautoOffset (s : State) : Res :=
  .next (
    if s.flag ML_CTL 11 && s.numbered && s.mlMode != mlBypass then
      s.forAll berthList fun s n =>
        if s.flag ML_ILVMASK n.val && !s.outOfUse n then
          (s.writeShadow n 8 (BitVec.ofNat 18 ((s.rd ML_ILVBASE).toNat + (s.node? * 12 + n.val) * (s.rd ML_ILVSTEP).toNat))).strobe n
        else s
    else s)

/-- A write of ML_CMD (R499, R511, R513, R519, R520). -/
def State.mlCommand (s : State) (v : Word) : State :=
  if !s.hasMooring then s else
  let s1 := if v.getLsbD 0 then s.rollCall else s
  let s2 := if v.getLsbD 1 && s1.dev.bypassOpen then s1.modMoor fun m => { m with sentWake := m.sentWake + 1 } else s1
  let s3 := if v.getLsbD 2 then s2.sendDemand else s2
  let s4 := if v.getLsbD 3 then s3.sendLedger else s3
  if v.getLsbD 4 then s4.originate 10 0 s4.ilvPairs else s4

/-- A write of ML_CMD fails: no mooring section (R486), ROLL without ANCHOR, ILVSEND without a valid pair (R511). -/
def State.mlCommandFails (s : State) (v : Word) : Bool :=
  (s.committed && !s.hasMooring) || (v.getLsbD 0 && !s.flag ML_STAT 7) || (v.getLsbD 4 && s.ilvPairs.isEmpty)

end Sys2Proof.Machine
end

