-- ==== Sys2Proof/Machine/Collector.lean ====
section
/-! DEFINITION. The fault collector (chapter 13): decisions, the first-error record, broken pairs and lines, clearing. -/

namespace Sys2Proof.Machine

/-! ### Classification (R395) and reaction (R397) -/

/-- Effective severity of a source under the map and FC_CTL.MODE now in force. A CLASS above 2 in tiered mode cannot occur
(R396). -/
def State.severity (s : State) (src : Nat) : Nat :=
  let c := s.pget (FC_MAP + src) 5 3
  if s.pflag FC_CTL 0 then (match c with | 0 => 1 | 1 => 4 | _ => 7) else c

/-- The map's reaction code. -/
def State.reaction (s : State) (src : Nat) : Nat := s.pget (FC_MAP + src) 2 0

/-- A pending source takes a further event: the higher severity and reaction, on the union of the sets (R399). -/
def Pend.join (a b : Pend) : Pend :=
  { a with sev := max a.sev b.sev, react := max a.react b.react, affected := a.affected ||| b.affected,
           forced := max a.forced b.forced, fscope := a.fscope ||| b.fscope }

/-- Insert a pending source into the rising list. -/
def insertPend (p : Pend) : List Pend → List Pend
  | [] => [p]
  | x :: r => if x.src = p.src then x.join p :: r else if p.src < x.src then p :: x :: r else x :: insertPend p r

/-- What the collector forms from an event (R398, R399). -/
def State.formed (s : State) (e : Event) : Pend :=
  { src := e.src, sev := s.severity e.src, react := s.reaction e.src, affected := e.affected, forced := e.forced, fscope := e.fscope }

/-- Insert an event into a list that rises by source ID. -/
def insertEvent (e : Event) : List Event → List Event
  | [] => [e]
  | x :: r => if e.src ≤ x.src then e :: x :: r else x :: insertEvent e r

/-- The event that an EMPTY record captures: the highest severity, then the lowest source ID (R407). -/
def State.firstOf (s : State) : List Event → Option Event
  | [] => none
  | e :: r => match s.firstOf r with
    | some f => if s.severity e.src < s.severity f.src then some f else some e
    | none => some e

/-- A source bit in FC_MERGE and one more in the count (R408). -/
def FirstErr.merge (f : FirstErr) (src : Nat) : FirstErr :=
  { f with merged := if f.merged.contains src then f.merged else src :: f.merged, count := min (f.count + 1) 255 }

/-- The record after a decision that takes `l` (R405 to R408). -/
def State.recordAfter (s : State) (l : List Event) : Option FirstErr :=
  let l := l.filter fun e => decide (s.pget FC_CTL 6 4 ≤ s.severity e.src)
  let rest (f : FirstErr) (l : List Event) : FirstErr := l.foldl (fun f e => f.merge e.src) f
  match s.coll.first with
  | some f => some (rest f l)
  | none => (s.firstOf l).map fun e => rest { ev := e, sev := s.severity e.src } (l.erase e)

/-- One more event of a berth source in its BE_CNT field, saturating at 511. -/
def State.countBerth (s : State) (src : Nat) : State :=
  if h : 0x80 ≤ src ∧ (src - 0x80) / 8 < 12 then
    let n : Berth := ⟨(src - 0x80) / 8, h.2⟩
    let k := (src - 0x80) % 8
    let o := BE_CNT01 + k / 2
    let lo := 9 * (k % 2)
    s.bput n o (lo + 8) lo (min (s.bget n o (lo + 8) lo + 1) 511)
  else s

/-- A trace burst will follow the event: it is the trigger of the trace unit (R467, R476). -/
def State.isTrigger (s : State) (e : Event) : Bool :=
  s.trChannels != 0 && s.mem.log.trace.trig.isNone && e.affected.getLsbD (s.get LOG_TRCFG 17 14) &&
    decide (s.get LOG_TRCFG 13 11 ≤ s.severity e.src)

/-- What the collector writes down of one event that it takes: its count, its record in the logbook when the reaction is log or
above, and its FAULT frame (R397, R468, R516). -/
def State.report (s : State) (e : Event) (was : Option FirstErr) : State :=
  let sev := s.severity e.src
  let code := max (s.reaction e.src) (if e.fscope = 0 ∧ e.forced = 0 then 0 else e.forced)
  let first := was.isNone && (match s.coll.first with | some f => f.ev.src == e.src | none => false)
  let merged := !first && decide (s.pget FC_CTL 6 4 ≤ sev)
  let flags := b2n first + 2 * b2n merged + 4 * b2n (e.forced != 0) + 8 * b2n (s.isTrigger e)
  let s1 := s.countBerth e.src
  let s2 := if code = 0 then s1 else s1.logPush (s1.eventRecord e sev code flags)
  s2.sendFault e sev code

/-- The stop requests of code 3 that a decision brings (R399). A hardware safe state acts through the safe-state line, which
`State.safeLine` gives; a berth that it reaches at the same decision trips first, and a stop then adds nothing (R274, R402). -/
def State.stopAll (s : State) (l : List Event) : State :=
  s.forAll berthList fun s' n =>
    if !s.safeLine n && l.any fun e => s.pendOn (s.formed e) n == 3 then s'.stopRequest n else s'

/-- What a decision takes (R389, R399, R404, R405): every raised pair. -/
def State.take (s : State) (l : List Event) : State :=
  s.modColl fun c => { c with
    raised := []
    pend := l.foldl (fun m e => insertPend (s.formed e) m) c.pend
    evcnt := (c.evcnt + l.length) % 2 ^ 36
    first := s.recordAfter l }

/-- COLLECTOR_DECISION: every raised pair is taken at once (R389, R404); records and frames hold what stood before any reaction
acts (R468). -/
def execCollectorDecision (s : State) : Res :=
  .next (
    let l := s.coll.raised.foldl (fun m e => insertEvent e m) []
    ((s.take l).forAll l fun s' e => s'.report e s.coll.first).stopAll l)

/-! ### Sources (R392 to R394) -/

/-- The set of affected berths of a source whose event comes without one of its own: the Berths column of R392 and R554,
and every berth for a source whose set its detector would give (log entry 31). -/
def State.srcAffected (s : State) (src : Nat) : BitVec 12 :=
  if src = 0x40 ∨ src = 0x44 ∨ src = 0x48 then s.quayMask .north
  else if src = 0x41 ∨ src = 0x45 ∨ src = 0x49 then s.quayMask .south
  else if h : 0x80 ≤ src ∧ (src - 0x80) / 8 < 12 then s.berthMask ⟨(src - 0x80) / 8, h.2⟩
  else s.allBerths

/-- The status register in which the detector of a source records its events (R406), 0 where there is none. -/
def srcStatus (src : Nat) : Nat :=
  if src ≤ 4 then PWR_FLAGS
  else if src = 0x11 then GLB_SKEW
  else if src = 0x12 then TIDE_REFSTAT
  else if src = 0x13 then 0x204
  else if 0x14 ≤ src ∧ src ≤ 0x17 then LE_EVT
  else if 0x20 ≤ src ∧ src ≤ 0x23 then HP_EVT
  else if src = 0x24 then MP_EVT
  else if src = 0x25 ∨ src = 0x26 then LOG_EVT
  else if src = 0x27 ∨ src = 0x28 ∨ src = 0x2B then ML_STAT
  else if src = 0x29 ∨ src = 0x2A ∨ src = 0x2C ∨ src = 0x2D then ML_EVT
  else if 0x30 ≤ src ∧ src ≤ 0x38 then TH_EVT
  else if 0x40 ≤ src ∧ src ≤ 0x42 then PWR_VGDFLAGS
  else if src = 0x43 then PWR_PUMP
  else if src = 0x44 ∨ src = 0x45 then PWR_BRKSTAT
  else if src = 0x48 then ba 0 BP_TRIP
  else if src = 0x49 then ba 6 BP_TRIP
  else if src = 0x4B then ta 1 TD_EVT
  else if src = 0x4C then ta 2 TD_EVT
  else if 0x46 ≤ src ∧ src ≤ 0x4E then ta 0 TD_EVT
  else if h : 0x80 ≤ src ∧ (src - 0x80) / 8 < 12 then ba ⟨(src - 0x80) / 8, h.2⟩ BE_PEND
  else if 0xE0 ≤ src ∧ src ≤ 0xE5 then MF_STAT
  else if src = 0xE6 then MF_KEYSTAT
  else if src = 0xE7 ∨ src = 0xE8 ∨ src = 0xEC then CS_STAT
  else if 0xE9 ≤ src ∧ src ≤ 0xEB then DD_RES
  else 0

/-- The event of a source whose pair itself is driven, by a break or by the factory facility. Sources 0x30 and 0x1A carry
their forced reaction in every event (R398). -/
def State.pairEvent (s : State) (src : Nat) : Event :=
  let f := src == 0x30 || src == 0x1A
  { src := src, affected := s.srcAffected src, forced := if f then 6 else 0, fscope := if f then s.allBerths else 0
    adr := srcStatus src, kind := if srcStatus src = 0 then 2 else 0 }

/-- Insert a number into a rising list. -/
def insertNat (k : Nat) : List Nat → List Nat
  | [] => [k]
  | x :: r => if k < x then k :: x :: r else if k = x then x :: r else x :: insertNat k r

/-! ### Broken pairs and lines (R390, R391) -/

/-- IDs 0x06 to 0x0F, which are never raised (R79). -/
def neverRaised (src : Nat) : Bool := 6 ≤ src && src < 16

/-- A pair breaks: 0x18 with KIND 3 and the pair's source ID, the pair's own source once, and the pair is ignored (R390). -/
def State.breakPair (s : State) (src : Nat) : State :=
  if !s.awake || s.coll.broken.contains src then s
  else
    let s1 := s.modColl fun c => { c with idle := c.idle.filter (· != src) }
    let s2 := s1.raise { src := 0x18, affected := s.allBerths, kind := 3, adr := src }
    (if neverRaised src then s2 else s2.raise (s.pairEvent src)).modColl fun c => { c with broken := insertNat src c.broken }

/-- BROKEN_PAIR. No reserved ID is raised in the field (R393). -/
def execBrokenPair (src : Fin 256) (s : State) : Res := .next (if reservedSource src.val then s else s.breakPair src.val)

/-- A safe-state line breaks: the berth trips with the FAULT cause and stays tripped until reset (R391). -/
def State.breakLine (s : State) (n : Berth) : State :=
  if !s.awake || s.coll.brokenL.getLsbD n.val then s
  else
    ((s.modColl fun c => { c with brokenL := c.brokenL ||| (1#12 <<< n.val) }).raise
      { src := 0x18, affected := s.allBerths, kind := 3, adr := 0x100 + n.val }).trip n causeFault

/-- BROKEN_SAFE_STATE_LINE. -/
def execBrokenSafeStateLine (n : Berth) (s : State) : Res := .next (s.breakLine n)

/-! ### Clearing (R401, R409, R412) -/

/-- A level source whose condition still holds is raised again (R401). -/
def State.reraise (s : State) (src : Nat) : State :=
  let lvl (c : Bool) (r : State) : State := if c then r else s
  match src with
  | 0x00 => lvl (s.flag PWR_STAT 8) (s.raiseAll src PWR_FLAGS)
  | 0x01 => lvl (s.flag PWR_STAT 7) (s.raiseAll src PWR_FLAGS)
  | 0x02 => lvl (!s.dev.vioOk) (s.raiseAll src PWR_FLAGS)
  | 0x03 => lvl (s.flag PWR_STAT 5) (s.raiseAll src PWR_FLAGS)
  | 0x04 => lvl (s.get PWR_STAT 4 1 != 0) (s.raiseAll src PWR_FLAGS)
  | 0x11 => lvl (s.rd GLB_SKEWNOW != 0) (s.raiseAll src GLB_SKEW)
  | 0x27 => lvl (s.flag ML_STAT 6) (s.raiseAll src ML_STAT)
  | 0x28 => lvl (s.flag ML_STAT 5) (s.raiseAll src ML_STAT)
  | 0x2B => lvl s.moor.far (s.raiseAll src ML_STAT)
  | 0x30 => lvl (s.therm.comps != 0) (s.raiseForced src TH_EVT 6)
  | 0x38 =>
      [Quay.north, Quay.south].foldl (fun s q =>
        if s.therm.started && s.refLost q then s.raiseQuay src TH_EVT q else s) s
  | 0x40 => lvl (s.vgdUv .north) (s.raiseQuay src PWR_VGDFLAGS .north)
  | 0x41 => lvl (s.vgdUv .south) (s.raiseQuay src PWR_VGDFLAGS .south)
  | 0x42 => lvl (s.flag PWR_VGDSTAT 2) (s.raiseAll src PWR_VGDFLAGS)
  | 0x43 => lvl (s.flag PWR_PUMP 1) (s.raiseAll src PWR_PUMP)
  | 0x44 => lvl (s.brakeTrip .north) (s.raiseQuay src PWR_BRKSTAT .north)
  | 0x45 => lvl (s.brakeTrip .south) (s.raiseQuay src PWR_BRKSTAT .south)
  | 0x46 => lvl s.stripUv (s.raiseAll src (ta 0 TD_EVT))
  | _ => s

/-- The sources that a W1C write to a word of FC_PEND or to a BE_PEND names. -/
def pendNamed (a : Nat) (v : Word) : List Nat :=
  if 0x440 ≤ a ∧ a ≤ 0x44E then
    ((List.range 18).filter fun j => v.getLsbD j).map fun j => 18 * (a - 0x440) + j
  else match blockOf a with
    | .berth n => if a = ba n BE_PEND then ((List.range 8).filter fun k => v.getLsbD k).map fun k => 0x80 + 8 * n.val + k else []
    | _ => []

/-- Pending bits are cleared; their reactions end (R399, R412). -/
def State.clearPending (s : State) (a : Nat) (v : Word) : State :=
  let l := (pendNamed a v).filter fun k => s.pending? k
  (s.modColl fun c => { c with pend := c.pend.filter fun p => !l.contains p.src }).forAll l fun s k => s.reraise k

/-- The record is emptied; no pending bit changes (R409). -/
def State.clearRecord (s : State) : State := s.modColl fun c => { c with first := none }

/-! ### Factory facility and storage (R393, R414) -/

/-- The factory facility drives a source pair into the state (`p`, `q`) (R414): active, idle or broken. -/
def State.drivePair (s : State) (k : Nat) (p q : Bool) : State :=
  if p = q then s.breakPair k
  else if p then
    let s1 := s.modColl fun c => { c with idle := c.idle.filter (· != k) }
    if neverRaised k then s1 else s1.raise { s.pairEvent k with master := 15 }
  else s.modColl fun c => { c with idle := insertNat k c.idle, raised := c.raised.filter fun e => e.src != k }

/-- The factory facility drives the safe-state line of berth `n` into the state (`p`, `q`) (R414). -/
def State.driveLine (s : State) (n : Berth) (p q : Bool) : State :=
  let m : BitVec 12 := 1#12 <<< n.val
  if p = q then s.breakLine n
  else if p then (s.modColl fun c => { c with driven := c.driven ||| m, idleL := c.idleL &&& ~~~m }).trip n causeFault
  else s.modColl fun c => { c with driven := c.driven &&& ~~~m, idleL := c.idleL ||| m }

/-- FAULT_INJECTION (R414): with TESTEN high and after a factory unlock, which the sender states because the spec gives it no
command, the factory facility drives a source pair or a berth's safe-state line. -/
def execFaultInjection (target : Fin 256 ⊕ Berth) (p q unlocked : Bool) (s : State) : Res :=
  .next (
    if !s.dev.pins.testen || !unlocked || !s.awake then s
    else match target with
    | .inl k => s.drivePair k.val p q
    | .inr n => s.driveLine n p q)

/-- CONFIG_STORAGE_CORRECTED: the corrected word is written back, so what the storage holds stays (R393). -/
def execConfigStorageCorrected (s : State) : Res :=
  .next (s.raise { src := 0x19, affected := s.allBerths, kind := 2 })

/-- CONFIG_STORAGE_UNCORRECTABLE: a forced hardware safe state of the device (R393, R398). -/
def execConfigStorageUncorrectable (s : State) : Res :=
  .next (s.raise { src := 0x1A, affected := s.allBerths, kind := 2, forced := 6, fscope := s.allBerths })

end Sys2Proof.Machine
end

