-- ==== Sys2Proof/Machine/Countersign.lean ====
section
/-! DEFINITION. Countersign (chapter 17): proposals, confirmations, application, CSIGN frames. -/

namespace Sys2Proof.Machine

abbrev csIdle : Nat := 0
abbrev csProposed : Nat := 1
abbrev csConfirmed : Nat := 2
abbrev byHost : Nat := 1
abbrev byMoor : Nat := 2
abbrev wayPeer : Nat := 0
abbrev wayPilot : Nat := 1
abbrev wayHost : Nat := 2

/-- CS_STAT.STATE. -/
def State.csState (s : State) : Nat := s.get CS_STAT 1 0
/-- CS_STAT.PROPOSER. -/
def State.csProposer (s : State) : Nat := s.get CS_STAT 5 4
/-- CS_STAT.WAY. -/
def State.csWay (s : State) : Nat := s.get CS_STAT 7 6
/-- The proposal in progress was proposed by `who` with confirmer `way`, and waits for its confirmation. -/
def State.csAwaits (s : State) (who way : Nat) : Bool :=
  s.csState == csProposed && s.csProposer == who && s.csWay == way

/-! ### Checks of a proposal (R527) -/

/-- Every bit that a record sets is RWL, and it leaves the map entry of a reserved ID alone (check 5). -/
def addressOk (r : Nat × Word) : Bool :=
  match cardAt r.1 with
  | none => false
  | some c =>
      isProt r.1 && !(0x500 ≤ r.1 && r.1 < 0x600 && reservedSource (r.1 - 0x500) && r.2 != 0) &&
        r.2 == c.fields.foldl (fun w f => if f.acc = .rwl then putBits w f.hi f.lo (bits r.2 f.hi f.lo) else w) 0

/-- Every field of a record lies in the range of its card (check 6). -/
def recordInRange (r : Nat × Word) : Bool :=
  match cardAt r.1 with
  | none => false
  | some c => c.fields.all fun f => f.acc != .rwl || fieldOk f r.2

/-- No address stands twice. -/
def distinctAdr : List (Nat × Word) → Bool
  | [] => true
  | r :: l => (l.all fun q => q.1 != r.1) && distinctAdr l

/-- The registers as they read with a given protection set in force. -/
def State.under (s : State) (prot : List (Nat × Word)) (a : Nat) : Word := if isProt a then look prot a else s.rd a

/-- The proposer's pair may change the protection set (R530, check 3). -/
def State.pairAllowed (s : State) (way : Nat) (l : List (Nat × Word)) : Bool :=
  (way != wayPeer || s.pflag CS_PEER 9) &&
  (way != wayPilot || (s.decl.pilot != 0 && !s.flag CS_STAT 12)) &&
  (way == wayPilot || !s.pflag CS_SEAL 0 || (look (applyRecords s.prot l) CS_SEAL).getLsbD 0)

/-- The code of the first failing check of a proposal (R527); `full` says that its records are all there (R538). -/
def State.proposalFails (s : State) (way : Nat) (l : List (Nat × Word)) (full : Bool) : Option Nat :=
  if s.csState != csIdle || !(s.mfState == mfWaitRef || s.mfState == mfWaitVgd || s.mfState == mfService) then some 2
  else if !s.pairAllowed way l then some 3
  else if !full || l.isEmpty || 16 < l.length || !distinctAdr l then some 4
  else if !l.all addressOk then some 5
  else if !l.all recordInRange then some 6
  else if !protectionOk (s.under (applyRecords s.prot l)) then some 7
  else none

/-! ### Life of a proposal -/

/-- A refusal: the code and source 0xE7, nothing else (R527). -/
def State.csRefuse (s : State) (code : Nat) : State := (s.put CS_STAT 11 8 code).raiseAll 0xE7 CS_STAT

/-- A proposal is accepted (R527, R528). -/
def State.csAccept (s : State) (who way : Nat) : State :=
  ((((s.put CS_STAT 1 0 csProposed).put CS_STAT 5 4 who).put CS_STAT 7 6 way).put CS_STAT 11 8 0).modCs
    fun c => { c with at_ := s.tide.now }

/-- STATE and PROPOSER as a proposal ends (R527). -/
def State.csToIdle (s : State) : State := (s.put CS_STAT 1 0 csIdle).put CS_STAT 5 4 0

/-- A proposal ends without application: its outcome, the CSREFUSE marker, IDLE (R527, R555). -/
def State.csEnd (s : State) (code : Nat) : State :=
  let s1 := s.put CS_STAT 11 8 code
  (s1.logPush (s1.marker 6 ([CS_STAT, CS_DIGEST0, CS_DIGEST0 + 1, CS_PNODE].map fun a => s1.liveReg a))).csToIdle

/-- As `csEnd`, with source 0xE7. -/
def State.csEndRaised (s : State) (code : Nat) : State := (s.csEnd code).raiseAll 0xE7 CS_STAT

/-- The 500 ms of R529 are over. -/
def State.csWindowOver (s : State) : Bool := decide (10000000 ≤ since s.tide.now s.cs.at_)

/-- PROPOSE (R527): a write of CS_CMD.PROPOSE with WAY. -/
def State.hostPropose (s : State) (way : Nat) : State :=
  match s.proposalFails way s.staged true with
  | some c => s.csRefuse c
  | none => s.csAccept byHost way

/-- A confirmation that matches its proposal's pair (R531); it comes within the window (R529). -/
def State.confirmation (s : State) (value required : Nat) : State :=
  if s.csWindowOver then s.csEndRaised 9
  else if value = required then (s.put CS_STAT 1 0 csConfirmed).modCs fun c => { c with at_ := s.tide.now }
  else s.csEndRaised 8

/-- CS_CONF. -/
def State.csConf (s : State) : Nat := (s.rd CS_CONF0).toNat + 2 ^ 18 * s.get (CS_CONF0 + 1) 13 0

/-- CS_CMD.CONFIRM: the host confirms a peer's proposal (R530). -/
def State.hostConfirm (s : State) : State :=
  if s.csAwaits byMoor wayHost then s.confirmation s.csConf s.digest else s

/-- CS_CMD.PILOTCONF: the pilot code confirms the host's proposal; each mismatch is counted, the eighth locks (R530,
R532). -/
def State.pilotConfirm (s : State) : State :=
  if !s.csAwaits byHost wayPilot then s
  else
    let required := s.digest ^^^ s.decl.pilot
    if s.csConf = required || s.csWindowOver then s.confirmation s.csConf required
    else
      let f := s.get CS_STAT 16 13 + 1
      let s1 := s.put CS_STAT 16 13 f
      let s2 := if f = 8 then (s1.setb CS_STAT 12).raiseAll 0xEC CS_STAT else s1
      s2.confirmation s.csConf required

/-- CS_CMD.WITHDRAW: the host withdraws its own proposal (R533). -/
def State.hostWithdraw (s : State) : State :=
  if s.csState != csIdle && s.csProposer == byHost then s.csEnd 11 else s

/-- A write of CS_CMD that is accepted: one of its commands (CS_CMD card). -/
def State.csCommand (s : State) (v : Word) : State :=
  if v.getLsbD 1 then s.hostPropose (bits v 5 5)
  else if v.getLsbD 2 then s.hostConfirm
  else if v.getLsbD 3 then s.pilotConfirm
  else if v.getLsbD 4 then s.hostWithdraw
  else s

/-- A write of CS_CMD with more than one of bits 4:1 set fails. -/
def csCommandFails (v : Word) : Bool :=
  decide (1 < ([1, 2, 3, 4].filter fun k => v.getLsbD k).length)

/-- PROPOSAL_WINDOW_END (R529). -/
def execProposalWindowEnd (s : State) : Res :=
  .next (if s.csState = csProposed then s.csEndRaised 9 else s)

/-- SAFE_POINT_TIMEOUT (R535). -/
def execSafePointTimeout (s : State) : Res :=
  .next (if s.csState = csConfirmed then s.csEndRaised 10 else s)

/-! ### Application (R534 to R536) -/

/-- Berth states in which BP_SAFE and BO_XOVER records may be applied (R534). -/
def State.berthQuiet (s : State) (n : Berth) : Bool :=
  let st := s.bst n
  st == stStopped || st == stSafe || st == stDrydock || st == stOut

/-- The condition of a record for application (R534). -/
def State.safePoint (s : State) (r : Nat × Word) : Bool :=
  match blockOf r.1 with
  | .berth n => !(r.1 = ba n BP_SAFE || r.1 = ba n BO_XOVER) || s.berthQuiet n
  | _ => true

/-- A brake trip whose enable has been cleared deasserts at once (R209). -/
def State.brakeRelease (s : State) (q : Quay) : State :=
  if s.pflag PWR_BRKCTL (match q with | .north => 1 | .south => 3) then s
  else s.clrb PWR_BRKSTAT (match q with | .north => 4 | .south => 5)

/-- A countersigned short-circuit threshold waits for the berth's next boundary (R534); `s` is the state before the
application. -/
def State.scWaits (s : State) (n : Berth) (q : PwmSt) : PwmSt :=
  if s.staged.any fun r => r.1 == ba n BG_SCTHR then { q with scFrom := some (s.tickOf n), scOld := s.scThr n } else q

/-- The step of R535: every record is written, SEALED follows (R536), the brake logic follows its new enables (R208, R209),
RESULT 1, the CSAPPLY marker and source 0xE8. -/
def State.applyProposal (s : State) : State :=
  let s0 := ({ s with prot := applyRecords s.prot s.staged } : State).forAll berthList fun t n => t.modPwm n (s.scWaits n)
  let s1 := (s0.putb MF_STAT 9 (s0.pflag CS_SEAL 0)).put CS_STAT 11 8 1
  let s2 := [Quay.north, Quay.south].foldl (fun s q => (s.brakeRelease q).chopApply q) s1
  let s3 := s2.logPush (s2.marker 5 ([CS_DIGEST0, CS_DIGEST0 + 1, CS_STAT, CS_PCNT, CS_PNODE].map fun a => s2.liveReg a))
  s3.csToIdle.raiseAll 0xE8 CS_STAT

/-- APPLICATION: a confirmed proposal reaches its safe point (R535). -/
def execApplication (s : State) : Res :=
  .next (if s.csState = csConfirmed ∧ s.staged.all s.safePoint then s.applyProposal else s)

/-! ### CSIGN frames (R537 to R539) -/

/-- OP, PID and first record index of a CSIGN frame (R537). -/
def csOp (f : MFrame) : Nat := bits (payWord f 0) 17 15
def csPid (f : MFrame) : Nat := bits (payWord f 0) 14 8
def csIndex (f : MFrame) : Nat := bits (payWord f 0) 3 0

/-- LEN of each OP (R537). -/
def csLenOk (op len : Nat) : Bool :=
  match op with
  | 0 => len == 3 || len == 5 || len == 7
  | 1 => len == 2 | 2 => len == 3 | 3 => len == 1 | 4 => len == 2 | _ => false

/-- The device takes a CSIGN frame of an OP: addressed to it, not its own, from the peer, in the form of R537 (R494, R538). -/
def State.csTakes (s : State) (f : MFrame) (op : Nat) : Bool :=
  !s.deaf && frameOk f && f.typ == 8 && s.numbered && f.dst == s.node? && f.src != s.node? &&
  s.pflag CS_PEER 9 && f.src == s.pget CS_PEER 8 0 &&
  csOp f == op && csLenOk op f.len && bits (payWord f 0) 7 4 == 0 && (op == 0 || csIndex f == 0)

/-- Word w0 of a CSIGN frame. -/
def csW0 (op pid idx : Nat) : Word := BitVec.ofNat 18 (op * 32768 + pid * 256 + idx)

/-- The records of a RECORDS frame by index; indices end at 15. -/
def csRecords (f : MFrame) : List (Nat × Nat × Word) :=
  ((List.range ((f.len - 1) / 2)).map fun k =>
    (csIndex f + k, bits (payWord f (1 + 2 * k)) 15 0, payWord f (2 + 2 * k))).filter fun r => r.1 < 16

/-- CSIGN_RECORDS: the receive buffer fills; a new PID clears it (R538). -/
def execCsignRecords (f : MFrame) (s : State) : Res :=
  .next (
    if !s.csTakes f 0 then s
    else s.modCs fun c =>
      let c1 := if c.bufPid = some (csPid f) then c else { c with bufPid := some (csPid f), bufAt := s.tide.now, buf := [] }
      { c1 with buf := (csRecords f).foldl (fun b r => putKey b r.1 (some r.2)) c1.buf })

/-- The first `k` records of the receive buffer in order, while none is missing. -/
def CsSt.records (c : CsSt) (k : Nat) : List (Nat × Word) :=
  (List.range k).filterMap fun i => (c.buf.find? fun r => r.1 == i).map (·.2)

/-- The buffer of PID `pid` holds every index below `k`, and its first frame is at most 100 ms old (R538). -/
def State.csBuffered (s : State) (pid k : Nat) : Bool :=
  s.cs.bufPid == some pid && decide (since s.tide.now s.cs.bufAt ≤ 2000000) && (s.cs.records k).length == k

/-- The peer's accepted records go into CS_PADRk, CS_PVALk and CS_PCNT, its node and PID into CS_PNODE (R528). -/
def State.csStage (s : State) (l : List (Nat × Word)) (node pid : Nat) : State :=
  ((s.wrs (l.zipIdx.flatMap fun p =>
    [(CS_PADR0 + p.2, BitVec.ofNat 18 p.1.1), (CS_PVAL0 + p.2, p.1.2)])).wr CS_PCNT (BitVec.ofNat 18 l.length)).wr
      CS_PNODE (BitVec.ofNat 18 (pid * 512 + node))

/-- The answer to a peer: a RESULT frame (R528, R537). -/
def State.csAnswer (s : State) (f : MFrame) (code : Nat) : State :=
  s.originate 8 f.src [csW0 4 (csPid f) 0, BitVec.ofNat 18 code]

/-- CSIGN_PROPOSE: the peer's proposal is checked and answered (R528, R538). -/
def execCsignPropose (f : MFrame) (s : State) : Res :=
  .next (
    if !s.csTakes f 1 then s
    else
      let k := bits (payWord f 1) 4 0
      let l := s.cs.records k
      match s.proposalFails wayHost l (s.csBuffered (csPid f) k) with
      | some c => (s.csRefuse c).csAnswer f c
      | none => ((s.csStage l f.src (csPid f)).csAccept byMoor wayHost).csAnswer f 0)

/-- CSIGN_CONFIRM: the peer confirms a host proposal with WAY 0 (R530, R531, R538). -/
def execCsignConfirm (f : MFrame) (s : State) : Res :=
  .next (
    if s.csTakes f 2 && s.csAwaits byHost wayPeer then
      s.confirmation ((payWord f 1).toNat + 2 ^ 18 * bits (payWord f 2) 13 0) s.digest
    else s)

/-- CSIGN_WITHDRAW: the peer withdraws its own proposal (R533, R538). -/
def execCsignWithdraw (f : MFrame) (s : State) : Res :=
  .next (
    if s.csTakes f 3 && s.csState != csIdle && s.csProposer == byMoor && csPid f == s.get CS_PNODE 15 9 &&
        f.src == s.get CS_PNODE 8 0 then s.csEnd 11
    else s)

/-- CSIGN_RESULT: a RESULT frame from CS_TXDST goes into CS_TXRES (R539). -/
def execCsignResult (f : MFrame) (s : State) : Res :=
  .next (
    if s.csTakes f 4 && f.src == s.get CS_TXDST 8 0 then
      s.wr CS_TXRES (BitVec.ofNat 18 (131072 + csPid f * 256 + bits (payWord f 1) 3 0))
    else s)

/-- The payload of one RECORDS frame from index `i`. -/
def csPayload (pid i : Nat) (l : List (Nat × Word)) : List Word :=
  csW0 0 pid i :: l.flatMap fun r => [BitVec.ofNat 18 r.1, r.2]

/-- SENDPROP: the staged records, three to a frame, and PROPOSE under a new PID (R539). -/
def State.sendProposal (s : State) : State :=
  let pid := (s.cs.txPid + 1) % 128
  let l := s.staged
  let dst := s.get CS_TXDST 8 0
  let s1 := s.modCs fun c => { c with txPid := pid }
  let s2 := s1.forAll (List.range 6) fun s k =>
    let r := (l.drop (3 * k)).take 3
    if r.isEmpty then s else s.originate 8 dst (csPayload pid (3 * k) r)
  s2.originate 8 dst [csW0 1 pid 0, BitVec.ofNat 18 l.length]

/-- SENDCONF: CONFIRM with CS_CONF and the PID of the latest RESULT frame received, which CS_TXRES shows (R539). -/
def State.sendConfirm (s : State) : State :=
  s.originate 8 (s.get CS_TXDST 8 0) [csW0 2 (s.get CS_TXRES 14 8) 0, s.rd CS_CONF0, BitVec.ofNat 18 (s.get (CS_CONF0 + 1) 13 0)]

/-- WITHDRAW of CS_TXCMD, under the PID of the last SENDPROP (R539). -/
def State.sendWithdraw (s : State) : State := s.originate 8 (s.get CS_TXDST 8 0) [csW0 3 s.cs.txPid 0]

/-- A write of CS_TXCMD that is accepted (R539). -/
def State.csTransmit (s : State) (v : Word) : State :=
  let s1 := if v.getLsbD 0 then s.sendProposal else s
  let s2 := if v.getLsbD 1 then s1.sendConfirm else s1
  if v.getLsbD 2 then s2.sendWithdraw else s2

/-- SENDPROP fails while STATE is not IDLE (R539). -/
def State.csTransmitFails (s : State) (v : Word) : Bool := v.getLsbD 0 && s.csState != csIdle

end Sys2Proof.Machine
end

