-- ==== Sys2Proof/Machine/Supply.lean ====
section
/-! DEFINITION. Supplies, reset, the sag policy, sleep and wake (chapter 3), the fabric stall (R20), and the first gate
release (R131). -/

namespace Sys2Proof.Machine

/-! ### Reset (R81 to R85) -/

/-- POWER_ON (R81): POR, and RSTN when it is held low; nothing of what the device held outlives the loss of VSUP. -/
def execPowerOn (rstnLow : Bool) (s : State) : Res :=
  let fresh : State := { s with dev := { s.dev with mode := .unpowered, sleepLatch := false, wakeCfg := none } }
  let r := fresh.enterReset 0
  .next (if rstnLow then r.enterReset 3 else r)

/-- The reset monitors act in every state except unpowered and sleep (R78). -/
def State.resetMonitors (s : State) : Bool := s.dev.mode != .unpowered && s.dev.mode != .sleep

/-- VAN_RESET: `risen` says that VAN has risen above 4.75 V since VSUP last rose from below 1.5 V (R81). -/
def execVanReset (risen : Bool) (s : State) : Res := .next (if risen && s.resetMonitors then s.enterReset 1 else s)
/-- CORE_RESET: `risen` says the same of every branch and 0.70 V (R81). -/
def execCoreReset (risen : Bool) (s : State) : Res := .next (if risen && s.resetMonitors then s.enterReset 2 else s)

/-- RSTN_LOW for `ns` nanoseconds: 2 µs or longer resets, below 0.5 µs never, between the two it may (R81, R82, R99). -/
def execRstnLow (ns : Nat) (s : State) : Res :=
  .next (
    if s.dev.mode = .unpowered ∨ ns < 500 then s
    else if 2000 ≤ ns then s.enterReset 3
    else if s.freeVal % 2 = 0 then s.useFree 1
    else (s.useFree 1).enterReset 3)

/-- RESET_RELEASE: loading begins; the pins are as given, and COMPAT is sampled (R56, R62, R81). -/
def execResetRelease (pins : Pins) (s : State) : Res :=
  .next (
    if s.dev.mode != .reset then s
    else (s.modDev fun d => { d with mode := .loading, pins := pins, wakeCfg := none }).putb GLB_COMPAT 0 pins.compat)

/-! ### Supply monitors (R78 to R80) -/

/-- A present condition and its sticky copy rise; the source is raised (R78). -/
def State.monitorOn (s : State) (b src : Nat) : State :=
  if !s.awake || s.flag PWR_STAT b then s
  else ((s.setb PWR_STAT b).setb PWR_FLAGS b).raiseAll src PWR_FLAGS

/-- VSUP_OVERVOLTAGE. -/
def execVsupOvervoltage (above : Bool) (s : State) : Res :=
  .next (if above then s.monitorOn 7 0x01 else s.clrb PWR_STAT 7)
/-- VAN_LOW. -/
def execVanLow (below : Bool) (s : State) : Res :=
  .next (if below then s.monitorOn 5 0x03 else s.clrb PWR_STAT 5)
/-- CORE_BRANCH_LOW: branches 0 to 3 are Quay North, Quay South, Central and the tide island (PWR_STAT.CORELO). -/
def execCoreBranchLow (branch : Fin 4) (below : Bool) (s : State) : Res :=
  .next (if below then s.monitorOn (1 + branch.val) 0x04 else s.clrb PWR_STAT (1 + branch.val))

/-- VIO_RANGE_LOST: host and memory ports stop and entries in flight fail (R66, R80); in service VIOLOST and source 0x02
(R79; log entry 33). -/
def execVioRangeLost (s : State) : Res :=
  .next (
    if !s.dev.vioOk then s
    else
      let s1 := (s.modDev fun d => { d with vioOk := false })
      let s2 := if s1.awake then s1.failAllVio else s1
      if s2.inService then (s2.setb PWR_FLAGS 6).raiseAll 0x02 PWR_FLAGS else s2)

/-- VIO_RETURN: the host port discards any partial frame; no frame is held between commands, so VIOOK alone changes (R80). A
loader whose read failed reads again. -/
def execVioReturn (s : State) : Res := .next (s.modDev fun d => { d with vioOk := true }).loaderResume

/-- FABRIC_STALL (R20): `acc` is the stalled access, when it has one: its master, its ACC code and its register (R406). -/
def execFabricStall (acc : Option (Master × Fin 8 × Nat)) (s : State) : Res :=
  .next (s.raise (match acc with
    | some (m, c, a) => { src := 0x10, affected := s.allBerths, master := m.id, acc := c.val, kind := 0, adr := a }
    | none => { src := 0x10, affected := s.allBerths, kind := 2, adr := 0 }))

/-! ### Supply sag (R86 to R93) -/

/-- PWR_SAGCFG mode of tender `t`: 0 continue, 1 hold, 2 stop. -/
def State.sagMode (s : State) (t : Tender) : Nat := s.get PWR_SAGCFG (2 * t.val + 1) (2 * t.val)

/-- The tender modes take effect (R88, R379). -/
def State.sagTenders (s : State) : State :=
  s.forAll tenderList fun s t =>
    if !s.tdHere t then s
    else if s.sagMode t = 1 then s.tputb t TD_STAT 8 true
    else if s.sagMode t = 2 then s.tenderStop t
    else s

/-- The sag policy begins its stops, tender modes and flush together (R90 step 3). -/
def State.sagPolicy (s : State) : State :=
  if s.dev.sagRun then s
  else
    let chosen := s.rd PWR_SAGBERTH
    let s1 := (s.clrb PWR_STAT 9).modDev fun d => { d with
      sagRun := true, sagFlush := s.flag PWR_SAGCFG 7, sagSave := s.flag PWR_SAGCFG 6
      sagHeld := d.sagHeld ||| chosen.setWidth 12 }
    let s2 := s1.forAll berthList fun s n => if chosen.getLsbD n.val then s.stopRequest n else s
    let s3 := s2.sagTenders
    if s3.dev.sagFlush then s3.logFlush else s3

/-- BROWN_OUT_WARNING (R86, R90): flags, source 0x00, the SAG marker, and in service the policy. -/
def execBrownOutWarning (s : State) : Res :=
  .next (
    if !s.awake || s.flag PWR_STAT 8 then s
    else
      let s1 := s.monitorOn 8 0x00
      let s2 := s1.logPush (s1.marker 2 [s1.liveReg PWR_STAT, s1.liveReg PWR_FLAGS])
      if s2.inService then s2.sagPolicy else s2)

/-- BROWN_OUT_DEASSERT (R86, R88): the warning ends, and so does every tender hold. -/
def execBrownOutDeassert (s : State) : Res :=
  .next (if s.flag PWR_STAT 8 then (s.clrb PWR_STAT 8).forAll tenderList fun s t => s.tenderHoldEnd t else s)

/-- A berth's orderly stop is over: it stands in a state that the sag stop adds nothing to, or idles in SEA TRIAL (R91,
R548). -/
def State.stopDone (s : State) (n : Berth) : Bool :=
  let st := s.bst n
  st == stOut || st == stStopped || st == stSafe || st == stDrydock ||
    (st == stSeaTrial && !s.bflag n BP_CTL 0 && s.bget n BO_PHASE 3 0 == 0)

/-- SAGDONE: every action of the running policy has ended (R90 step 5). A chosen berth that was STOPPING or UNMOORING when the
policy ran is waited for as well (DEDUCED, log entry 23). -/
def execSagdone (s : State) : Res :=
  .next (
    let berths := berthList.all fun n => !s.dev.sagHeld.getLsbD n.val || s.stopDone n
    let tenders := tenderList.all fun t =>
      s.sagMode t != 2 || (s.tdState t != tdStopDelay && s.tdState t != tdStopRamp)
    let saved := !s.dev.sagFlush && !s.dev.sagSave && !s.inMem (· == .thermal)
    if s.dev.sagRun && berths && tenders && saved then (s.setb PWR_STAT 9).modDev fun d => { d with sagRun := false }
    else s)

/-- The berths held by the sag policy are released, and SAGDONE clears (R92). -/
def State.sagRelease (s : State) : State :=
  if s.flag PWR_STAT 8 || !s.flag PWR_STAT 9 then s
  else (s.clrb PWR_STAT 9).modDev fun d => { d with sagHeld := 0 }

/-- SAG_RESUME (R92). -/
def execSagResume (s : State) : Res := .next (if s.flag PWR_SAGCFG 8 then s.sagRelease else s)

/-! ### Sleep and wake (R95 to R99) -/

/-- A part is docked, or a berth is UNMOORING or in SEA TRIAL (R552). -/
def State.anyDock (s : State) : Bool := s.odock != 0 || s.bdock != 0

/-- Sleep entry begins: every running berth stops (R96 step 2). An entry that runs already starts nothing new (R97). -/
def State.sleepEntry (s : State) : State :=
  if !s.awake || s.dev.sleep != .none then s
  else (s.modDev fun d => { d with sleep := .berths }).forAll berthList fun s n => s.stopRequest n

/-- The demand of berth `n` is above its on-threshold: it is at or above ON (R95, R322). -/
def State.demandOn (s : State) (n : Berth) : Bool := decide (s.bget n BD_ON 16 0 ≤ s.bget n BD_DEM 16 0)
/-- The idle time has passed since the latest host frame (R95, R427): IDLE units of 10 ms. -/
def State.framesIdle (s : State) : Bool := decide (s.dev.frameAt + s.get PWR_SLEEPCFG 13 0 * 200000 ≤ s.tide.now)

/-- IDLE_POLICY: a committed device with AUTO 1, for which the conditions of R95 have held for the idle time (R95, R123, R427). -/
def execIdlePolicy (s : State) : Res :=
  .next (
    let idle := berthList.all fun n => (s.outOfUse n || s.bst n == stStopped) && !s.demandOn n
    if s.committed && s.flag PWR_SLEEPCFG 17 && idle && !s.uncleared && s.framesIdle && !s.anyDock then s.sleepEntry else s)

/-- SLEEP_TENDER_STOP: the last berth has stopped; every tender stops, a sag hold notwithstanding (R96 step 3). -/
def execSleepTenderStop (s : State) : Res :=
  .next (
    if s.dev.sleep = .berths ∧ berthList.all s.stopDone then
      (s.modDev fun d => { d with sleep := .tenders }).forAll tenderList fun s t => s.sleepStop t
    else s)

/-- SLEEP_FLUSH_SAVE: the last tender has stopped; the SLEEP marker, parameter records, a flush and
a thermal save (R96 step 4, R98, R469, R479). -/
def execSleepFlushSave (s : State) : Res :=
  .next (
    let stopped := tenderList.all fun t => !(1 ≤ s.tdState t && s.tdState t ≤ 5)
    if s.dev.sleep = .tenders ∧ stopped then
      let ctx := ((List.range 7).map fun i => s.liveReg (FC_FIRSTTS0 + i)) ++ [s.liveReg FC_STAT]
      ((s.modDev fun d => { d with sleep := .save }).logPush (s.marker 3 ctx)).logSavePar.logFlush.logSaveTh
    else s)

/-- The device sleeps (R62, R96 steps 5 and 6): the core branches and VAN are removed, and with them every register, port and
output; what remains is the wake detectors with their settings and the FAULTN latch. -/
def State.asleep (s : State) : State :=
  s.cleared'.modDev fun d => { d with
    mode := .sleep, sleepLatch := s.dev.sleepLatch || s.uncleared, wakeCfg := some (s.rd PWR_WAKECFG) }

/-- SLEEP_POINT_OF_NO_RETURN: the save is complete; the bypass closes, an uncleared fault, or one carried from an earlier
sleep and not yet raised, is latched, and every gate and brake output is off (R62, R96 steps 5 and 6, R98). -/
def execSleepPointOfNoReturn (s : State) : Res :=
  .next (if s.dev.sleep = .save ∧ !s.mem.log.flush ∧ !s.inMem (· == .thermal) then s.asleep else s)

/-- The settings of the wake detectors: PWR_WAKECFG, as it stood at the point of no return once the device sleeps. -/
def State.wakeWord (s : State) : Word := s.dev.wakeCfg.getD (s.rd PWR_WAKECFG)
/-- The wake source is enabled (PWR_WAKECFG); HCSN is seen only while VIO is in its range (R66). -/
def State.wakeOn (s : State) : WakeSource → Bool
  | .pin => s.wakeWord.getLsbD 15
  | .hcsn => s.wakeWord.getLsbD 14 && s.dev.vioOk
  | .mooring => s.wakeWord.getLsbD 13
  | .dmd n rising => s.wakeWord.getLsbD n.val && (s.wakeWord.getLsbD 12 != rising)

/-- Bit of a wake source in PWR_RSTCAUSE. -/
def wakeBit : WakeSource → Nat
  | .pin => 5 | .hcsn => 6 | .mooring => 7 | .dmd _ _ => 8

/-- WAKE_EVENT: it wakes a sleeping device through reset, a further source adding its bit while that reset lasts, and
abandons a sleep entry before its point of no return: the tenders that the entry stopped restart (R81, R97). One that still
is in STOP DELAY or STOP RAMP returns to REGULATING or RAMP at once, as for any start request (DEDUCED, log entry 116). -/
def execWakeEvent (src : WakeSource) (s : State) : Res :=
  .next (
    if !s.wakeOn src then s
    else if s.dev.mode = .sleep ∨ (s.dev.mode = .reset ∧ s.dev.wakeCfg.isSome) then s.enterReset (wakeBit src)
    else if s.dev.sleep = .none then s
    else (s.modDev fun d => { d with sleep := .none }).forAll tenderList fun s t => s.sleepUndo t)

/-! ### First gate release (R131, R132) -/

/-- Every condition of R131 holds, and no key is being programmed (R120). -/
def State.canRelease (s : State) : Bool :=
  s.dev.mode == .loading && s.mfState == mfWaitVgd && s.refRunning && s.flag TIDE_CALSTAT 11 && !s.vgdUv .north && !s.vgdUv .south

/-- The device enters service: berth and brake outputs pass to their units and sampling begins; trip inputs that are low trip (R64); a
reaction of code 4 or above in force trips its berths (R164); a standing warning runs the sag policy (R90); a fault carried through sleep is raised (R98); a wake is forwarded (R520). -/
def State.enterService (s : State) : State :=
  let s1 := (s.modDev fun d => { d with mode := .service, sleepLatch := false }).putMfState mfService
  let s2 := s1.forAll berthList fun s n => (s.modCtl n fun c => { c with last := s.tide.now }).modDem n fun q =>
    { level := q.level, hostPend := q.hostPend }
  let s3 := [Quay.north, Quay.south].foldl (fun s q => if s.tripLow q then s.tripPin q else s) s2
  let s3 := s3.forAll berthList fun s n => if s.safeLine n then s.trip n causeFault else s
  let s3 := (s3.forAll berthList fun s n => s.settle n).forAll [Quay.north, Quay.south] fun s q => s.chopApply q
  let s4 := if s.dev.sleepLatch then s3.raise { src := 0x05, affected := s3.allBerths, kind := 2 } else s3
  let s5 := if s4.flag PWR_STAT 8 then s4.sagPolicy else s4
  if s5.get PWR_RSTCAUSE 8 5 != 0 && s5.flag ML_CTL 14 && s5.dev.bypassOpen then
    s5.modMoor fun m => { m with sentWake := m.sentWake + 1 }
  else s5

/-- FIRST_GATE_RELEASE (R131). -/
def execFirstGateRelease (s : State) : Res := .next (if s.canRelease then s.enterService else s)

/-- VGD_WAIT_EXPIRED (R132). -/
def execVgdWaitExpired (s : State) : Res :=
  .next (if s.dev.mode == .loading && s.committed && (s.vgdUv .north || s.vgdUv .south) then s.raiseAll 0xE4 MF_STAT else s)

end Sys2Proof.Machine
end

