-- ==== Sys2Proof/Machine/Loader.lean ====
section
/-! DEFINITION. The manifest loader (chapter 4): slot selection, commit, the manifest key. -/

namespace Sys2Proof.Machine

/-! ### Applying loaded values (R110, R123) -/

/-- Offsets of the registers of a berth block that a berth section may load. -/
def loadedOffsets : List Nat :=
  (bpCards ++ bgCards ++ bsCards ++ bfCards ++ boCards ++ bdCards ++ blCards).flatMap fun c =>
    if c.fields.any fun f => f.ld && f.acc != .rwl then (List.range c.count).map (c.base + ·) else []

/-- Every loaded field of berth `n` returns to its reset value, curve fields included (R9, R545). -/
def State.unloadBerth (s : State) (n : Berth) : State :=
  let s1 := s.forAll loadedOffsets fun s o => s.wr (ba n o) (mergeLoaded (ba n o) (s.brd n o) (resetWord (ba n o)))
  let s2 := s1.wrs (((List.range 32).flatMap fun k => [(ba n (BD_CX0 + k), (0 : Word)), (ba n (BD_CXA0 + k), 0)]))
  (s2.bput n BD_CCTL 5 0 0).bput n BD_CCTLA 6 0 0

/-- The loaded values of BP_PERIOD, BP_DEADT, BP_PHASEOFS and BS_SAMPT go into the active copies as well (R153); the
compares are not loaded and stay pending. The active dead time is never below 104 ticks (R152). -/
def State.activate (s : State) (n : Berth) : State :=
  let s0 := s.wrs ([0, 7, 8].map fun i => (ba n (0x11 + i), s.brd n (1 + i)))
  let s1 := if s.bget n BP_DEADT 13 0 < 104 then (s0.bput n BP_DEADTA 13 0 104).bset n BP_STAT 5 else s0
  let s2 := s1.modPwm n fun q => { q with sampt := s.bnat n BS_SAMPT, pend := q.pend &&& 0x07E#10, divAt := s.tickOf n }
  (s2.modPwm n fun q => { q with force := s2.activeForce n }).modBerth n fun b => { b with divMf := s.bget n BS_CTL 5 3 }

/-- A curve entry goes into the edit and active copies, with PRES 1 (R325, R326). -/
def State.loadCurve (s : State) (n : Berth) (e : CurveEntry) : State :=
  let pts : List (Nat × Word) := e.points.zipIdx.flatMap fun p =>
    [(ba n (BD_CX0 + p.2), BitVec.ofNat 18 p.1.1), (ba n (BD_CX0 + 16 + p.2), BitVec.ofNat 18 p.1.2)]
  ((s.wrs pts).bput n BD_CCTL 5 0 (32 + e.npoint)).applyCurve n

/-- The section and the curve entry of berth `n` are applied as after a reset (R123, R545). -/
def State.loadBerth (s : State) (n : Berth) (m : Image) : State :=
  let s1 := (m.recs.filter fun r => r.sec == 1 + n.val).foldl State.loadRecord (s.unloadBerth n)
  let s2 := match m.curves.find? fun e => e.berth == n.val with | some e => s1.loadCurve n e | none => s1
  s2.activate n

/-- Every loaded field of tender `t` returns to its reset value. -/
def State.unloadTender (s : State) (t : Tender) : State :=
  s.wrs ((List.range 0x15).map fun o => (ta t o, mergeLoaded (ta t o) (s.trd t o) (resetWord (ta t o))))

/-- The entry and the records of tender `t` are applied; TA's VREF follows VGDNOM when TA supplies VGD (R383). -/
def State.loadTender (s : State) (t : Tender) (m : Image) : State :=
  let s1 := (m.recs.filter fun r => r.sec == 13 && blockOf r.adr == .tender t).foldl State.loadRecord (s.unloadTender t)
  if t = 0 ∧ s.decl.vgdSrc = 0 then s1.tput 0 TD_VREF 10 0 ((20 * s.decl.vgdNom + 125) / 250) else s1

/-! ### Commit (R116, R123, R127 to R130) -/

/-- The registers that commit takes from the declaration blocks and the header. -/
def State.commitRegs (s : State) (slot : Nat) (m : Image) : State :=
  let d := m.decl
  let s1 := (s.wr PWR_BUDGET (BitVec.ofNat 18 d.budget)).wr PWR_GDEST (BitVec.ofNat 18 (estimate s.decl))
  let s2 := (s1.putWide MF_GEN0 m.gen 2).putWide MF_BUILD0 m.build 2
  let s3 := (s2.put TIDE_REFSTAT 1 0 d.refSel).putb MF_STAT 11 (s.compat && d.compat6)
  let s4 := (s3.putb MF_STAT 9 d.sealed).put MF_STAT 8 7 (slot + 1)
  let s5 := (s4.put (MF_SLOTAR + slot) 3 0 1).wr (MF_SLOTAO + slot) 0
  match d.mooring with
  | none => s5
  | some (node, align) =>
      if node < 512 then s5.put ML_NODE 15 0 (32768 * b2n align + 16384 + 4096 + node)
      else s5.put ML_NODE 15 0 (32768 * b2n align)

/-- The reference after commit (R130). -/
def State.commitReference (s : State) : State :=
  if !s.refExternal then (s.setb TIDE_REFSTAT 3).putMfState mfWaitVgd
  else if s.flag TIDE_REFSTAT 2 then (s.clrb TIDE_REFSTAT 3).putMfState mfWaitVgd
  else ((s.setb TIDE_REFSTAT 3).putMfState mfWaitRef).raiseAll 0xE5 MF_STAT

/-- Lanes at commit: LE_CTL.SPARE is the spare (R242). -/
def State.commitLanes (s : State) : State :=
  s.forAll laneList fun s l => s.putLane l (b2n (l.val == s.get LE_CTL 2 0))

/-- The whole manifest takes effect together (R123). -/
def State.commit (s : State) (slot : Nat) (m : Image) (saved : Option ThermalCopy) : State :=
  let s0 : State := { s with
    load := { s.load with decl := some (m.decl.atCompat s.compat), cands := [] }
    prot := protOf m.recs m.decl.sealed }
  let s1 := (m.recs.filter fun r => r.sec == 0 || r.sec == 15).foldl State.loadRecord s0
  let s2 := s1.forAll berthList fun s n =>
    if (s.decl.berth? n).isSome then (s.loadBerth n m).bput n BL_STATE 3 0 stStopped else s.bput n BL_STATE 3 0 stOut
  let s3 := s2.forAll tenderList fun s t =>
    if (s.decl.tender? t).isNone then s.tput t TD_STAT 3 0 tdAbsent
    else
      let s' := s.loadTender t m
      s'.modTender t fun x => { x with per := s'.tget t TD_PERIOD 14 0, ofs := s'.tget t TD_OFS 14 0 }
  let s4 := ((s3.commitRegs slot m).commitLanes.commitReference).thermCommit saved
  let s5 := s4.forAll tenderList fun s t => if s.tdHere t && s.tflag t TD_CTL 0 then s.tenderStart t else s
  let s6 := s5.logMount
  if slot = 2 then s6.raiseAll 0xE2 MF_STAT else s6

/-! ### Slot selection (R121, R122, R125) -/

/-- The candidates that two headers give: those that pass R106, the higher generation first, then the Factory slot. -/
def candidates (a b : List Nat) : List Nat :=
  let okA := (headerFails a).isEmpty
  let okB := (headerFails b).isEmpty
  (if okA && okB then (if leAt a 0xC 4 < leAt b 0xC 4 then [1, 0] else [0, 1])
    else if okA then [0] else if okB then [1] else []) ++ [2]

/-- LOAD_HEADERS: both headers have been read; the codes and offsets return to 0, the candidates are ordered and the read of
the first begins (R121). Which header lies in which slot is the order of the two reads. -/
def execLoadHeaders (s : State) : Res :=
  .next (
    if s.dev.mode != .loading || s.mfState != mfHeaders || s.load.lost || s.inMem (· == .loader) then s
    else match s.load.got with
    | [a, b] =>
        let cands := candidates a b
        let s1 := s.wrs ((List.range 6).map fun k => (MF_SLOTAR + k, (0 : Word)))
        ((s1.putMfState mfSlot).modLoad fun x => { x with cands := cands, lens := [leAt a 8 4, leAt b 8 4] }).readSlot
          (cands.headD 2)
    | _ => s)

/-- The slot being tried has failed (R121, R122, R125, R134): its code and offset, every manifest-loaded field at its reset value,
and the next slot's read, or state NONE after the last. -/
def State.slotFailed (s : State) (k : Nat) (rest : List Nat) (code off : Nat) : State :=
  let s1 := ((s.unloadAll.put (MF_SLOTAR + k) 3 0 code).wr (MF_SLOTAO + k) (BitVec.ofNat 18 off)).modLoad fun x => { x with cands := rest }
  let s2 := if k = 0 then s1.raiseAll 0xE0 MF_STAT else if k = 1 then s1.raiseAll 0xE1 MF_STAT else s1
  match rest with
  | [] => (s2.putMfState mfNone).raiseAll 0xE3 MF_STAT
  | j :: _ => s2.readSlot j

/-- SLOT_CHECK: the slot being tried has been read and its image is checked; it commits, or the next slot is tried (R121 to
R125, R134). -/
def execSlotCheck (saved : Option ThermalCopy) (s : State) : Res :=
  .next (
    if s.dev.mode != .loading || s.mfState != mfSlot then s
    else match s.load.cands, s.image .loader with
    | k :: rest, some b =>
        let r := slotResult b s.compat s.key false
        if r.1 = 1 then s.commit k r.2.2 saved else s.slotFailed k rest r.1 r.2.1
    | _, _ => s)

/-- A write of MF_CMD fails: any state but NONE (R125), and any value but the key, of which R125 says nothing (DESIGN CHOICE, log
entry 125). -/
def State.mfCmdFails (s : State) (v : Word) : Bool := v != 0x14D0A || s.mfState != mfNone
/-- Slot selection runs again: every run first returns codes and offsets to 0 and reads the headers (R121, R125). -/
def State.mfCmd (s : State) : State :=
  ((s.wrs ((List.range 6).map fun k => (MF_SLOTAR + k, (0 : Word)))).putMfState mfHeaders).readHeaders

/-! ### The manifest key (R118 to R120) -/

/-- The key that MF_KEYW0 to MF_KEYW7 hold. -/
def State.keyWords (s : State) : Nat := s.load.keyw.foldr (fun w m => w + 65536 * m) 0
/-- A write of MF_KEYCMD fails (R119). -/
def State.keyCmdFails (s : State) (v : Word) : Bool :=
  v != 0x26B3C || !(s.mfState == mfNone || s.mfState == mfWaitRef || s.mfState == mfWaitVgd) || s.key.isSome || s.keyWords == 0
/-- Programming begins (R120). -/
def State.keyCmd (s : State) : State := s.putMfState mfKeyProg

/-- KEY_PROGRAM_DONE (R119, R120): the key is set for good, or FAILED and source 0xE6; first gate release follows at once
when its conditions hold. -/
def execKeyProgramDone (ok : Bool) (s : State) : Res :=
  .next (
    if s.mfState != mfKeyProg || !s.awake then s
    else
      let s1 := (s.putMfState s.waitState).putb MF_KEYSTAT 1 (!ok)
      let s2 : State := if ok then { s1 with key := if s1.key.isNone then some (BitVec.ofNat 128 s.keyWords) else s1.key }
        else s1.raiseAll 0xE6 MF_KEYSTAT
      if s2.canRelease then s2.enterService else s2)

end Sys2Proof.Machine
end

