-- ==== Sys2Proof/Machine/Drydock.lean ====
section
/-! DEFINITION. Drydock (R540 to R552): docking, self-test, reload, sea trial. -/

namespace Sys2Proof.Machine

abbrev actDock : Nat := 1
abbrev actUndock : Nat := 2
abbrev actSelftest : Nat := 3
abbrev actReload : Nat := 4
abbrev actCancelq : Nat := 5

/-! ### Parts (R540, R541) -/

/-- The part of a PART code (R540). -/
def partOf (k : Nat) : Option Part :=
  if h : k < 12 then some (.berth ⟨k, h⟩)
  else if h : k < 17 then some (.lane ⟨k - 12, by omega⟩)
  else if h : k < 20 then some (.tender ⟨k - 17, by omega⟩)
  else if k = 20 then some .memory else if k = 21 then some .portA else if k = 22 then some .portB else none

/-- The PART code of a part. -/
def partCode : Part → Nat
  | .berth n => n.val | .lane l => 12 + l.val | .tender t => 17 + t.val | .memory => 20 | .portA => 21 | .portB => 22

/-- The part is docked (R541). -/
def State.isDocked (s : State) : Part → Bool
  | .berth n => s.bst n == stDrydock
  | .lane l => s.lane l == 3
  | .tender t => s.tdState t == tdDocked
  | .memory => s.mem.docked
  | .portA => s.moor.dockA
  | .portB => s.moor.dockB

/-- Affected berths of an event of a part (R554). -/
def State.partMask (s : State) : Part → BitVec 12
  | .berth n => s.berthMask n
  | _ => 0

/-- A berth's DD_BSTATn.PHASE. -/
def State.ddPhase (s : State) (n : Berth) (v : Nat) : State := s.put (DD_BSTAT0 + n.val) 2 0 v

/-- As `ddPhase`, for a part that is a berth. -/
def State.partPhase (s : State) (p : Part) (v : Nat) : State :=
  match p with | .berth n => s.ddPhase n v | _ => s

/-- A DOCKEND marker (R555). -/
def State.dockEnd (s : State) (p : Part) : State :=
  s.logPush (s.marker 8 [s.liveReg DD_RES, s.liveReg DD_RELCODE,
    match p with | .berth n => s.liveReg (DD_BSTAT0 + n.val) | _ => 0])

/-- The event of a drydock source (R554). -/
def State.raiseDock (s : State) (src adr : Nat) (p : Part) : State :=
  s.raise { src := src, affected := s.partMask p, adr := adr }

/-! ### When a DD_CMD write fails (R540, R541, R544 to R546) -/

/-- A self-test of the part runs. -/
def State.testing (s : State) (p : Part) : Bool := s.dock.selftests.contains p

/-- DOCK fails (R540, R548). -/
def State.dockFails (s : State) : Part → Bool
  | .berth n => s.outOfUse n || s.bst n == stUnmooring || s.bst n == stDrydock || s.bst n == stSeaTrial
  | .lane l =>
      (laneList.any fun k => k != l && s.lane k == 3) || s.lane l == 4 ||
        (s.lane l == 0 && !laneList.any fun k => s.lane k == 1)
  | .tender t => !s.tdPresent t || (t == 0 && s.decl.vgdSrc == 0) || s.tflag t TD_STAT 8
  | .memory => s.logState == logMounting || s.dock.reload.isSome || s.inMem (· == .host)
  | .portA => s.moor.dockB
  | .portB => s.moor.dockA

/-- UNDOCK fails (R541, R546); a part under self-test or reload stays docked (R541). -/
def State.undockFails (s : State) (p : Part) : Bool :=
  !s.isDocked p || s.testing p ||
  match p with
  | .berth n => s.bflag n BS_SENSE 13 || s.dock.reload.isSome || s.bflag n BP_TRIP 6
  | .tender _ => s.dock.reload.any fun r => r.1 == p
  | _ => false

/-- SELFTEST fails (R541, R544). -/
def State.selftestFails (s : State) (p : Part) : Bool :=
  !s.isDocked p ||
  match p with
  | .berth n => !s.allOff n || s.bflag n BS_SENSE 13 || s.dock.reload.isSome
  | .lane _ | .tender _ => false
  | _ => true

/-- RELOAD fails (R541, R545). -/
def State.reloadFails (s : State) (p : Part) : Bool :=
  !s.isDocked p || s.dock.reload.isSome || s.mem.docked || s.testing p ||
  match p with | .berth _ | .tender _ => false | _ => true

/-- CANCELQ fails (R541). -/
def State.cancelFails (s : State) : Part → Bool
  | .berth n => !s.host.held.getLsbD n.val
  | _ => true

/-- A write of DD_CMD fails (R541). -/
def State.ddCommandFails (s : State) (v : Word) : Bool :=
  bits v 14 13 == 3 ||
  match partOf (bits v 4 0) with
  | none => true
  | some p =>
      match bits v 17 15 with
      | 1 => s.dockFails p
      | 2 => s.undockFails p
      | 3 => s.selftestFails p
      | 4 => s.reloadFails p
      | 5 => s.cancelFails p
      | _ => true

/-! ### DOCK -/

/-- DOCK of a berth: UNMOORING, or DRYDOCK at once, and its stream is held (R440, R542). -/
def State.dockBerth (s : State) (n : Berth) : State :=
  let st := s.bst n
  let s1 := (s.modHost fun h => { h with held := h.held ||| (1#12 <<< n.val) }).ddPhase n 1
  if st = stStarting ∨ st = stRecatch ∨ st = stHolding then s1.stopNow n stDrydock
  else if st = stRunning then s1.beginStop n stUnmooring
  else if st = stStopping then s1.setState n stUnmooring
  else s1.setState n stDrydock

/-- DOCK of a lane (R549). -/
def State.dockLane (s : State) (l : Fin 5) : State :=
  ((if s.lane l = 0 then (s.swapLane l 3).1 else s.putLane l 3).modDock fun d =>
    { d with undock := d.undock &&& ~~~(1#5 <<< l.val) }).ddProgress actDock (12 + l.val) 2

/-- DOCK of a tender (R550): one whose gates may switch runs its stop first. -/
def State.dockTender (s : State) (t : Tender) : State :=
  if s.tdState t = tdDocked then s.ddProgress actDock (17 + t.val) 2
  else
    let v := s.tdState t
    let s1 := s.modTender t fun x => { x with dockWait := true }
    if v = tdRamp ∨ v = tdRegulating then s1.setTd t tdStopDelay
    else if v = tdStopDelay ∨ v = tdStopRamp then s1
    else s1.setTd t tdOff

/-- DOCK of the memory port (R480, R551). -/
def State.dockMemory (s : State) : State :=
  (if s.mem.docked then s
   else
    let b := s.logState
    ((s.modMem fun m => { m with docked := true }).modLog fun l => { l with before := b }).put LOG_STAT 2 0 logDocked).ddProgress
      actDock 20 2

/-- DOCK of a part. -/
def State.dockPart (s : State) (p : Part) : State :=
  match p with
  | .berth n => s.dockBerth n
  | .lane l => s.dockLane l
  | .tender t => s.dockTender t
  | .memory => s.dockMemory
  | .portA => (s.modMoor fun m => { m with dockA := true }).ddProgress actDock 21 2
  | .portB => (s.modMoor fun m => { m with dockB := true }).ddProgress actDock 22 2

/-- DRYDOCK_ENTRY: what the sequencer does as master DOCK when a berth has reached DRYDOCK (R543). -/
def execDrydockEntry (n : Berth) (s : State) : Res :=
  .next (
    if s.bst n != stDrydock || !(s.berth n).dockEntry then s
    else
      let s1 := s.forceWrite n (if s.shortsLow n then 0x6A else 0x7F)
      let s2 := s1.wrs [(ba n BG_SCCNT, 0), (ba n BG_BSCNT, 0)]
      let s3 := ((s2.bput n BS_SENSE 11 9 0).bput n BO_STAT 8 7 0).modBerth n fun b => { b with
        dockEntry := false
        ctl := { b.ctl with xa := 0, xb := 0, theta := 0, omega := 0, terr := 0, tho := 0, fm := 0 }
        start := { b.start with closed := false, trialStop := false, homing := false, homeEnd := false } }
      let s4 := ((s3.clrb (DD_BSTAT0 + n.val) 9).ddPhase n 3).modDock fun d => { d with cal := d.cal ||| (1#12 <<< n.val) }
      (s4.dockCal n).ddProgress actDock n.val 2)

/-! ### UNDOCK and the sea trial -/

/-- UNDOCK of a berth (R546): SEA TRIAL with FEN 0; channels that all passed are restored (R238). -/
def State.undockBerth (s : State) (n : Berth) : State :=
  let s1 := (s.setState n stSeaTrial).modBerth n fun b => { b with
    dockEntry := false, ctl := { b.ctl with last := s.tide.now }
    start := { b.start with closed := false, trialStop := false, homing := false, homeEnd := false } }
  let s2 := if s.flag (DD_BSTAT0 + n.val) 9 then s1.restoreChannels n else s1
  let s3 := (s2.ddPhase n 6).modDock fun d => { d with cal := d.cal &&& ~~~(1#12 <<< n.val) }
  s3.settle n

/-- UNDOCK of a tender (R550): OFF, and START DELAY when its EN is 1. -/
def State.undockTender (s : State) (t : Tender) : State :=
  let s1 := (s.setTd t tdOff).ddProgress actUndock (17 + t.val) 2
  let s2 := if s.tflag t TD_CTL 0 then s1.setTd t tdStartDelay else s1
  s2.dockEnd (.tender t)

/-- UNDOCK of the memory port: the logbook goes on from the state before, and waiting entries run (R480, R551). -/
def State.undockMemory (s : State) : State :=
  let b := s.mem.log.before
  (((((s.modMem fun m => { m with docked := false }).put LOG_STAT 2 0 b).ddProgress actUndock 20 2).logMount).logPump.logSettleOff).dockEnd
    .memory

/-- UNDOCK of a part. A lane runs its self-test once more (R549). -/
def State.undockPart (s : State) (p : Part) : State :=
  match p with
  | .berth n => s.undockBerth n
  | .lane l => (s.putLane l 2).modDock fun d => { d with undock := d.undock ||| (1#5 <<< l.val) }
  | .tender t => s.undockTender t
  | .memory => s.undockMemory
  | .portA => ((s.modMoor fun m => { m with dockA := false }).ddProgress actUndock 21 2).dockEnd .portA
  | .portB => ((s.modMoor fun m => { m with dockB := false }).ddProgress actUndock 22 2).dockEnd .portB

/-- The entry to DRYDOCK after a failed trial (R547): EN and FEN clear; DD_RES, source 0xE9 and the marker. -/
def State.trialFails (s : State) (n : Berth) : State :=
  let s1 := (s.stopNow n stDrydock).ddPhase n 2
  let s2 := s1.wr DD_RES (BitVec.ofNat 18 (actUndock * 32768 + n.val * 1024 + 3))
  (s2.raiseDock 0xE9 DD_RES (.berth n)).dockEnd (.berth n)

/-- SEA_TRIAL_FAIL: one of the events of R547 has occurred within DD_STTIME. -/
def execSeaTrialFail (n : Berth) (s : State) : Res :=
  .next (if s.bst n = stSeaTrial then s.trialFails n else s)

/-- The state that a passed trial leads to (R547). -/
def State.trialState (s : State) (n : Berth) : Nat :=
  if (s.berth n).start.closed then stRunning else if s.starting n then stStarting else stStopped

/-- A trial passes: the limits end, the berth takes the state of its progress, and its hold ends (R440, R547). -/
def State.trialPasses (s : State) (n : Berth) : State :=
  let s1 := (s.setState n (s.trialState n)).modStart n fun q => { q with trialStop := false }
  let s2 := ((s1.modHost fun h => { h with held := h.held &&& ~~~(1#12 <<< n.val) }).ddPhase n 0).ddProgress actUndock n.val 2
  s2.dockEnd (.berth n)

/-- SEA_TRIAL_END: DD_STTIME has passed without a failure (R547); a latched trip is one. -/
def execSeaTrialEnd (n : Berth) (s : State) : Res :=
  .next (if s.bst n = stSeaTrial ∧ !s.bflag n BP_TRIP 6 then s.trialPasses n else s)

/-! ### Self-tests (R544, R549, R550) -/

/-- A self-test of a docked part starts. -/
def State.selftestPart (s : State) (p : Part) : State :=
  (s.modDock fun d => { d with selftests := p :: d.selftests.erase p }).partPhase p 4

/-- A lane fails its self-test and is retired; 0x17 when no spare remains (R264). -/
def State.retireLane (s : State) (l : Fin 5) : State :=
  let s1 := s.putLane l 4
  if laneList.any fun k => s1.lane k == 1 then s1 else (s1.setb LE_EVT 3).raiseLane 0x17 l

/-- A channel fails the analog self-test: a result corrected by its offset lies more than 1 % from the expected code `e`
(R231). -/
def testFails (raw ofs e : Int) : Bool := decide (e.natAbs < 100 * (raw - ofs - e).natAbs)

/-- The channels of a berth that fail the self-test of R231, in the order of BS_EVT.OVR: +1.024 V and then -1.024 V are
65536 and -65536 current codes (R224), +32.768 V and then +8.192 V are 65536 and 16384 voltage codes (R225). -/
def State.failedChannels (s : State) (n : Berth) (r : SelfTest) : Nat :=
  phases.foldl (fun m p =>
    let oi := s.bint n (BS_OFSIU + p.idx)
    let ov := s.bint n (BS_OFSVU + p.idx)
    m + b2n (testFails (r.hi.i.get p) oi 65536 || testFails (r.lo.i.get p) oi (-65536)) * 2 ^ p.idx +
      b2n (testFails (r.hi.v.get p) ov 65536 || testFails (r.lo.v.get p) ov 16384) * 2 ^ (3 + p.idx)) 0

/-- A self-test passes: every channel of a berth (R544), or as the lane or tender itself judges (R549, R550). -/
def State.testPasses (s : State) (p : Part) (r : SelfTest) : Bool :=
  match p with | .berth n => s.failedChannels n r == 0 | _ => r.pass

/-- What a self-test of a part leaves: a berth's failed channels or STPASS; a lane that fails is retired. -/
def State.selftestResult (s : State) (p : Part) (r : SelfTest) : State :=
  match p with
  | .berth n =>
      let s1 := s.put (DD_BSTAT0 + n.val) 8 3 (s.failedChannels n r)
      if s.testPasses p r then s1.setb (DD_BSTAT0 + n.val) 9 else s1
  | .lane l => if r.pass then s else s.retireLane l
  | _ => s

/-- SELFTEST_DONE: a self-test ends (R544, R549, R550). -/
def execSelftestDone (p : Part) (r : SelfTest) (s : State) : Res :=
  .next (
    if !s.testing p then s
    else
      let s1 := (s.modDock fun d => { d with selftests := d.selftests.erase p }).partPhase p 2
      let s2 := (s1.selftestResult p r).ddProgress actSelftest (partCode p) (if s.testPasses p r then 2 else 3)
      let s3 := if s.testPasses p r then s2
        else s2.raiseDock 0xEB (match p with | .berth n => DD_BSTAT0 + n.val | _ => DD_RES) p
      s3.dockEnd p)

/-- LANE_SELFTEST_DONE of a lane in self-test: a pass makes it the spare, a fail retires it (R264, R265); it may be the
self-test of an UNDOCK (R549). -/
def execLaneSelftestDone (l : Fin 5) (pass : Bool) (s : State) : Res :=
  .next (
    if s.lane l != 2 then s
    else
      let s1 := if pass then s.putLane l 1 else s.retireLane l
      if !s.dock.undock.getLsbD l.val then s1
      else ((s1.modDock fun d => { d with undock := d.undock &&& ~~~(1#5 <<< l.val) }).ddProgress actUndock (12 + l.val)
        (if pass then 2 else 3)).dockEnd (.lane l))

/-! ### Reload (R545, R550) -/

/-- A reload starts: the slot is read, its header first (R545). -/
def State.reloadPart (s : State) (p : Part) (slot : Nat) : State :=
  ((s.modDock fun d => { d with reload := some (p, slot) }).partPhase p 5).startReads [loaderRead .reload slot 168]

/-- The declaration blocks in force with a reloaded part's own block, none when the image has none. -/
def Decl.withPart (d : Decl) (m : Decl) : Part → Option Decl
  | .berth n => (m.berth? n).map fun x => { d with berths := d.berths.set n.val (some x) }
  | .tender t => (m.tender? t).map fun x => { d with tenders := d.tenders.set t.val (some x) }
  | _ => none

/-- The code of a reload's checks (R122, R545), 1 when it succeeds, with the new declaration blocks and the image. -/
def State.reloadCheck (s : State) (p : Part) (image : List Nat) : Nat × Decl × Image :=
  let r := slotResult image s.compat s.key (s.pflag CS_SEAL 0)
  if r.1 ≠ 1 then (r.1, s.decl, r.2.2)
  else match s.decl.withPart r.2.2.decl p with
    | none => (4, s.decl, r.2.2)
    | some d => if s.decl.budget < estimate d then (9, s.decl, r.2.2) else (1, d, r.2.2)

/-- The section is applied as after a reset (R545, R550). -/
def State.applyReload (s : State) (p : Part) (d : Decl) (m : Image) : State :=
  let s1 : State := { s with load := { s.load with decl := some d } }
  let s2 := s1.wr PWR_GDEST (BitVec.ofNat 18 (estimate d))
  match p with
  | .berth n => (s2.loadBerth n m).modBerth n fun b => { b with noToken := false }
  | .tender t =>
      let s3 := s2.loadTender t m
      s3.modTender t fun x => { x with per := s3.tget t TD_PERIOD 14 0, ofs := s3.tget t TD_OFS 14 0 }
  | _ => s2

/-- What a reload has come to, once its reads have ended: the result of its checks. A reload whose read failed (R463) fails with a
code that the spec does not state: a free value from 2 to 13. -/
def State.reloadResult (s : State) (p : Part) : Option (Nat × Decl × Image) :=
  if s.load.lost then some (2 + s.freeVal % 12, s.decl, {})
  else (s.image .reload).map (s.reloadCheck p)

/-- RELOAD_DONE: the slot has been read; its checks decide (R545). -/
def execReloadDone (s : State) : Res :=
  .next (match s.dock.reload with
    | none => s
    | some (p, _) =>
        match s.reloadResult p with
        | none => s
        | some r =>
            let ok := r.1 == 1
            let s1 := ((s.modDock fun d => { d with reload := none }).partPhase p 2).useFree 1
            let s2 := if ok then s1.applyReload p r.2.1 r.2.2 else s1
            let s3 := (s2.put DD_RELCODE 3 0 r.1).ddProgress actReload (partCode p) (if ok then 2 else 3)
            (if ok then s3 else s3.raiseDock 0xEA DD_RES p).dockEnd p)

/-! ### CANCELQ (R440) -/

/-- A waiting entry of stream `k` fails CANCELLED. -/
def HEntry.cancel (k : Nat) (e : HEntry) : HEntry :=
  if e.stream = k ∧ e.phase = .waiting then { e with phase := .done, status := 4, reads := [] } else e

/-- CANCELQ: every held entry fails CANCELLED, the stream is fenced, the hold ends (R440, R548). -/
def State.cancelHold (s : State) (n : Berth) : State :=
  (s.modHost fun h => { h with
    queue := h.queue.map (HEntry.cancel n.val)
    fenced := h.fenced ||| (1#15 <<< n.val)
    held := h.held &&& ~~~(1#12 <<< n.val) }).ddProgress actCancelq n.val 2

/-! ### The command register -/

/-- A write of DD_CMD that is accepted (R541): DD_RES shows it, the DOCK marker is written, and it acts (R555). -/
def State.ddCommand (s : State) (v : Word) : State :=
  match partOf (bits v 4 0) with
  | none => s
  | some p =>
      let s1 := s.wr DD_RES (BitVec.ofNat 18 (bits v 17 15 * 32768 + partCode p * 1024 + 1))
      let s2 := s1.logPush (s1.marker 7 ([DD_RES, DD_BDOCK, DD_ODOCK].map fun a => s1.liveReg a))
      match bits v 17 15 with
      | 1 => s2.dockPart p
      | 2 => s2.undockPart p
      | 3 => s2.selftestPart p
      | 4 => s2.reloadPart p (bits v 14 13)
      | _ => match p with | .berth n => s2.cancelHold n | _ => s2

end Sys2Proof.Machine
end

