-- ==== Sys2Proof/Machine/Writes.lean ====
section
/-! DEFINITION. Register writes (R5 to R7, R35, R45, R124, R429, R431): what a written word leaves, when a write fails,
and what an accepted write does. A write is a list of words at rising addresses, tested as a whole and applied in one
step. -/

namespace Sys2Proof.Machine

/-! ### Fields (R5, R6) -/

/-- The word that a write of `v` leaves where `old` stands: RW fields take `v`, a 1 clears a W1C bit, every other field
keeps its value (R5, R6). -/
def mergeWrite (a : Nat) (old v : Word) : Word :=
  match cardAt a with
  | none => old
  | some c => c.fields.foldl (fun w f =>
      if f.acc = .rw then putBits w f.hi f.lo (bits v f.hi f.lo)
      else if f.acc = .w1c then putBits w f.hi f.lo (bits (old &&& ~~~v) f.hi f.lo)
      else w) old

/-- The register has a field of an access code. -/
def hasAcc (a : Nat) (x : Acc) : Bool :=
  match cardAt a with
  | none => false
  | some c => c.fields.any fun f => f.acc == x

/-- A manifest may load a field of the register (R110, R124), the curve fields of R114 included. -/
def loadsField (a : Nat) : Bool :=
  (match cardAt a with
    | none => false
    | some c => c.fields.any fun f => f.ld) ||
  (match blockOf a with
    | .berth n => a == ba n BD_CCTL || (ba n BD_CX0 ≤ a && a < ba n BD_CX0 + 32)
    | _ => false)

/-- A written field lies outside its range, or sets what its berth's class does not have (R187, R278). -/
def rangeFails (a : Nat) (v : Word) : Bool :=
  (match cardAt a with
    | none => false
    | some c => c.fields.any fun f => (f.acc == .rw || f.acc == .wo) && !fieldOk f v) || !classOk a v

/-- The key words that a write stores (MF_KEYW0 to MF_KEYW7). -/
def State.putKeyw (s : State) (k : Nat) (v : Word) : State :=
  { s with load := { s.load with keyw := s.load.keyw.set k (v.toNat % 65536) } }

/-- The address holds a key word. -/
def isKeyw (a : Nat) : Bool := MF_KEYW0 ≤ a && a < MF_KEYW0 + 8

/-- One word stored without any other effect: what R431 tests rules across fields on. -/
def State.storeWord (s : State) (a : Nat) (v : Word) : State :=
  if isKeyw a then s.putKeyw (a - MF_KEYW0) v
  else if isProt a then s
  else s.wr a (mergeWrite a (s.rd a) v)

/-- Every word of a write stored: the values that the whole write leaves (R431). -/
def State.storeAll (s : State) (ws : List (Nat × Word)) : State := ws.foldl (fun s p => s.storeWord p.1 p.2) s

/-! ### When a write fails (R431). `s` is the state before the write, `left` holds the values that it leaves. -/

/-- A host write to a loaded or RWL field before commit (R124). -/
def State.uncommittedFails (s : State) (a : Nat) : Bool :=
  !s.committed && s.mfState != mfNone && loadsField a &&
    !(0x0D00 ≤ a && a < 0x0E00) && !(0x0900 ≤ a && a < 0x0A00) && a != GLB_SNAPSTAT

/-- A host write would change an RWL field (R7). -/
def State.rwlFails (s : State) (a : Nat) (v : Word) : Bool :=
  match cardAt a with
  | none => false
  | some c => c.fields.any fun f => f.acc == .rwl && bits v f.hi f.lo != bits (s.prd a) f.hi f.lo

/-- A watch-timer register: a BLANK timer for a running berth, before or after (R144), or a LEN out of range (R146). -/
def State.timerFails (s left : State) (a : Nat) (v : Word) : Bool :=
  let k := (a - TIDE_WTCFG0) / 2
  let blanksRunning (t : State) : Bool :=
    t.wtMode k == wtBlank && berthList.any fun n => t.get (TIDE_WTCFG0 + 2 * k) 7 4 == n.val && s.bflag n BP_CTL 0
  blanksRunning s || blanksRunning left || !timerBlankOk left.word s.decl k ||
    ((a - TIDE_WTCFG0) % 2 == 1 && !wtLenOk (left.wtMode k) v.toNat)

/-- A write to the pages below 0x0900 fails. -/
def State.lowPageFails (s left : State) (a : Nat) (v : Word) : Bool :=
  if a = GLB_DBGHALT then v.getLsbD 0 && (s.flag MF_STAT 9 || s.mfState != mfService)
  else if a = PWR_SAGBERTH ∨ a = PWR_SAGCFG then !sagOk left.word s.decl s.compat
  else if a = PWR_SLEEP then v != 0x151EE || s.anyDock
  else if a = PWR_RESET then v != 0x25E70
  else if a = PWR_PUMP then !pumpOk left.word s.decl
  else if a = TIDE_WTCMD then s.wtCommandFails v
  else if TIDE_WTCFG0 ≤ a ∧ a < TIDE_WTCFG0 + 48 then s.timerFails left a v
  else if TH_NBR0 ≤ a ∧ a < TH_NBR0 + 10 then !nbrOk left.word (a - TH_NBR0)
  else if 0x8A0 ≤ a ∧ a < 0x900 then a % 16 != 15 && !ladderOk left.word (a % 16)
  else false

/-- A host entry is queued or runs: MP_HSTAT.BUSY. -/
def State.hostBusy (s : State) : Bool := s.inMem (· == .host)

/-- A write to the pages from 0x0A00 fails. -/
def State.highPageFails (s left : State) (m : Master) (a : Nat) (v : Word) : Bool :=
  if (MP_HENT0 ≤ a ∧ a ≤ MP_HPOLL) ∨ (MP_HBUF0 ≤ a ∧ a < MP_HBUF0 + 144) then s.hostBusy
  else if a = MP_HCMD then v.getLsbD 0 && left.goFails
  else if LOG_BASE0 ≤ a ∧ a ≤ LOG_TRCFG then s.logState != logOff
  else if a = ML_CMD then s.mlCommandFails v
  else if 0xB00 ≤ a ∧ a < 0xC00 then
    (loadsField a && s.committed && !s.hasMooring) ||
      (m == .host && s.flag ML_RELAY 17 && a == ML_DEMV0 + s.get ML_RELAY 5 0)
  else if a = CS_CMD then csCommandFails v
  else if a = CS_PCNT ∨ (CS_PADR0 ≤ a ∧ a < CS_PVAL0 + 16) then s.csState != csIdle
  else if a = CS_TXCMD then s.csTransmitFails v
  else if a = DD_CMD then s.ddCommandFails v
  else if a = MF_CMD then s.mfCmdFails v
  else if isKeyw a then s.mfState == mfKeyProg
  else if a = MF_KEYCMD then left.keyCmdFails v
  else if a = LE_CTL then m == .host && s.committed
  else false

/-- A write to a tender register fails (R102, R364, R365, R375, R383, R384). -/
def State.tenderFails (s left : State) (t : Tender) (o : Nat) (v : Word) : Bool :=
  let vgd := t == 0 && s.committed && s.decl.vgdSrc == 0
  if s.committed && !s.tdPresent t then true
  else if o = TD_CTL then vgd && s.tflag t TD_CTL 0 && !v.getLsbD 0 && !s.allIdle
  else if o = TD_PERIOD ∨ o = TD_OFS then
    !ofsOk left.word t || (match s.decl.tender? t with | some d => !fswOk left.word t d.fsw | none => false)
  else if o = TD_VREF then vgd
  else if o = TD_CMD then v.getLsbD 0 && s.tdState t != tdLatched
  else false

/-- A write of BP_FORCE fails (R163): in the starting programs only SELF writes, in DRYDOCK only HOST and DOCK, and in any
other state FEN cannot be set. -/
def State.forceFails (s : State) (m : Master) (n : Berth) (v : Word) : Bool :=
  if s.starting n then m != .self
  else if s.bst n = stDrydock then m != .host && m != .dock
  else v.getLsbD 6

/-- A write to a berth register below the demand block fails. -/
def State.driveFails (s left : State) (m : Master) (n : Berth) (o : Nat) (v : Word) : Bool :=
  let en := s.bflag n BP_CTL 0
  let st := s.bst n
  let changes (hi lo : Nat) : Bool := bits (s.brd n o) hi lo != bits v hi lo
  let fast := match s.decl.berth? n with | some d => !carrierOk left.word n d.fmax | none => false
  if o = BP_CTL then !periodOk left.word n || fast || (en && changes 3 2)
  else if o = BP_PERIOD then !periodOk left.word n || fast
  else if BP_CMPONU ≤ o ∧ o < BP_DEADT then
    m == .host && (st == stStarting || st == stRunning || st == stHolding || st == stStopping || st == stUnmooring ||
      st == stSeaTrial || st == stRecatch)
  else if o = BP_DISLVL ∨ o = BO_CTL then !catchOk left.word n
  else if o = BP_FORCE then s.forceFails m n v
  else if o = BG_CTL then !pumpOk left.word s.decl
  else if isAdaptiveOff o then isH n || (o == BG_CODELIM && !codelimOk left.word n)
  else if o = BS_CTL then
    (changes 1 0 && (en || !s.allOff n || !scthrOk left.word n)) ||
      (changes 5 3 && (en || (match s.decl.berth? n with | some d => !divOk left.word n d.fmax | none => false)))
  else if o = BS_CAL then v.getLsbD 0 && (en || !s.allOff n)
  else if o = BO_CMD then v.getLsbD 0 && (!s.bflag n BD_CTL 17 || !(st == stStopped || st == stHolding))
  else false

/-- A write to the demand and curve registers fails (R321, R326, R330). -/
def State.demandFails (s left : State) (n : Berth) (o : Nat) (v : Word) : Bool :=
  if o = BD_CCTL then v.getLsbD 17 && decide (16 < bits v 4 0)
  else if o = BD_CTL then
    !demandOk left.word n ||
      (s.bflag n BD_CTL 17 != v.getLsbD 17 && !(s.bst n == stStopped || s.bst n == stSafe))
  else if o = BD_ON ∨ o = BD_OFF ∨ o = BD_LOSST ∨ (BD_PMIN ≤ o ∧ o ≤ BD_BANDHI) then !demandOk left.word n
  else false

/-- One word of a write fails under a rule of the manual. -/
def State.wordFails (s left : State) (m : Master) (a : Nat) (v : Word) : Bool :=
  (m == .host && (s.uncommittedFails a || s.rwlFails a v)) || rangeFails a v ||
  (match blockOf a with
    | .page => if a < 0x0900 then s.lowPageFails left a v else s.highPageFails left m a v
    | .tender t => (cardAt a).isSome && s.tenderFails left t ((a - 0x0F00) % 0x40) v
    | .berth n =>
        let o := (a - 0x4000) % 0x400
        if o < BD_CTL then s.driveFails left m n o v else s.demandFails left n o v
    | .unmapped => true)

/-- The lowest-addressed word of a write that fails (R431, R436). -/
def State.writeFails (s : State) (m : Master) (ws : List (Nat × Word)) : Option Nat :=
  (ws.find? fun p => s.wordFails (s.storeAll ws) m p.1 p.2).map (·.1)

/-! ### What an accepted write does -/

/-- A word of a multi-word value (R45): a lower word waits in the master's pending buffer, the highest word makes the
whole value take effect. -/
def State.writeValue (s : State) (m : Master) (base k a : Nat) (w : Word) : State :=
  let buf : List (Nat × Word) := match (s.access.wbufs.find? fun p => p.1 == m.id).map (·.2) with
    | some b => if b.base = base then b.words else []
    | none => []
  if a = base + k - 1 then
    let s1 := (s.wrs buf).wr a w
    if buf.isEmpty then s1 else { s1 with access := { s1.access with wbufs := putKey s1.access.wbufs m.id none } }
  else
    let b : WBuf := { base := base, words := buf.filter (fun p => p.1 != a) ++ [(a, w)] }
    { s with access := { s.access with wbufs := putKey s.access.wbufs m.id (some b) } }

/-- A register without a further effect: its fields change under their access codes (R6). -/
def State.writePlain (s : State) (m : Master) (a : Nat) (v : Word) : State :=
  let w := mergeWrite a (s.rd a) v
  if isProt a then s
  else match valueOf a with
  | some (b, k) => if hasAcc a .rw then s.writeValue m b k a w else s
  | none => s.wr a w

/-- LOG_CTL is written: its EN edges mount the logbook, or end its writes (LOG_CTL.EN, R474). -/
def State.writeLogCtl (s : State) (v : Word) : State :=
  let s1 := s.wr LOG_CTL (mergeWrite LOG_CTL (s.rd LOG_CTL) v)
  if !s.flag LOG_CTL 11 && v.getLsbD 11 then
    (if s1.mem.log.off then ((s1.endJobs MemJob.ofMount).modLog fun l => { l with off := false }).mountReads else s1.logMount)
  else if s.flag LOG_CTL 11 && !v.getLsbD 11 then s1.logDisable
  else s1

/-- The bits of LOG_CMD act from bit 0 upward (R473, R476, R478, R479). -/
def State.writeLogCmd (s : State) (v : Word) : State :=
  let s1 := if v.getLsbD 0 then s.hostFlush else s
  let s2 := if v.getLsbD 1 then s1.logSaveTh else s1
  let s3 := if v.getLsbD 2 then s2.logSavePar else s2
  if v.getLsbD 3 then s3.logTrig 0xFF else s3

/-- A word of a device page. -/
def State.writePage (s : State) (m : Master) (a : Nat) (v : Word) : State :=
  if a = GLB_LOADALL then s.loadAll v
  else if a = GLB_DBGHALT then if v.getLsbD 0 then s.haltOn else if s.halted then s.haltOff else s
  else if a = PWR_SAGCLR then if v.getLsbD 0 then s.sagRelease else s
  else if a = PWR_SLEEP then s.sleepEntry
  else if a = TIDE_WTCMD then s.wtCommand v
  else if TIDE_WTCFG0 ≤ a ∧ a < TIDE_WTCFG0 + 48 ∧ a % 2 = 0 then
    (s.wtReconfigured ((a - TIDE_WTCFG0) / 2) (bits v 2 0)).writePlain m a v
  else if a = FC_CMD then if v.getLsbD 0 then s.clearRecord else s
  else if FC_PEND0 ≤ a ∧ a < FC_PEND0 + 15 then s.clearPending a v
  else if a = TH_CTL then (s.writePlain m a v).noteThCtl s
  else if a = TH_CONV then s.thConv v
  else if a = TH_READMIT then s.thReadmit v
  else if a = MP_HCMD then if v.getLsbD 0 then s.hostGo else s
  else if a = LOG_CTL then s.writeLogCtl v
  else if a = LOG_CMD then s.writeLogCmd v
  else if a = ML_CMD then s.mlCommand v
  else if a = ML_RLEDCLR then if v.getLsbD 0 then s.wrs ((List.range 6).map fun i => (ML_REIN0 + i, (0 : Word))) else s
  else if a = CS_CMD then s.csCommand v
  else if a = CS_TXCMD then s.csTransmit v
  else if a = DD_CMD then s.ddCommand v
  else if a = MF_CMD then s.mfCmd
  else if isKeyw a then s.putKeyw (a - MF_KEYW0) v
  else if a = MF_KEYCMD then s.keyCmd
  else s.writePlain m a v

/-- TD_CMD.CLR in LATCHED: OFF with EN 0, and the retry count returns to 0 (R375, R378). -/
def State.tenderClear (s : State) (t : Tender) : State :=
  if s.tdState t = tdLatched then ((s.setTd t tdOff).tputb t TD_CTL 0 false).tput t TD_RETRY 2 0 0 else s

/-- A word of a tender block (R375). -/
def State.writeTender (s : State) (m : Master) (t : Tender) (a : Nat) (v : Word) : State :=
  let o := (a - 0x0F00) % 0x40
  if o = TD_CTL then
    let s1 := s.writePlain m a v
    if !s.committed then s1
    else if !s.tflag t TD_CTL 0 && v.getLsbD 0 then s1.tenderStart t
    else if s.tflag t TD_CTL 0 && !v.getLsbD 0 then (s1.modTender t fun x => { x with thWait := false }).tenderStopHeld t
    else s1
  else if o = TD_PERIOD ∨ o = TD_OFS then (s.writePlain m a v).modTender t fun x => { x with timAt := s.tick }
  else if o = TD_CMD then if v.getLsbD 0 then s.tenderClear t else s
  else s.writePlain m a v

/-- BP_CTL is written: EN edges enable and disable the PWM unit (R159, R162). -/
def State.writePwmCtl (s : State) (n : Berth) (v : Word) : State :=
  let w := mergeWrite (ba n BP_CTL) (s.brd n BP_CTL) v
  let s1 := s.bwr n BP_CTL (putBits w 0 0 (s.bget n BP_CTL 0 0))
  if v.getLsbD 0 then s1.enableEn n else s1.disableEn n

/-- BP_DISLVL is written: a re-enable point of the switches under the disabled level (R162, R180). -/
def State.writeDislvl (s : State) (n : Berth) (v : Word) : State :=
  let s1 := s.bwr n BP_DISLVL (mergeWrite (ba n BP_DISLVL) (s.brd n BP_DISLVL) v)
  (s1.reEnableDis n).settle n

/-- BS_CTL is written: a new GAIN leaves the offsets stale (R216), a new DIV starts a new count (R219, R259). -/
def State.writeSenseCtl (s : State) (n : Berth) (v : Word) : State :=
  let s1 := s.bwr n BS_CTL (mergeWrite (ba n BS_CTL) (s.brd n BS_CTL) v)
  let s2 := if s.bget n BS_CTL 1 0 != bits v 1 0 then s1.bset n BS_SENSE 14 else s1
  if s.bget n BS_CTL 5 3 != bits v 5 3 then
    (s2.modPwm n fun q => { q with divCnt := 0, divAt := s.tickOf n }).bputb n BF_STAT 0 (decide ((s.berth n).divMf < bits v 5 3))
  else s2

/-- A write of 1 to BO_CMD.HOME (R304): homing starts unless something blocks a start of the berth. -/
def State.homeWrite (s : State) (n : Berth) : State :=
  if (s.disableEn n).startFree n then s.home n else s

/-- A word of a berth block below the demand registers. -/
def State.writeDrive (s : State) (m : Master) (n : Berth) (o : Nat) (v : Word) : State :=
  let a := ba n o
  if o = BP_CTL then s.writePwmCtl n v
  else if BP_PERIOD ≤ o ∧ o ≤ BP_PHASEOFS then s.writeShadow n (o - 1) (mergeWrite a (s.rd a) v)
  else if o = BP_LOAD then if v.getLsbD 0 then s.strobe n else s
  else if o = BP_DISLVL then s.writeDislvl n v
  else if o = BP_FORCE then s.forceWrite n v
  else if o = BP_TRIPCLR then if v.getLsbD 0 then s.tripClear n else s
  else if o = BS_CTL then s.writeSenseCtl n v
  else if o = BS_SAMPT then s.writeShadow n 9 (mergeWrite a (s.rd a) v)
  else if o = BS_CAL then if v.getLsbD 0 then s.startCal n else s
  else if o = BO_CMD then
    let s1 := if v.getLsbD 1 then s.restart n else s
    if v.getLsbD 0 then s1.homeWrite n else s1
  else if isH n && isAdaptiveOff o then s
  else s.writePlain m a v

/-- A word of a berth block from the demand registers on. -/
def State.writeDemand (s : State) (m : Master) (n : Berth) (o : Nat) (v : Word) : State :=
  let a := ba n o
  if o = BD_CTL then s.demandSource n (mergeWrite a (s.rd a) v)
  else if o = BD_HDEM ∧ m = .host then s.hostDemand n (mergeWrite a (s.rd a) v)
  else if o = BD_CCTL then
    let s1 := s.writePlain m a v
    if v.getLsbD 17 then s1.applyCurve n else s1
  else if o = BL_CLR then if v.getLsbD 0 then s.clearLedger n else s
  else if o = BE_PEND then s.clearPending a v
  else s.writePlain m a v

/-- One word of an accepted write takes its effect. A write of PWR_RESET acts after the whole write (R85). -/
def State.applyWord (s : State) (m : Master) (a : Nat) (v : Word) : State :=
  match blockOf a with
  | .page => if a = PWR_RESET then s else s.writePage m a v
  | .tender t => s.writeTender m t a v
  | .berth n =>
      let o := (a - 0x4000) % 0x400
      if o < BD_CTL then s.writeDrive m n o v else s.writeDemand m n o v
  | .unmapped => s

/-- An accepted write: its words in ascending order (R429); a PWR_RESET key then resets the device (R85). -/
def State.applyWrite (s : State) (m : Master) (ws : List (Nat × Word)) : State :=
  let s1 := ws.foldl (fun s p => s.applyWord m p.1 p.2) s
  if ws.any fun p => p.1 == PWR_RESET then s1.enterReset 4 else s1

/-- A write of one word by a master, in loading or service: it takes its effect, or fails and changes nothing (R431). -/
def State.regWrite (s : State) (m : Master) (a : Nat) (v : Word) : State :=
  if s.awake && (s.writeFails m [(a, v)]).isNone then s.applyWrite m [(a, v)] else s

/-- A host write of one word. -/
def State.hostWrite (s : State) (a : Nat) (v : Word) : State := s.regWrite .host a v

end Sys2Proof.Machine
end

