-- ==== Sys2Proof/Machine/HostPort.lean ====
section
/-! DEFINITION. The host port (chapter 14): frames and their acceptance tests, the queue, streams, fences, holds, FETCH, and
the compatibility view. -/

namespace Sys2Proof.Machine

/-! ### Reading a frame (R419 to R421, R451) -/

/-- The fields of a header word; `rep` is REPEAT of a FETCH, `seq` the sequence number where the header holds it. -/
structure Header where
  op : Nat
  count : Nat
  tag : Nat
  ovr : Nat
  rep : Bool
  seq : Nat
deriving DecidableEq, Repr

/-- The header of a word, native (R419) or compatible (R451). -/
def headerOf (compat : Bool) (w : Nat) : Header :=
  if compat then
    let op := w / 2 ^ 13 % 8
    { op := op, count := w / 64 % 128, tag := 0, ovr := w % 16, rep := op == 3 && w / 16 % 2 == 1, seq := w / 16 % 4 }
  else
    let op := w / 2 ^ 15 % 8
    { op := op, count := w / 256 % 128, tag := w / 64 % 4, ovr := w % 64, rep := op == 3 && w / 64 % 2 == 1, seq := 0 }

/-- Words of the frame as the header counts them (R418, R423). -/
def Header.length (h : Header) : Nat := if h.op = 1 then 3 + h.count else 3

/-- The stream that an override names (R419, R451). -/
def Header.override (h : Header) (compat : Bool) : Option Nat :=
  if compat then (if 1 ≤ h.ovr then some (h.ovr - 1) else none)
  else if 0x20 ≤ h.ovr ∧ h.ovr ≤ 0x2E then some (h.ovr - 0x20) else none

/-- Bytes of a word as the CRC takes them (R421, R451). -/
def crcBytes (compat : Bool) (w : Nat) : List Nat :=
  if compat then [w / 256 % 256, w % 256] else wordBytes3 w

/-- Header and address word keep R419 and R420 (R451); a REPEAT needs the stored block of its COUNT (R446). -/
def State.headerOk (s : State) (h : Header) (addr : Nat) : Bool :=
  let c := s.compat
  let ovrOk := if c then true else h.ovr == 0 || (h.override false).isSome
  let bit := if c then h.seq < 2 else h.tag < 2
  if h.op = 1 ∨ h.op = 2 then ovrOk && addr < 65536
  else if h.op = 3 then
    bit && h.ovr == 0 && addr == 0 && (!h.rep || (match s.host.block with | some b => b.count == h.count | none => false))
  else if h.op = 0 ∨ h.op = 4 then h.count == 0 && h.ovr == 0 && addr == 0
  else if h.op = 5 then h.count == 0 && ovrOk && h.ovr != 0 && addr == 0
  else false

/-- What the tests of R422 and R424 make of a frame. -/
inductive Verdict
  | reject (reason seq op : Nat)
  | dup
  | accept (h : Header) (addr seq : Nat) (data : List Nat)
deriving DecidableEq, Repr

/-- Reason codes of R422. -/
abbrev rFraming : Nat := 1
abbrev rShort : Nat := 2
abbrev rCheck : Nat := 3
abbrev rHeader : Nat := 4
abbrev rSeq : Nat := 5
abbrev rQfull : Nat := 6

/-- The tests of R422 in their order (R422 to R425, R451). -/
def State.verdict (s : State) (f : RawFrame) : Verdict :=
  let c := s.compat
  let ws := if c then f.words.map (· % 65536) else f.words
  match ws with
  | [] => .reject (if 0 < f.partialBits then rFraming else rShort) 0 0
  | w :: _ =>
      let h := headerOf c w
      let n := h.length
      if ws.length < n then .reject (if 0 < f.partialBits then rFraming else rShort) 0 h.op
      else
        let body := ws.take (n - 1)
        let check := ws.getD (n - 1) 0
        let seq := if c then (if h.op = 3 then 0 else h.seq) else check / 65536 % 4
        let crc := crc16 (body.flatMap (crcBytes c) ++ (if c then [] else [seq]))
        let addr := ws.getD 1 0
        let sequenced := h.op == 1 || h.op == 2 || h.op == 4 || h.op == 5
        if crc ≠ check % 65536 then .reject rCheck seq h.op
        else if !s.headerOk h addr then .reject rHeader seq h.op
        else if sequenced && seq == s.host.lastSeq then .dup
        else if sequenced && seq != (s.host.lastSeq + 1) % 4 then .reject rSeq seq h.op
        else if sequenced && s.hostFree == 0 then .reject rQfull seq h.op
        else .accept h addr seq (body.drop 2)

/-- The source that a rejection raises (R422). -/
def rejectSource (reason : Nat) : Option Nat :=
  if reason = rCheck then some 0x20 else if reason = rSeq then none else if reason = rQfull then some 0x23 else some 0x21

/-- A host frame has been received, for the idle policy: one accepted, or received complete and then rejected (R95, R427). A
duplicate is neither (R424). -/
def State.noteFrame (s : State) : State := s.modDev fun d => { d with frameAt := s.tide.now }

/-- A frame is rejected: HP_EVT, HP_REJ, HP_REJCNT, REJ of the next status word, and the source, with KIND 2, MASTER 1 and
ACC 7; nothing else (R422, R445). -/
def State.rejectFrame (s : State) (reason seq op : Nat) : State :=
  let s1 := ((s.setb HP_EVT (reason - 1)).wr HP_REJ (BitVec.ofNat 18 (seq * 65536 + op * 8192 + reason))).incSat 0x908
  let s2 := s1.modHost fun h => { h with rej := true }
  let s3 := if reason ≤ 2 then s2 else s2.noteFrame
  match rejectSource reason with
  | some src => s3.raise { src := src, affected := s3.allBerths, master := 1, acc := 7, kind := 2 }
  | none => s3

/-- Clock edges followed the complete frame (R426). For a FETCH they follow the response check word. -/
def trails (f : RawFrame) (h : Header) : Bool :=
  f.trail || (if h.op = 3 then decide (h.count + 2 < f.clocked) else decide (h.length < f.words.length) || decide (0 < f.partialBits))

/-- A frame is accepted: HP_FRM counts it. -/
def State.countFrame (s : State) : State := (s.putWide HP_FRM0 (s.wide HP_FRM0 2 + 1) 2).noteFrame

/-! ### Streams (R37, R452) -/

/-- The row of the table in R33 that holds a native address, none for an unmapped one. -/
def mapRow (a : Nat) : Option Nat :=
  if a < 0x300 then some (a / 0x100)
  else if a < 0x400 then none
  else if a < 0x800 then some 4
  else if a < 0xF00 then some (a / 0x100)
  else if a < 0xFC0 then some (0x100 + (a - 0xF00) / 0x40)
  else if a < 0x4000 then none
  else if a < 0x7000 then some (0x200 + (a - 0x4000) / 0x400)
  else none

/-- The stream of a native address (R33, R37). -/
def streamOf (a : Nat) : Nat :=
  match blockOf a with
  | .berth n => n.val
  | .tender _ => 12
  | .page => if (0x400 ≤ a ∧ a < 0x800) ∨ (0xA00 ≤ a ∧ a < 0xB00) then 14 else 13
  | .unmapped => 13

/-- The native address of a host address; an unmapped one stays unmapped (R452). -/
def hostAddr (compat : Bool) (a : Nat) : Nat :=
  if !compat then a
  else if 0x2000 ≤ a ∧ a < 0x3800 then a + 0x2000
  else if 0x4000 ≤ a ∧ a < 0x5800 then 0xFFFF
  else a

/-- A WRITE or READ of `count` words from a host address has one mapped row (R430). -/
def rangeOk (compat : Bool) (a count : Nat) : Bool :=
  let lo := hostAddr compat a
  let hi := hostAddr compat (a + count - 1)
  a + count ≤ 0x10000 && (mapRow lo).isSome && mapRow lo == mapRow hi && hi == lo + count - 1

/-- A compare or BP_PERIOD, which the compatibility view scales by 4 (R174). -/
def isScaled (a : Nat) : Bool :=
  match blockOf a with
  | .berth n => ba n BP_PERIOD ≤ a && a < ba n BP_DEADT
  | _ => false

/-- The data word that a host word stands for (R174, R453). -/
def hostWord (compat : Bool) (a v : Nat) : Word :=
  if compat && isScaled a then BitVec.ofNat 18 (4 * (v % 65536)) else BitVec.ofNat 18 v

/-- What a host read returns for a word, and whether it lost upper bits (R174, R453). -/
def hostRead (compat : Bool) (a : Nat) (w : Word) : Word × Bool :=
  if !compat then (w, false)
  else if isScaled a then (BitVec.ofNat 18 (w.toNat / 4), false)
  else (BitVec.ofNat 18 (w.toNat % 65536), decide (65536 ≤ w.toNat))

/-! ### Accepted frames -/

/-- An entry joins the queue, and its frame's sequence number becomes LASTSEQ (R424, R428). -/
def State.acceptEntry (s : State) (seq : Nat) (e : HEntry) : State :=
  let s1 := s.countFrame.modHost fun h => { h with lastSeq := seq, queue := h.queue ++ [e] }
  s1.put HP_QMAX 6 0 (max (s.get HP_QMAX 6 0) s1.host.queue.length)

/-- The entry of a WRITE, READ, BARRIER or FENCEREL frame (R428, R437, R439). -/
def entryOf (compat : Bool) (h : Header) (addr : Nat) (data : List Nat) : HEntry :=
  let own := match h.override compat with | some k => k | none => streamOf (hostAddr compat addr)
  let lo := hostAddr compat addr
  if h.op = 1 then
    { kind := 0, tag := h.tag, stream := own, addr := addr, count := h.count
      data := data.zipIdx.map fun p => hostWord compat (lo + p.2) p.1 }
  else if h.op = 2 then { kind := 1, tag := h.tag, stream := own, addr := addr, count := h.count }
  else if h.op = 4 then { kind := 2, tag := h.tag, stream := 15, addr := 0, count := 0 }
  else { kind := 3, tag := h.tag, stream := own, addr := 0, count := 0 }

/-- The words of an entry's response that have been delivered are released; a fully released entry leaves its slot
(R428, R446). -/
def releaseSent (compat : Bool) (l : List HEntry) : List HEntry :=
  (l.map fun e => { e with released := e.sent }).filter fun e => !(e.phase == .done && (e.words compat).length ≤ e.released)

/-- The next `k` ready words are marked delivered, oldest first (R435, R444). -/
def markSent (compat : Bool) : Nat → List HEntry → List HEntry
  | _, [] => []
  | k, e :: r =>
      if e.phase = .done then
        let left := (e.words compat).length - e.sent
        { e with sent := e.sent + min k left } :: markSent compat (k - min k left) r
      else e :: r

/-- A FETCH with REPEAT 0 (R444 to R446): the delivered words are released, then the status word and the words are taken
into the block. -/
def State.fetchNew (s : State) (count : Nat) : State :=
  let c := s.compat
  let q := releaseSent c s.host.queue
  let blk := !s.host.blk
  let ready := readyGo c q
  let valid := min count ready.length
  let status := if c then s.host.lastSeq * 16384 + (64 - q.length) * 128 + valid
    else s.host.lastSeq * 65536 + 32768 * b2n blk + 16384 * b2n s.host.rej + (64 - q.length) * 128 + valid
  let words := ready.take valid ++ List.replicate (count - valid) 0
  s.modHost fun h => { h with
    blk := blk, rej := false, queue := markSent c valid q, block := some { count := count, status := status, words := words } }

/-- The words that the block puts on the wire: status, words and check word (R444). -/
def FetchBlock.response (b : FetchBlock) (compat : Bool) : List Nat :=
  (b.status :: b.words) ++ [crc16 ((b.status :: b.words).flatMap (crcBytes compat))]

/-- A frame that passed its tests takes its effect (R425, R428, R444). -/
def State.acceptFrame (s : State) (f : RawFrame) (h : Header) (addr seq : Nat) (data : List Nat) : State :=
  let s0 := if trails f h then s.setb HP_EVT 7 else s
  if h.op = 0 then s0.countFrame.modHost fun x => { x with lastSeq := seq }
  else if h.op = 3 then
    let s1 := if h.rep then s0.countFrame else s0.countFrame.fetchNew h.count
    if f.clocked < h.count + 2 then s1.setb HP_EVT 8 else s1
  else s0.acceptEntry seq (entryOf s.compat h addr data)

/-- The port sees frames while it is powered and VIO is in its range (R79). -/
def State.hostListens (s : State) : Bool := s.awake && s.dev.vioOk

/-- A frame ends (R422, R424, R426). -/
def State.hostFrame (s : State) (f : RawFrame) : State :=
  if !s.hostListens then s
  else match s.verdict f with
  | .reject r seq op => s.rejectFrame r seq op
  | .dup =>
      let c := s.compat
      let h := headerOf c (f.words.getD 0 0 % (if c then 65536 else 2 ^ 18))
      (if trails f h then s.setb HP_EVT 7 else s).setb HP_EVT 6
  | .accept h addr seq data => s.acceptFrame f h addr seq data

/-- A frame of opcode `op` as received. -/
def State.frameOp (s : State) (f : RawFrame) : Nat := (headerOf s.compat (f.words.getD 0 0)).op

/-- NOP (R425). -/
def execNop (f : RawFrame) (s : State) : Res := .next (if s.frameOp f = 0 then s.hostFrame f else s)
/-- WRITE (R428, R429). -/
def execWrite (f : RawFrame) (s : State) : Res := .next (if s.frameOp f = 1 then s.hostFrame f else s)
/-- READ (R428, R429). -/
def execRead (f : RawFrame) (s : State) : Res := .next (if s.frameOp f = 2 then s.hostFrame f else s)
/-- FETCH (R444 to R447). -/
def execFetch (f : RawFrame) (s : State) : Res := .next (if s.frameOp f = 3 then s.hostFrame f else s)
/-- BARRIER (R428, R439). -/
def execBarrier (f : RawFrame) (s : State) : Res := .next (if s.frameOp f = 4 then s.hostFrame f else s)
/-- FENCEREL (R428, R437). -/
def execFencerel (f : RawFrame) (s : State) : Res := .next (if s.frameOp f = 5 then s.hostFrame f else s)
/-- HOST_FRAME_REJECTED (R422). -/
def execHostFrameRejected (f : RawFrame) (s : State) : Res :=
  .next (
    if !s.hostListens then s
    else match s.verdict f with
    | .reject r seq op => s.rejectFrame r seq op
    | _ => s)

/-! ### Running entries (R434 to R442) -/

/-- The entry may start behind the entries `before` it: R434, R439, and the holds of R440. -/
def entryFree (held : BitVec 12) (before : List HEntry) (e : HEntry) : Bool :=
  e.phase == .waiting && !(e.stream < 12 && held.getLsbD e.stream) &&
  before.all fun x => x.phase == .done || (e.kind != 2 && x.kind != 2 && x.stream != e.stream)

/-- The place of the entry that the port starts next: the oldest that may start (R438). -/
def firstFree (held : BitVec 12) : List HEntry → List HEntry → Nat → Option Nat
  | _, [], _ => none
  | before, e :: r, i => if entryFree held before e then some i else firstFree held (before ++ [e]) r (i + 1)

/-- Entry `k` of the queue may start now: fewer than four run, and it is the oldest that may (R438). -/
def State.entryStarts (s : State) (k : Nat) : Bool :=
  decide ((s.host.queue.filter fun e => e.phase == .running).length < 4) && firstFree s.host.held [] s.host.queue 0 == some k

/-- Change entry `k`. -/
def State.modEntry (s : State) (k : Nat) (f : HEntry → HEntry) : State :=
  s.modHost fun h => { h with queue := h.queue.modify k f }

/-- Words read one at a time from native address `a` (R429): the words, whether one lost bits, the state after. -/
def State.readWords (s : State) (a : Nat) : Nat → List Word × Bool × State
  | 0 => ([], false, s)
  | k + 1 =>
      let p := s.readReg 1 a
      let r := hostRead s.compat a p.1
      let q := p.2.readWords (a + 1) k
      (r.1 :: q.1, r.2 || q.2.1, q.2.2)

/-- A WRITE or READ entry accesses its registers (R429 to R433, R436). `stall` is the access that meets a stalled
crossing. -/
def State.entryAccess (s : State) (k : Nat) (e : HEntry) (stall : Option Nat) : State :=
  let lo := hostAddr s.compat e.addr
  let fail (t : State) (st adr : Nat) : State := t.modEntry k fun x => { x with status := st, failAdr := adr }
  let done (t : State) (st : Nat) (l : List Word) : State := t.modEntry k fun x => { x with status := st, reads := l }
  if e.stream < 15 && s.host.fenced.getLsbD e.stream then done s 1 []
  else if e.count = 0 then done s 0 []
  else if !rangeOk s.compat e.addr e.count then fail s 2 e.addr
  else if e.kind = 0 then
    let ws := e.data.zipIdx.map fun p => (lo + p.2, p.1)
    match stall with
    | some i => fail s 5 (lo + min i (e.count - 1))
    | none =>
      match s.writeFails .host ws with
      | some a => fail s 3 a
      | none => done (s.applyWrite .host ws) 0 []
  else
    match stall with
    | some i => fail (s.readWords lo (min i (e.count - 1))).2.2 5 (lo + min i (e.count - 1))
    | none =>
      let r := s.readWords lo e.count
      done r.2.2 (if r.2.1 then 6 else 0) r.1

/-- ENTRY_RUN: the port starts entry `k` of the queue, in issue order whenever its stream allows (R438); a WRITE is applied
in one step, a READ reads its words. -/
def execEntryRun (k : Nat) (stall : Option Nat) (s : State) : Res :=
  .next (
    match s.host.queue[k]? with
    | none => s
    | some e =>
        if !s.awake || !s.entryStarts k then s
        else
          let s1 := s.modEntry k fun x => { x with phase := .running }
          if e.kind ≤ 1 then s1.entryAccess k e stall else s1)

/-- A failed entry fences its stream; the first to do so raises source 0x22 (R436). -/
def State.fenceFor (s : State) (e : HEntry) : State :=
  if s.host.fenced.getLsbD e.stream then s
  else
    let s1 := (s.modHost fun h => { h with fenced := h.fenced ||| (1#15 <<< e.stream) }).setb HP_EVT 10
    s1.raise { src := 0x22, affected := s1.allBerths, master := 1, acc := if e.kind = 0 then 1 else 0, kind := 0, adr := e.failAdr }

/-- ENTRY_COMPLETE: running entry `k` completes and its response waits for its turn (R435); a FENCEREL clears the fence
(R437), a failure fences the stream (R436). -/
def execEntryComplete (k : Nat) (s : State) : Res :=
  .next (
    match s.host.queue[k]? with
    | none => s
    | some e =>
        if !s.awake || e.phase != .running then s
        else
          let s1 := s.modEntry k fun x => { x with phase := .done }
          if e.kind = 3 then s1.modHost fun h => { h with fenced := h.fenced &&& ~~~(1#15 <<< e.stream) }
          else if e.kind ≤ 1 ∧ (e.status = 2 ∨ e.status = 3 ∨ e.status = 5) then s1.fenceFor e
          else if e.status = 6 then s1.setb HP_EVT 9
          else s1)

end Sys2Proof.Machine
end

