-- ==== Sys2Proof/Machine/WriteRows.lean ====
section
/-! DEFINITION. The commands that are register writes. Each is the write of its register with the whole data word `v` of
the command, so the other fields of the word act too; a write that fails changes nothing (R431; the fence of R436 belongs
to the entry that carries the write, `execEntryComplete`). -/

namespace Sys2Proof.Machine

/-- PWR_RESET (R85). -/
def execPwrReset (v : Word) (s : State) : Res := .next (s.hostWrite PWR_RESET v)
/-- PWR_SAGCLR (R92). -/
def execPwrSagclr (v : Word) (s : State) : Res := .next (s.hostWrite PWR_SAGCLR v)
/-- PWR_SLEEP (R95, R552). -/
def execPwrSleep (v : Word) (s : State) : Res := .next (s.hostWrite PWR_SLEEP v)
/-- MF_CMD (R125). -/
def execMfCmd (v : Word) (s : State) : Res := .next (s.hostWrite MF_CMD v)
/-- MF_KEYCMD (R119, R120). -/
def execMfKeycmd (v : Word) (s : State) : Res := .next (s.hostWrite MF_KEYCMD v)
/-- WT_START: a write of TIDE_WTCMD with START 1 (R145, R146). -/
def execWtStart (v : Word) (s : State) : Res := .next (s.hostWrite TIDE_WTCMD v)
/-- WT_STOP: a write of TIDE_WTCMD with STOP 1 (R145). -/
def execWtStop (v : Word) (s : State) : Res := .next (s.hostWrite TIDE_WTCMD v)
/-- WT_CFG_WRITE (R144, R146). -/
def execWtCfgWrite (k : Fin 24) (v : Word) (s : State) : Res := .next (s.hostWrite (TIDE_WTCFG0 + 2 * k.val) v)
/-- LOADALL (R155, R156). -/
def execLoadall (v : Word) (s : State) : Res := .next (s.hostWrite GLB_LOADALL v)
/-- DEBUG_HALT: a write of GLB_DBGHALT with HALT 1 (R173). -/
def execDebugHalt (v : Word) (s : State) : Res := .next (s.hostWrite GLB_DBGHALT v)
/-- DEBUG_RESUME: a write of GLB_DBGHALT with HALT 0 (R173). -/
def execDebugResume (v : Word) (s : State) : Res := .next (s.hostWrite GLB_DBGHALT v)
/-- BP_LOAD (R155, R156). -/
def execBpLoad (n : Berth) (v : Word) (s : State) : Res := .next (s.hostWrite (ba n BP_LOAD) v)
/-- PWM_ENABLE: a write of BP_CTL with EN 1 (R159, R161). -/
def execPwmEnable (n : Berth) (v : Word) (s : State) : Res := .next (s.hostWrite (ba n BP_CTL) v)
/-- PWM_DISABLE: a write of BP_CTL with EN 0 (R156, R162). -/
def execPwmDisable (n : Berth) (v : Word) (s : State) : Res := .next (s.hostWrite (ba n BP_CTL) v)
/-- TRIP_CLEAR (R170, R171). -/
def execTripClear (n : Berth) (v : Word) (s : State) : Res := .next (s.hostWrite (ba n BP_TRIPCLR) v)
/-- BS_CAL_RUN (R228, R229). -/
def execBsCalRun (n : Berth) (v : Word) (s : State) : Res := .next (s.hostWrite (ba n BS_CAL) v)
/-- BL_CLR (R269). -/
def execBlClr (n : Berth) (v : Word) (s : State) : Res := .next (s.hostWrite (ba n BL_CLR) v)
/-- RESTART: a write of BO_CMD with RESTART 1 (R292). -/
def execRestart (n : Berth) (v : Word) (s : State) : Res := .next (s.hostWrite (ba n BO_CMD) v)
/-- HOME: a write of BO_CMD with HOME 1 (R304). -/
def execHome (n : Berth) (v : Word) (s : State) : Res := .next (s.hostWrite (ba n BO_CMD) v)
/-- BD_HDEM (R313, R331). -/
def execBdHdem (n : Berth) (v : Word) (s : State) : Res := .next (s.hostWrite (ba n BD_HDEM) v)
/-- DEMAND_SOURCE_WRITE: a write of BD_CTL (R315, R318, R321, R330). -/
def execDemandSourceWrite (n : Berth) (v : Word) (s : State) : Res := .next (s.hostWrite (ba n BD_CTL) v)
/-- APPLY: a write of BD_CCTL with APPLY 1 (R326). -/
def execApply (n : Berth) (v : Word) (s : State) : Res := .next (s.hostWrite (ba n BD_CCTL) v)
/-- TH_CONV (R338). -/
def execThConv (v : Word) (s : State) : Res := .next (s.hostWrite TH_CONV v)
/-- TH_READMIT (R344). -/
def execThReadmit (v : Word) (s : State) : Res := .next (s.hostWrite TH_READMIT v)
/-- TENDER_ENABLE: a write of TD_CTL with EN 1 (R375). -/
def execTenderEnable (t : Tender) (v : Word) (s : State) : Res := .next (s.hostWrite (ta t TD_CTL) v)
/-- TENDER_DISABLE: a write of TD_CTL with EN 0 (R375, R379, R384). -/
def execTenderDisable (t : Tender) (v : Word) (s : State) : Res := .next (s.hostWrite (ta t TD_CTL) v)
/-- TD_CMD_CLR (R375, R378). -/
def execTdCmdClr (t : Tender) (v : Word) (s : State) : Res := .next (s.hostWrite (ta t TD_CMD) v)
/-- CLRREC (R409). -/
def execClrrec (v : Word) (s : State) : Res := .next (s.hostWrite FC_CMD v)
/-- GO (R464). -/
def execGo (v : Word) (s : State) : Res := .next (s.hostWrite MP_HCMD v)
/-- LOG_DISABLE: a write of LOG_CTL with EN 0 (R474). -/
def execLogDisable (v : Word) (s : State) : Res := .next (s.hostWrite LOG_CTL v)
/-- FLUSH: a write of LOG_CMD with FLUSH 1 (R473, R481). -/
def execFlush (v : Word) (s : State) : Res := .next (s.hostWrite LOG_CMD v)
/-- ROLL: a write of ML_CMD with ROLL 1 (R499). -/
def execRoll (v : Word) (s : State) : Res := .next (s.hostWrite ML_CMD v)
/-- ILVSEND: a write of ML_CMD with ILVSEND 1 (R511). -/
def execIlvsend (v : Word) (s : State) : Res := .next (s.hostWrite ML_CMD v)
/-- WAKE: a write of ML_CMD with WAKE 1 (R520). -/
def execWake (v : Word) (s : State) : Res := .next (s.hostWrite ML_CMD v)
/-- ML_RLEDCLR (R519). -/
def execMlRledclr (v : Word) (s : State) : Res := .next (s.hostWrite ML_RLEDCLR v)
/-- PROPOSE: a write of CS_CMD with PROPOSE 1 (R527). -/
def execPropose (v : Word) (s : State) : Res := .next (s.hostWrite CS_CMD v)
/-- CONFIRM: a write of CS_CMD with CONFIRM 1 (R530, R531). -/
def execConfirm (v : Word) (s : State) : Res := .next (s.hostWrite CS_CMD v)
/-- PILOTCONF: a write of CS_CMD with PILOTCONF 1 (R530 to R532). -/
def execPilotconf (v : Word) (s : State) : Res := .next (s.hostWrite CS_CMD v)
/-- WITHDRAW: a write of CS_CMD with WITHDRAW 1 (R533). -/
def execWithdraw (v : Word) (s : State) : Res := .next (s.hostWrite CS_CMD v)
/-- SENDPROP: a write of CS_TXCMD with SENDPROP 1 (R539). -/
def execSendprop (v : Word) (s : State) : Res := .next (s.hostWrite CS_TXCMD v)
/-- SENDCONF: a write of CS_TXCMD with SENDCONF 1 (R539). -/
def execSendconf (v : Word) (s : State) : Res := .next (s.hostWrite CS_TXCMD v)
/-- TXCMD_WITHDRAW: a write of CS_TXCMD with WITHDRAW 1 (R539). -/
def execTxcmdWithdraw (v : Word) (s : State) : Res := .next (s.hostWrite CS_TXCMD v)
/-- DOCK: a write of DD_CMD with ACTION 1 (R540 to R542). -/
def execDock (v : Word) (s : State) : Res := .next (s.hostWrite DD_CMD v)
/-- UNDOCK: a write of DD_CMD with ACTION 2 (R541, R546). -/
def execUndock (v : Word) (s : State) : Res := .next (s.hostWrite DD_CMD v)
/-- SELFTEST: a write of DD_CMD with ACTION 3 (R541, R544). -/
def execSelftest (v : Word) (s : State) : Res := .next (s.hostWrite DD_CMD v)
/-- RELOAD: a write of DD_CMD with ACTION 4 (R541, R545). -/
def execReload (v : Word) (s : State) : Res := .next (s.hostWrite DD_CMD v)
/-- CANCELQ: a write of DD_CMD with ACTION 5 (R440, R541). -/
def execCancelq (v : Word) (s : State) : Res := .next (s.hostWrite DD_CMD v)

/-- SHADOW_WRITE: a master writes one of the ten shadows (R153, R218, R261). -/
def execShadowWrite (m : Master) (n : Berth) (sh : Fin 10) (v : Word) (s : State) : Res :=
  .next (s.regWrite m (ba n (shadowOff sh.val)) v)
/-- BP_FORCE: a master writes the force register (R163, R180). -/
def execBpForce (m : Master) (n : Berth) (v : Word) (s : State) : Res := .next (s.regWrite m (ba n BP_FORCE) v)
/-- A pending word: FC_PEND0 to FC_PEND14, or BE_PEND of a berth (R392). -/
def isPendWord (a : Nat) : Bool :=
  (FC_PEND0 ≤ a && a < FC_PEND0 + 15) || berthList.any fun n => a == ba n BE_PEND
/-- PENDING_CLEAR: a host write to a pending word, FC_PEND or BE_PEND (R399, R401, R412); a write elsewhere is no row of
this kind. -/
def execPendingClear (a : Nat) (v : Word) (s : State) : Res := .next (if isPendWord a then s.hostWrite a v else s)
/-- REGISTER_WRITE: a write by a master to any register (R5 to R7, R35, R36). -/
def execRegisterWrite (m : Master) (a : Nat) (v : Word) (s : State) : Res := .next (s.regWrite m a v)

end Sys2Proof.Machine
end

