-- ==== Sys2Proof/Machine/Dispatch.lean ====
section
/-! DEFINITION. The effect of each command: one arm for each constructor of `Instr`. -/

namespace Sys2Proof.Machine

def exec (i : Instr) (s : State) : Host.Outcome State Fault Refusal :=
  match i with
  | .powerOn rstnLow => Sys2Proof.Machine.execPowerOn rstnLow s
  | .vanReset risen => Sys2Proof.Machine.execVanReset risen s
  | .coreReset risen => Sys2Proof.Machine.execCoreReset risen s
  | .rstnLow ns => Sys2Proof.Machine.execRstnLow ns s
  | .pwrReset v => Sys2Proof.Machine.execPwrReset v s
  | .resetRelease pins => Sys2Proof.Machine.execResetRelease pins s
  | .brownOutWarning => Sys2Proof.Machine.execBrownOutWarning s
  | .brownOutDeassert => Sys2Proof.Machine.execBrownOutDeassert s
  | .sagdone => Sys2Proof.Machine.execSagdone s
  | .sagResume => Sys2Proof.Machine.execSagResume s
  | .pwrSagclr v => Sys2Proof.Machine.execPwrSagclr v s
  | .vsupOvervoltage above => Sys2Proof.Machine.execVsupOvervoltage above s
  | .vioRangeLost => Sys2Proof.Machine.execVioRangeLost s
  | .vioReturn => Sys2Proof.Machine.execVioReturn s
  | .vanLow below => Sys2Proof.Machine.execVanLow below s
  | .coreBranchLow branch below => Sys2Proof.Machine.execCoreBranchLow branch below s
  | .regionSkew pair exceeds => Sys2Proof.Machine.execRegionSkew pair exceeds s
  | .fabricStall acc => Sys2Proof.Machine.execFabricStall acc s
  | .pwrSleep v => Sys2Proof.Machine.execPwrSleep v s
  | .idlePolicy => Sys2Proof.Machine.execIdlePolicy s
  | .sleepTenderStop => Sys2Proof.Machine.execSleepTenderStop s
  | .sleepFlushSave => Sys2Proof.Machine.execSleepFlushSave s
  | .sleepPointOfNoReturn => Sys2Proof.Machine.execSleepPointOfNoReturn s
  | .wakeEvent src => Sys2Proof.Machine.execWakeEvent src s
  | .referenceFound => Sys2Proof.Machine.execReferenceFound s
  | .refSearchTimeout => Sys2Proof.Machine.execRefSearchTimeout s
  | .refStopBeforeCommit => Sys2Proof.Machine.execRefStopBeforeCommit s
  | .referenceLost => Sys2Proof.Machine.execReferenceLost s
  | .referenceReturn => Sys2Proof.Machine.execReferenceReturn s
  | .calibrationStep corr trimmed => Sys2Proof.Machine.execCalibrationStep corr trimmed s
  | .loadHeaders => Sys2Proof.Machine.execLoadHeaders s
  | .slotCheck saved => Sys2Proof.Machine.execSlotCheck saved s
  | .mfCmd v => Sys2Proof.Machine.execMfCmd v s
  | .mfKeycmd v => Sys2Proof.Machine.execMfKeycmd v s
  | .keyProgramDone ok => Sys2Proof.Machine.execKeyProgramDone ok s
  | .firstGateRelease => Sys2Proof.Machine.execFirstGateRelease s
  | .vgdWaitExpired => Sys2Proof.Machine.execVgdWaitExpired s
  | .wtStart v => Sys2Proof.Machine.execWtStart v s
  | .wtStop v => Sys2Proof.Machine.execWtStop v s
  | .wtExpiry k => Sys2Proof.Machine.execWtExpiry k s
  | .wtCfgWrite k v => Sys2Proof.Machine.execWtCfgWrite k v s
  | .shadowWrite m n sh v => Sys2Proof.Machine.execShadowWrite m n sh v s
  | .loadPoint n => Sys2Proof.Machine.execLoadPoint n s
  | .bpLoad n v => Sys2Proof.Machine.execBpLoad n v s
  | .loadall v => Sys2Proof.Machine.execLoadall v s
  | .pwmEnable n v => Sys2Proof.Machine.execPwmEnable n v s
  | .pwmStart n => Sys2Proof.Machine.execPwmStart n s
  | .pwmDisable n v => Sys2Proof.Machine.execPwmDisable n v s
  | .pwmEdge n c => Sys2Proof.Machine.execPwmEdge n c s
  | .deadTimeEnd n p => Sys2Proof.Machine.execDeadTimeEnd n p s
  | .realignStretchEnd n => Sys2Proof.Machine.execRealignStretchEnd n s
  | .bpForce m n v => Sys2Proof.Machine.execBpForce m n v s
  | .tripnTrip q l => Sys2Proof.Machine.execTripnTrip q l s
  | .blankWindowEnd n => Sys2Proof.Machine.execBlankWindowEnd n s
  | .safeStateTrip n => Sys2Proof.Machine.execSafeStateTrip n s
  | .tripClear n v => Sys2Proof.Machine.execTripClear n v s
  | .debugHalt v => Sys2Proof.Machine.execDebugHalt v s
  | .debugResume v => Sys2Proof.Machine.execDebugResume v s
  | .edgeMeasured n p sd soft ticks vb => Sys2Proof.Machine.execEdgeMeasured n p sd soft ticks vb s
  | .pumpFail => Sys2Proof.Machine.execPumpFail s
  | .pumpRecover => Sys2Proof.Machine.execPumpRecover s
  | .bootstrapUndervoltage n p below => Sys2Proof.Machine.execBootstrapUndervoltage n p below s
  | .interlockEvent b => Sys2Proof.Machine.execInterlockEvent b s
  | .interlockClear b => Sys2Proof.Machine.execInterlockClear b s
  | .shortCircuitDetect n p shunt => Sys2Proof.Machine.execShortCircuitDetect n p shunt s
  | .scBlankEnd n p shunt => Sys2Proof.Machine.execScBlankEnd n p shunt s
  | .vgdUndervoltage q => Sys2Proof.Machine.execVgdUndervoltage q s
  | .vgdUvDeassert q => Sys2Proof.Machine.execVgdUvDeassert q s
  | .vgdOvervoltage above => Sys2Proof.Machine.execVgdOvervoltage above s
  | .chopperOn q => Sys2Proof.Machine.execChopperOn q s
  | .chopperOff q => Sys2Proof.Machine.execChopperOff q s
  | .chopperMinTimeEnd q => Sys2Proof.Machine.execChopperMinTimeEnd q s
  | .brakeTrip q c => Sys2Proof.Machine.execBrakeTrip q c s
  | .brakeTripDeassert q => Sys2Proof.Machine.execBrakeTripDeassert q s
  | .sample n => Sys2Proof.Machine.execSample n s
  | .resultSet n raw => Sys2Proof.Machine.execResultSet n raw s
  | .conversionTimeout n ch raw => Sys2Proof.Machine.execConversionTimeout n ch raw s
  | .busConversion q v => Sys2Proof.Machine.execBusConversion q v s
  | .bsCalRun n v => Sys2Proof.Machine.execBsCalRun n v s
  | .offsetCalDone n sums => Sys2Proof.Machine.execOffsetCalDone n sums s
  | .laneTakeToken => Sys2Proof.Machine.execLaneTakeToken s
  | .package n => Sys2Proof.Machine.execPackage n s
  | .divRestore n => Sys2Proof.Machine.execDivRestore n s
  | .lossSearchWindow n => Sys2Proof.Machine.execLossSearchWindow n s
  | .residueMismatch l uncorr => Sys2Proof.Machine.execResidueMismatch l uncorr s
  | .storageErrorCorrected w => Sys2Proof.Machine.execStorageErrorCorrected w s
  | .uncorrectableParameterError a l => Sys2Proof.Machine.execUncorrectableParameterError a l s
  | .laneSelftestDone l pass => Sys2Proof.Machine.execLaneSelftestDone l pass s
  | .blClr n v => Sys2Proof.Machine.execBlClr n v s
  | .start n => Sys2Proof.Machine.execStart n s
  | .listenEnd n => Sys2Proof.Machine.execListenEnd n s
  | .reverseBrakeBurst n => Sys2Proof.Machine.execReverseBrakeBurst n s
  | .shortBrakeEnd n => Sys2Proof.Machine.execShortBrakeEnd n s
  | .cicadaScanEnd n => Sys2Proof.Machine.execCicadaScanEnd n s
  | .clickPulse n => Sys2Proof.Machine.execClickPulse n s
  | .alignmentEnd n => Sys2Proof.Machine.execAlignmentEnd n s
  | .handOff n => Sys2Proof.Machine.execHandOff n s
  | .startFail n why => Sys2Proof.Machine.execStartFail n why s
  | .startRetry n => Sys2Proof.Machine.execStartRetry n s
  | .restart n v => Sys2Proof.Machine.execRestart n v s
  | .rotorLost n => Sys2Proof.Machine.execRotorLost n s
  | .stopComplete n timeout => Sys2Proof.Machine.execStopComplete n timeout s
  | .home n v => Sys2Proof.Machine.execHome n v s
  | .homingEndStop n => Sys2Proof.Machine.execHomingEndStop n s
  | .homingTimeout n => Sys2Proof.Machine.execHomingTimeout n s
  | .slip n => Sys2Proof.Machine.execSlip n s
  | .demandEvaluation n => Sys2Proof.Machine.execDemandEvaluation n s
  | .dmdEdge n level tick => Sys2Proof.Machine.execDmdEdge n level tick s
  | .bdHdem n v => Sys2Proof.Machine.execBdHdem n v s
  | .demandSourceWrite n v => Sys2Proof.Machine.execDemandSourceWrite n v s
  | .apply n v => Sys2Proof.Machine.execApply n v s
  | .modelUpdate => Sys2Proof.Machine.execModelUpdate s
  | .thConv v => Sys2Proof.Machine.execThConv v s
  | .roundComplete rs => Sys2Proof.Machine.execRoundComplete rs s
  | .thReadmit v => Sys2Proof.Machine.execThReadmit v s
  | .junctionComparator site => Sys2Proof.Machine.execJunctionComparator site s
  | .junctionComparatorRelease site => Sys2Proof.Machine.execJunctionComparatorRelease site s
  | .tenderStripUndervoltage => Sys2Proof.Machine.execTenderStripUndervoltage s
  | .tenderStripUvEnd => Sys2Proof.Machine.execTenderStripUvEnd s
  | .tenderSample t m => Sys2Proof.Machine.execTenderSample t m s
  | .tenderEdge t e bootOk => Sys2Proof.Machine.execTenderEdge t e bootOk s
  | .tenderTimingChange t => Sys2Proof.Machine.execTenderTimingChange t s
  | .zeroCurrent t sense ticks => Sys2Proof.Machine.execZeroCurrent t sense ticks s
  | .currentLimit t sense ticks => Sys2Proof.Machine.execCurrentLimit t sense ticks s
  | .limitTimeExpiry t => Sys2Proof.Machine.execLimitTimeExpiry t s
  | .startDelayEnd t vfb => Sys2Proof.Machine.execStartDelayEnd t vfb s
  | .rampEnd t vfb => Sys2Proof.Machine.execRampEnd t vfb s
  | .hiccupEnd t vfb => Sys2Proof.Machine.execHiccupEnd t vfb s
  | .stopDelayEnd t => Sys2Proof.Machine.execStopDelayEnd t s
  | .stopRampEnd t => Sys2Proof.Machine.execStopRampEnd t s
  | .tenderEnable t v => Sys2Proof.Machine.execTenderEnable t v s
  | .tenderDisable t v => Sys2Proof.Machine.execTenderDisable t v s
  | .tdCmdClr t v => Sys2Proof.Machine.execTdCmdClr t v s
  | .tenderOvervoltage t => Sys2Proof.Machine.execTenderOvervoltage t s
  | .pgoodLost t => Sys2Proof.Machine.execPgoodLost t s
  | .pgoodSet t => Sys2Proof.Machine.execPgoodSet t s
  | .retryReset t => Sys2Proof.Machine.execRetryReset t s
  | .collectorDecision => Sys2Proof.Machine.execCollectorDecision s
  | .brokenPair src => Sys2Proof.Machine.execBrokenPair src s
  | .brokenSafeStateLine n => Sys2Proof.Machine.execBrokenSafeStateLine n s
  | .pendingClear a v => Sys2Proof.Machine.execPendingClear a v s
  | .clrrec v => Sys2Proof.Machine.execClrrec v s
  | .faultInjection target p q unlocked => Sys2Proof.Machine.execFaultInjection target p q unlocked s
  | .nop f => Sys2Proof.Machine.execNop f s
  | .write f => Sys2Proof.Machine.execWrite f s
  | .read f => Sys2Proof.Machine.execRead f s
  | .fetch f => Sys2Proof.Machine.execFetch f s
  | .barrier f => Sys2Proof.Machine.execBarrier f s
  | .fencerel f => Sys2Proof.Machine.execFencerel f s
  | .entryRun k stall => Sys2Proof.Machine.execEntryRun k stall s
  | .entryComplete k => Sys2Proof.Machine.execEntryComplete k s
  | .go v => Sys2Proof.Machine.execGo v s
  | .memoryEntryStart => Sys2Proof.Machine.execMemoryEntryStart s
  | .memoryEntryComplete incoming => Sys2Proof.Machine.execMemoryEntryComplete incoming s
  | .pollRetry sel => Sys2Proof.Machine.execPollRetry sel s
  | .pollTimeout sel => Sys2Proof.Machine.execPollTimeout sel s
  | .mount => Sys2Proof.Machine.execMount s
  | .mountDone => Sys2Proof.Machine.execMountDone s
  | .logDisable v => Sys2Proof.Machine.execLogDisable v s
  | .lazyExpiry => Sys2Proof.Machine.execLazyExpiry s
  | .pageProgramDone ok => Sys2Proof.Machine.execPageProgramDone ok s
  | .sectorPrepare => Sys2Proof.Machine.execSectorPrepare s
  | .sectorPrepareDone => Sys2Proof.Machine.execSectorPrepareDone s
  | .lossMarker => Sys2Proof.Machine.execLossMarker s
  | .flush v => Sys2Proof.Machine.execFlush v s
  | .flushComplete => Sys2Proof.Machine.execFlushComplete s
  | .saveth => Sys2Proof.Machine.execSaveth s
  | .savepar => Sys2Proof.Machine.execSavepar s
  | .trig event => Sys2Proof.Machine.execTrig event s
  | .traceFreeze => Sys2Proof.Machine.execTraceFreeze s
  | .traceEnterBuffer => Sys2Proof.Machine.execTraceEnterBuffer s
  | .bypassOpen => Sys2Proof.Machine.execBypassOpen s
  | .joinTimeout carrier => Sys2Proof.Machine.execJoinTimeout carrier s
  | .slotStart arrived => Sys2Proof.Machine.execSlotStart arrived s
  | .slotLoss => Sys2Proof.Machine.execSlotLoss s
  | .carrierLoss => Sys2Proof.Machine.execCarrierLoss s
  | .heal => Sys2Proof.Machine.execHeal s
  | .portBDead => Sys2Proof.Machine.execPortBDead s
  | .chainTurn p heard => Sys2Proof.Machine.execChainTurn p heard s
  | .probeTimer => Sys2Proof.Machine.execProbeTimer s
  | .probe f => Sys2Proof.Machine.execProbe f s
  | .loop f => Sys2Proof.Machine.execLoop f s
  | .ring f => Sys2Proof.Machine.execRing f s
  | .ringSwitch => Sys2Proof.Machine.execRingSwitch s
  | .claim f => Sys2Proof.Machine.execClaim f s
  | .claimTimer => Sys2Proof.Machine.execClaimTimer s
  | .anchorElected => Sys2Proof.Machine.execAnchorElected s
  | .announce f => Sys2Proof.Machine.execAnnounce f s
  | .announceTimer => Sys2Proof.Machine.execAnnounceTimer s
  | .takenExpiry node => Sys2Proof.Machine.execTakenExpiry node s
  | .roll v => Sys2Proof.Machine.execRoll v s
  | .rollCallStart => Sys2Proof.Machine.execRollCallStart s
  | .rollFrame f => Sys2Proof.Machine.execRollFrame f s
  | .rolldone f => Sys2Proof.Machine.execRolldone f s
  | .echoSlot => Sys2Proof.Machine.execEchoSlot s
  | .echoMeasured roundTrip => Sys2Proof.Machine.execEchoMeasured roundTrip s
  | .timePeriod => Sys2Proof.Machine.execTimePeriod s
  | .time f tick => Sys2Proof.Machine.execTime f tick s
  | .notime => Sys2Proof.Machine.execNotime s
  | .demsend => Sys2Proof.Machine.execDemsend s
  | .demand f => Sys2Proof.Machine.execDemand f s
  | .fault f => Sys2Proof.Machine.execFault f s
  | .faultCopy => Sys2Proof.Machine.execFaultCopy s
  | .ledsend => Sys2Proof.Machine.execLedsend s
  | .ledger f => Sys2Proof.Machine.execLedger f s
  | .ilvsend v => Sys2Proof.Machine.execIlvsend v s
  | .interleave f => Sys2Proof.Machine.execInterleave f s
  | .ilvautoOffset => Sys2Proof.Machine.execIlvautoOffset s
  | .wake v => Sys2Proof.Machine.execWake v s
  | .mlRledclr v => Sys2Proof.Machine.execMlRledclr v s
  | .propose v => Sys2Proof.Machine.execPropose v s
  | .confirm v => Sys2Proof.Machine.execConfirm v s
  | .pilotconf v => Sys2Proof.Machine.execPilotconf v s
  | .withdraw v => Sys2Proof.Machine.execWithdraw v s
  | .proposalWindowEnd => Sys2Proof.Machine.execProposalWindowEnd s
  | .application => Sys2Proof.Machine.execApplication s
  | .safePointTimeout => Sys2Proof.Machine.execSafePointTimeout s
  | .csignRecords f => Sys2Proof.Machine.execCsignRecords f s
  | .csignPropose f => Sys2Proof.Machine.execCsignPropose f s
  | .csignConfirm f => Sys2Proof.Machine.execCsignConfirm f s
  | .csignWithdraw f => Sys2Proof.Machine.execCsignWithdraw f s
  | .csignResult f => Sys2Proof.Machine.execCsignResult f s
  | .sendprop v => Sys2Proof.Machine.execSendprop v s
  | .sendconf v => Sys2Proof.Machine.execSendconf v s
  | .txcmdWithdraw v => Sys2Proof.Machine.execTxcmdWithdraw v s
  | .dock v => Sys2Proof.Machine.execDock v s
  | .drydockEntry n => Sys2Proof.Machine.execDrydockEntry n s
  | .undock v => Sys2Proof.Machine.execUndock v s
  | .selftest v => Sys2Proof.Machine.execSelftest v s
  | .selftestDone p r => Sys2Proof.Machine.execSelftestDone p r s
  | .reload v => Sys2Proof.Machine.execReload v s
  | .reloadDone => Sys2Proof.Machine.execReloadDone s
  | .cancelq v => Sys2Proof.Machine.execCancelq v s
  | .seaTrialFail n => Sys2Proof.Machine.execSeaTrialFail n s
  | .seaTrialEnd n => Sys2Proof.Machine.execSeaTrialEnd n s
  | .registerWrite m a v => Sys2Proof.Machine.execRegisterWrite m a v s
  | .hostFrameRejected f => Sys2Proof.Machine.execHostFrameRejected f s
  | .slotArrival sl => Sys2Proof.Machine.execSlotArrival sl s
  | .dmdConversion n mv => Sys2Proof.Machine.execDmdConversion n mv s
  | .thermalStopWindowEnd t => Sys2Proof.Machine.execThermalStopWindowEnd t s
  | .configStorageCorrected => Sys2Proof.Machine.execConfigStorageCorrected s
  | .configStorageUncorrectable => Sys2Proof.Machine.execConfigStorageUncorrectable s
  | .edgeTimeSaturation n p sd vb => Sys2Proof.Machine.execEdgeTimeSaturation n p sd vb s

end Sys2Proof.Machine
end

