-- ==== Sys2Proof/Safety.lean ====
section
/-! DEFINITION. What a sound state is, in the terms that statements use: register lists in their canonical form, and no
half-bridge with both of its switches on; and the words in which statements say what a command leaves as it was. -/

namespace Sys2Proof.Machine

/-- Both register lists have their canonical form: addresses strictly rising, no entry equal to its reset value. -/
def State.Canonical (s : State) : Prop := regsWf s.regs = true ∧ regsWf s.prot = true

/-- At most one switch of a half-bridge of a berth is on (R197, R198). -/
def Leg.Safe (l : Leg) : Prop := ¬(l.hi = true ∧ l.lo = true)

/-- At most one switch of a tender is on (R197, R366). -/
def TenderSt.Safe (x : TenderSt) : Prop := ¬(x.hi = true ∧ x.lo = true)

/-- No half-bridge of the device has both switches on (R197, R198, R366). -/
def State.NoShoot (s : State) : Prop := (∀ n p, (s.leg n p).Safe) ∧ ∀ t, (s.tender t).Safe

/-! ### What a command does and leaves -/

/-- Command `c` completes from `s`, and what it leaves satisfies `P`. -/
def Does (c : Instr) (s : State) (P : State → Prop) : Prop := ∃ t, exec c s = .next t ∧ P t

/-- The registers of `t` are those of `s` but for the listed fields (address, highest bit, lowest bit): every bit of every
register outside them is as it was. -/
def State.Only (s t : State) (l : List (Nat × Nat × Nat)) : Prop :=
  ∀ a i, i < 18 → (∀ f ∈ l, f.1 = a → i < f.2.2 ∨ f.2.1 < i) → (t.rd a).getLsbD i = (s.rd a).getLsbD i

/-- A whole register as a field. -/
def whole (a : Nat) : Nat × Nat × Nat := (a, 17, 0)

/-- The parts of the machine that a frame names: a page of device registers (page k holds 0x0k00 to 0x0kFF), the registers
and the state of a tender or a berth, and every other part of the state. -/
inductive Zone
  | page (k : Nat)
  | tender (t : Tender)
  | berth (n : Berth)
  | dev | load | tide | quays | strip | therm | coll | host | mem | moor | cs | dock | access | free
deriving DecidableEq, Repr

/-- The zone of a register (R33). -/
def regZone (a : Nat) : Zone :=
  match blockOf a with
  | .tender t => .tender t
  | .berth n => .berth n
  | _ => .page (a / 256)

/-- `t` is `s` outside the zones `l`: every other register and every other part of the state is as it was, and so are the
protection set, the one-time key and the queue. -/
structure State.Within (s t : State) (l : List Zone) : Prop where
  regs : ∀ a, regZone a ∉ l → t.rd a = s.rd a
  tender : ∀ u, Zone.tender u ∉ l → t.tender u = s.tender u
  berth : ∀ n, Zone.berth n ∉ l → t.berth n = s.berth n
  dev : Zone.dev ∉ l → t.dev = s.dev
  load : Zone.load ∉ l → t.load = s.load
  tide : Zone.tide ∉ l → t.tide = s.tide
  quays : Zone.quays ∉ l → t.north = s.north ∧ t.south = s.south
  strip : Zone.strip ∉ l → t.stripUv = s.stripUv
  therm : Zone.therm ∉ l → t.therm = s.therm
  coll : Zone.coll ∉ l → t.coll = s.coll
  host : Zone.host ∉ l → t.host = s.host
  mem : Zone.mem ∉ l → t.mem = s.mem
  moor : Zone.moor ∉ l → t.moor = s.moor
  cs : Zone.cs ∉ l → t.cs = s.cs
  dock : Zone.dock ∉ l → t.dock = s.dock
  access : Zone.access ∉ l → t.access = s.access
  free : Zone.free ∉ l → t.free = s.free
  prot : t.prot = s.prot
  key : t.key = s.key
  pending : t.pending = s.pending

/-- The pair of source `k` stands in (1,0) and waits for a decision (R389). -/
def State.Raised (s : State) (k : Nat) : Prop := ∃ e ∈ s.coll.raised, e.src = k

/-- Source `k` can be raised: in loading or service, its pair neither broken nor held idle by the factory facility (R78,
R390, R414). -/
def State.canRaise (s : State) (k : Nat) : Bool := s.awake && !s.coll.broken.contains k && !s.pairIdle k

/-- `t` is what a reset of `s` leaves (R84): every register of both lists at its reset value but PWR_RSTCAUSE, which names
the sources, and the VGD bits of PWR_VGDSTAT, which show the supply; every port, queue and estimate empty; the one-time key
as it was. -/
def State.ResetFrom (s t : State) (sources : Nat) : Prop :=
  t.dev.mode = .reset ∧ t.get PWR_RSTCAUSE 8 0 = sources ∧
  (∀ a, a ≠ PWR_RSTCAUSE → a ≠ PWR_VGDSTAT → t.rd a = resetWord a) ∧
  t.get PWR_VGDSTAT 1 0 = s.get PWR_VGDSTAT 1 0 ∧ (∀ a, t.prd a = resetWord a) ∧
  t.load = {} ∧ t.tide = {} ∧ t.therm = {} ∧ t.coll = {} ∧ t.host = {} ∧ t.mem = {} ∧ t.moor = {} ∧ t.key = s.key

/-- The causes that PWR_RSTCAUSE shows while the device is in reset; 0 otherwise (R81: sources that act together add up). -/
def State.oldCauses (s : State) : Nat := if s.dev.mode = .reset then s.get PWR_RSTCAUSE 8 0 else 0

/-- A load of berth `n` (R152, R153, R218): every pending shadow has become active, the dead time not below 104 ticks; the
pending marks and the arm are clear. -/
def State.Loaded (s t : State) (n : Berth) : Prop :=
  (∀ i < 9, i ≠ 7 →
    t.brd n (0x11 + i) = if (s.berth n).pwm.pend.getLsbD i then s.brd n (1 + i) else s.brd n (0x11 + i)) ∧
  ((s.berth n).pwm.pend.getLsbD 7 = true → t.bget n BP_DEADTA 13 0 = max (s.bget n BP_DEADT 13 0) 104) ∧
  ((s.berth n).pwm.pend.getLsbD 9 = true → (t.berth n).pwm.sampt = s.bnat n BS_SAMPT) ∧
  (t.berth n).pwm.pend = 0 ∧ t.bflag n BP_STAT 4 = false

/-- Berth `n` has tripped (R164, R165): the trip is latched with the safe level chosen at that instant, both switches of
every phase are off, or the low sides alone may be on. -/
def State.Tripped (s t : State) (n : Berth) : Prop :=
  t.bflag n BP_TRIP 6 = true ∧ t.bflag n BP_TRIP 7 = s.shortsLow n ∧
  ∀ p, (t.leg n p).hi = false ∧ (s.shortsLow n = false → (t.leg n p).lo = false)

/-- The proposal in progress has ended without application, with outcome `code` (R527, R555); nothing outside the countersign
and logbook registers, the memory port and the collector has changed. -/
def State.ProposalEnded (s t : State) (code : Nat) : Prop :=
  t.csState = csIdle ∧ t.csProposer = 0 ∧ t.get CS_STAT 11 8 = code ∧ s.Within t [.mem, .free, .coll, .page 10, .page 12]

/-- A sound state: canonical register lists, and no half-bridge with both switches on. Every command keeps it. -/
def State.Sound (s : State) : Prop := s.Canonical ∧ s.NoShoot

end Sys2Proof.Machine
end

