-- ==== Sys2Proof/Certificates/Slice0/Obligations.lean ====
section
/-! DEFINITION. What is to be proved of the model: one statement for every group of commands and every kind of state. Each
docstring names the rules of the spec that its clauses come from. -/

open Sys2Proof Sys2Proof.Machine

/-- A step takes the command at the front of the queue and runs it with the queue's rest. -/
def Obligations.StepRunsFront : Prop := ∀ (c : Instr) (s : State) (q : List Instr), s.pending = c :: q →
  step s = exec c { s with pending := q } ∧ core.step s = exec c { s with pending := q }

/-- On an empty queue one tide period passes (the model's choice, log entry 8): the tide time counts by one modulo 2^54, or a
correction in progress holds it or adds one. Beside it only the pulses of a reverse brake move (R295): with no burst in
progress the tide alone changes, and a berth whose pulse of at least one tide period begins has its three low sides on.
Where the tide does not run, nothing changes. -/
def Obligations.EmptyQueuePeriod : Prop := ∀ s : State, s.pending = [] →
  (s.awake = false → step s = .next s) ∧
  (s.awake = true → (∀ n, (s.starting n && s.phase n == 4 && !(s.berth n).start.listening) = false) →
    ∃ u, step s = .next { s with tide := u } ∧ (s.tide.corr = 0 → s.tide.phase < 2 ^ 24 → u = { s.tide with now := (s.tide.now + 1) % 2 ^ 54 })) ∧
  (s.awake = true → ∃ t, step s = .next t ∧ s.Within t (.tide :: .coll :: .dock :: .page 12 :: berthList.map .berth) ∧
    ((t.tide.now = (s.tide.now + 1) % 2 ^ 54) ∨ (t.tide.now = s.tide.now % 2 ^ 54 ∧ s.tide.corr < 0) ∨
      (t.tide.now = (s.tide.now + 2) % 2 ^ 54 ∧ 0 < s.tide.corr)) ∧
    ∀ n, s.starting n = true → s.phase n = 4 → (s.berth n).start.listening = false → 256 ≤ (s.berth n).start.tb →
      0 < (s.alignTD n).1 → (t.tick + (s.alignTD n).1 - (s.alignTD n).2 % (s.alignTD n).1) % (s.alignTD n).1 = 0 →
      t.bget n BP_FORCE 6 0 = 0x6A)

/-- Right after the release of the power-on reset every register reads the reset value of its card, but for PWR_RSTCAUSE, which
shows the power-on reset; every queue and buffer is empty, no switch is on, and the state is sound. The values that the cards
do not give are the model's choices. -/
def Obligations.ResetState : Prop :=
  State.reset.Sound ∧ State.reset.dev.mode = .loading ∧ State.reset.pending = [] ∧ State.reset.key = none ∧
  (∀ a, a ≠ PWR_RSTCAUSE → State.reset.rd a = resetWord a) ∧ State.reset.rd PWR_RSTCAUSE = 1 ∧
  (∀ a, State.reset.prd a = resetWord a) ∧
  State.reset.host = {} ∧ State.reset.mem = {} ∧ State.reset.moor = {} ∧ State.reset.coll = {} ∧
  (∀ n p, State.reset.leg n p = {}) ∧ (∀ u, State.reset.tender u = {}) ∧ State.reset.rd 0x0000 = 0x01236 ∧
  core.reset = State.reset

/-- Every command keeps a sound state sound: register lists stay in their canonical form, and no half-bridge of a berth or of a
tender ever has both switches on, whatever command comes in whatever state (R197, R198, R366). -/
def Obligations.SoundStatesStaySound : Prop :=
  (∀ s t : State, s.Sound → step s = .next t → t.Sound) ∧
  ∀ (c : Instr) (s t : State), s.Sound → exec c s = .next t → ∀ n p, ¬((t.leg n p).hi = true ∧ (t.leg n p).lo = true)

/-- Every command completes in every state and leaves the queue of waiting commands as it was; so a step never stops. -/
def Obligations.EveryCommandCompletes : Prop :=
  (∀ (c : Instr) (s : State), ∃ t, exec c s = .next t ∧ t.pending = s.pending) ∧
  ∀ s : State, ∃ t, step s = .next t ∧ t.pending = s.pending.tail

/-- The protection set changes only at a commit, through a completed countersign, where a slot fails its checks and at a reset or
the removal of the core supply in sleep; the last three leave every register of it at its reset value (R121, R524). -/
def Obligations.ProtectionSetChanges : Prop := ∀ (c : Instr) (s t : State), exec c s = .next t → t.prot ≠ s.prot →
  ((t.dev.mode = .reset ∨ t.dev.mode = .sleep) ∧ t.prot = []) ∨
  (c = .application ∧ s.csState = csConfirmed ∧ s.staged.all s.safePoint = true ∧ t.prot = applyRecords s.prot s.staged) ∨
  (∃ saved, c = .slotCheck saved ∧ s.dev.mode = .loading ∧ (t.committed = true ∨ t.prot = []))

/-- The manifest key, once programmed, is never changed, by a reset neither (R118). -/
def Obligations.KeyIsWrittenOnce : Prop :=
  (∀ (c : Instr) (s t : State) (k : BitVec 128), s.key = some k → exec c s = .next t → t.key = some k) ∧
  (∀ (ok : Bool) (s t : State), exec (.keyProgramDone ok) s = .next t → t.key ≠ s.key → ok = true ∧ s.key = none)

/-- Register writes (R5 to R7, R45, R431): a write that fails, or that comes in reset or asleep, changes nothing; a host write
that would change an RWL field fails; RW fields take the written value, a 1 clears a W1C bit, RO fields and reserved bits
ignore the write; the lower word of a two-word value waits for the upper one. -/
def Obligations.RegisterWrites : Prop := ∀ s : State,
  (∀ (m : Master) (a : Nat) (v : Word), (s.awake = false ∨ s.writeFails m [(a, v)] ≠ none) →
    exec (.registerWrite m a v) s = .next s) ∧
  (∀ (a : Nat) (v : Word) (c : Card) (f : Field), cardAt a = some c → f ∈ c.fields → f.acc = .rwl →
    bits v f.hi f.lo ≠ bits (s.prd a) f.hi f.lo → exec (.registerWrite .host a v) s = .next s) ∧
  (∀ v : Word, s.awake = true → Does (.registerWrite .host FC_WTIE0 v) s fun t => t.rd FC_WTIE0 = v ∧
    s.Only t [whole FC_WTIE0] ∧ t = { s with regs := t.regs }) ∧
  (∀ (m : Master) (v : Word) (c : Card), s.awake = true → cardAt PWR_FLAGS = some c →
    Does (.registerWrite m PWR_FLAGS v) s fun t => t = { s with regs := t.regs } ∧ s.Only t [whole PWR_FLAGS] ∧
      ∀ i < 18, (t.rd PWR_FLAGS).getLsbD i = ((s.rd PWR_FLAGS).getLsbD i &&
        !(v.getLsbD i && c.fields.any fun f => f.acc == .w1c && decide (f.lo ≤ i) && decide (i ≤ f.hi)))) ∧
  (∀ (m : Master) (v : Word), s.awake = true → Does (.registerWrite m PWR_STAT v) s fun t => s.Only t [] ∧
    t = { s with regs := t.regs }) ∧
  (∀ v w : Word, s.awake = true → s.access.wbufs = [] → Does (.registerWrite .host CS_CONF0 v) s fun t => t.regs = s.regs ∧
    Does (.registerWrite .host (CS_CONF0 + 1) w) t fun u => u.rd CS_CONF0 = v ∧
      u.get (CS_CONF0 + 1) 13 0 = bits w 13 0 ∧ s.Only u [whole CS_CONF0, whole (CS_CONF0 + 1)])

/-- Commands of one berth leave every other berth as it was: its registers, its outputs, its control and its demand. -/
def Obligations.BerthsAreSeparate : Prop := ∀ (s : State) (n m : Berth), m ≠ n →
  ∀ c : Instr, (c ∈ [.pwmStart n, .loadPoint n, .realignStretchEnd n, .safeStateTrip n, .blankWindowEnd n, .drydockEntry n,
      .seaTrialFail n, .seaTrialEnd n, .demandEvaluation n, .slip n, .homingTimeout n, .homingEndStop n,
      .brokenSafeStateLine n] ∨ (∃ k, c = .pwmEdge n k) ∨ (∃ p, c = .deadTimeEnd n p) ∨ (∃ b k, c = .dmdEdge n b k) ∨
      ∃ v, c = .pwmEnable n v ∨ c = .pwmDisable n v ∨ c = .bpLoad n v ∨ c = .tripClear n v ∨ c = .bdHdem n v) →
  Does c s fun t => t.berth m = s.berth m ∧ ∀ a, regZone a = .berth m → t.rd a = s.rd a

/-- R81, R84: each source of reset takes the device into reset from the states in which it acts, names itself in PWR_RSTCAUSE,
and leaves every register, queue and estimate at its reset value; a second wake source adds its bit while the reset of a wake
lasts; the key of PWR_RESET does so too (R85). Release of reset (R62, R81): loading begins, the pins are as sampled, GLB_COMPAT
shows COMPAT, all else is as it was. A wrong key of PWR_RESET changes nothing (R85). -/
def Obligations.ResetAndRelease : Prop :=
  (∀ s : State,
    (∀ low, Does (.powerOn low) s fun t => s.ResetFrom t (if low then 9 else 1)) ∧
    (s.dev.mode ≠ .unpowered → s.dev.mode ≠ .sleep →
      Does (.vanReset true) s (fun t => s.ResetFrom t (s.oldCauses ||| 2)) ∧
      Does (.coreReset true) s (fun t => s.ResetFrom t (s.oldCauses ||| 4))) ∧
    (s.dev.mode ≠ .unpowered → ∀ ns, 2000 ≤ ns → Does (.rstnLow ns) s fun t => s.ResetFrom t (s.oldCauses ||| 8)) ∧
    (s.awake = true → Does (.pwrReset 0x25E70) s fun t => s.ResetFrom t 16) ∧
    (∀ src, s.wakeOn src = true →
      (s.dev.mode = .sleep → Does (.wakeEvent src) s fun t => s.ResetFrom t (2 ^ wakeBit src)) ∧
      (s.dev.mode = .reset → s.dev.wakeCfg ≠ none →
        Does (.wakeEvent src) s fun t => s.ResetFrom t (s.oldCauses ||| 2 ^ wakeBit src)))) ∧
  (∀ s : State,
    (∀ pins, s.dev.mode = .reset → Does (.resetRelease pins) s fun t =>
      t = { s with regs := t.regs, dev := { s.dev with mode := .loading, pins := pins, wakeCfg := none } } ∧
      t.flag GLB_COMPAT 0 = pins.compat ∧ s.Only t [(GLB_COMPAT, 0, 0)]) ∧
    (∀ v, v ≠ 0x25E70 → exec (.pwrReset v) s = .next s))

/-- R82: the length of a low pulse on RSTN decides; between the two lengths either may happen, as a free value says. -/
def Obligations.RstnPulseLengths : Prop := ∀ (s : State) (ns : Nat),
  (ns < 500 → exec (.rstnLow ns) s = .next s) ∧
  (500 ≤ ns → ns < 2000 → s.dev.mode ≠ .unpowered →
    exec (.rstnLow ns) s = .next (s.useFree 1) ∨ Does (.rstnLow ns) s fun t => s.ResetFrom t (s.oldCauses ||| 8)) ∧
  (2000 ≤ ns → s.dev.mode ≠ .unpowered → Does (.rstnLow ns) s fun t => s.ResetFrom t (s.oldCauses ||| 8))

/-- The supply monitors (R78, R79): in loading and service each sets its present and its sticky bit and raises its source, once;
its return clears the present bit alone. A stalled access raises source 0x10 (R20). VIO (R66, R78 to R80): outside its range
VIOOK reads 0, every entry of the memory port fails and, in service, VIOLOST is set and source 0x02 raised; inside it again
VIOOK reads 1, and beside it only a loader whose read VIO broke off moves: it reads again. -/
def Obligations.SupplyMonitors : Prop :=
  (∀ s : State,
    (s.awake = true → ∀ (b src : Nat) (c : Instr),
      (b, src, c) ∈ [(7, 0x01, Instr.vsupOvervoltage true), (5, 0x03, .vanLow true), (1, 0x04, .coreBranchLow 0 true),
        (2, 0x04, .coreBranchLow 1 true), (3, 0x04, .coreBranchLow 2 true), (4, 0x04, .coreBranchLow 3 true)] →
      Does c s fun t => if s.flag PWR_STAT b = true then t = s else
        t = { s with regs := t.regs, coll := t.coll } ∧ s.Only t [(PWR_STAT, b, b), (PWR_FLAGS, b, b)] ∧
        t.flag PWR_STAT b = true ∧ t.flag PWR_FLAGS b = true ∧ (s.canRaise src = true → t.Raised src)) ∧
    (∀ (b : Nat) (c : Instr), (b, c) ∈ [(7, Instr.vsupOvervoltage false), (5, .vanLow false), (1, .coreBranchLow 0 false),
        (2, .coreBranchLow 1 false), (3, .coreBranchLow 2 false), (4, .coreBranchLow 3 false)] →
      Does c s fun t => t = { s with regs := t.regs } ∧ t.flag PWR_STAT b = false ∧ s.Only t [(PWR_STAT, b, b)]) ∧
    (∀ acc, Does (.fabricStall acc) s fun t =>
      t = { s with coll := t.coll } ∧ (s.canRaise 0x10 = true → t.Raised 0x10))) ∧
  (∀ s : State,
    (s.dev.vioOk = true → Does .vioRangeLost s fun t =>
      t.dev = { s.dev with vioOk := false } ∧ s.Within t [.dev, .coll, .free, .load, .mem, .page 1, .page 10] ∧
      (s.inService = true → t.flag PWR_FLAGS 6 = true ∧ (s.canRaise 0x02 = true → t.Raised 0x02))) ∧
    (s.load.lost = false → exec .vioReturn s = .next { s with dev := { s.dev with vioOk := true } }) ∧
    Does .vioReturn s fun t => t.dev = { s.dev with vioOk := true } ∧ s.Within t [.dev, .load, .mem] ∧
      (s.dev.mode = .loading → s.load.lost = true → s.mfState = mfHeaders →
        t.load.got = [] ∧ t.load.lost = false ∧ ∀ k < 2, loaderRead .loader k 168 ∈ t.mem.queue ++ t.mem.wait))

/-- The sag policy (R86 to R92): what the warning sets and raises, and, in service, that every chosen berth is held and the
policy runs; the end of the warning; SAGDONE; the two releases. Sleep (R95 to R97): the key of PWR_SLEEP, or the idle policy,
starts the entry and every berth that runs stops; the tenders stop when the last berth has; then flush and save; then the
device sleeps with every output off, every register at its reset value, and the wake settings and an uncleared fault held. A
wake before the point of no return abandons the entry, and the tenders that the entry stopped start again. -/
def Obligations.SagAndSleep : Prop :=
  (∀ s : State,
    (s.awake = true → s.flag PWR_STAT 8 = false → Does .brownOutWarning s fun t =>
      t.flag PWR_FLAGS 8 = true ∧ t.flag PWR_STAT 8 = true ∧ (s.canRaise 0x00 = true → t.Raised 0x00) ∧
      t.dev.sagRun = (s.dev.sagRun || s.inService) ∧
      (s.inService = true → s.dev.sagRun = false → t.dev.sagHeld = s.dev.sagHeld ||| (s.rd PWR_SAGBERTH).setWidth 12)) ∧
    (s.flag PWR_STAT 8 = true → Does .brownOutDeassert s fun t => t.flag PWR_STAT 8 = false ∧ ∀ u, t.tflag u TD_STAT 8 = false) ∧
    (s.dev.sagRun = true → s.dev.sagFlush = false → s.dev.sagSave = false → s.inMem (· == .thermal) = false →
      (∀ n : Berth, s.dev.sagHeld.getLsbD n.val = true → s.stopDone n = true) →
      (∀ u, s.tdState u ≠ tdStopDelay ∧ s.tdState u ≠ tdStopRamp) →
      Does .sagdone s fun t => t = { s with regs := t.regs, dev := { s.dev with sagRun := false } } ∧
        t.flag PWR_STAT 9 = true ∧ s.Only t [(PWR_STAT, 9, 9)]) ∧
    (s.flag PWR_STAT 8 = false → s.flag PWR_STAT 9 = true →
      (s.flag PWR_SAGCFG 8 = true → Does .sagResume s fun t =>
        t = { s with regs := t.regs, dev := { s.dev with sagHeld := 0 } } ∧ t.flag PWR_STAT 9 = false ∧ s.Only t [(PWR_STAT, 9, 9)]) ∧
      (s.awake = true → Does (.pwrSagclr 1) s fun t =>
        t = { s with regs := t.regs, dev := { s.dev with sagHeld := 0 } } ∧ t.flag PWR_STAT 9 = false ∧ s.Only t [(PWR_STAT, 9, 9)])) ∧
    ((s.flag PWR_STAT 8 = true ∨ s.flag PWR_STAT 9 = false) → exec (.pwrSagclr 1) s = .next s)) ∧
  (∀ s : State,
    (s.awake = true → s.dev.sleep = .none → s.anyDock = false →
      Does (.pwrSleep 0x151EE) s (fun t => t.dev.sleep = .berths ∧ ∀ n, s.bst n = stRunning → t.bst n = stStopping)) ∧
    (s.awake = true → s.committed = true → s.dev.sleep = .none → s.anyDock = false → s.flag PWR_SLEEPCFG 17 = true →
      s.uncleared = false → s.dev.frameAt + s.get PWR_SLEEPCFG 13 0 * 200000 ≤ s.tide.now →
      (∀ n, (s.outOfUse n = true ∨ s.bst n = stStopped) ∧ s.bget n BD_DEM 16 0 < s.bget n BD_ON 16 0) →
      Does .idlePolicy s fun t => t.dev.sleep = .berths) ∧
    (s.committed = false ∨ s.uncleared = true ∨ s.tide.now < s.dev.frameAt + s.get PWR_SLEEPCFG 13 0 * 200000 ∨
      (∃ n, s.bget n BD_ON 16 0 ≤ s.bget n BD_DEM 16 0) → exec .idlePolicy s = .next s) ∧
    (∀ v, v ≠ 0x151EE → exec (.pwrSleep v) s = .next s) ∧
    (s.dev.sleep = .berths → (∀ n, s.stopDone n = true) → Does .sleepTenderStop s fun t =>
      t.dev.sleep = .tenders ∧ ∀ u, s.tdHere u = true → s.tdState u = tdRegulating → t.tdState u = tdStopDelay) ∧
    (s.dev.sleep = .tenders → (∀ u, s.tdState u = tdOff ∨ s.tdState u = tdAbsent) →
      Does .sleepFlushSave s fun t => t.dev.sleep = .save) ∧
    (s.dev.sleep = .save → s.mem.log.flush = false → s.inMem (· == .thermal) = false →
      Does .sleepPointOfNoReturn s fun t =>
      t.dev.mode = .sleep ∧ t.dev.sleep = .none ∧ t.dev.bypassOpen = false ∧
      t.dev.sleepLatch = (s.dev.sleepLatch || s.uncleared) ∧ t.dev.wakeCfg = some (s.rd PWR_WAKECFG) ∧
      (∀ a, t.rd a = resetWord a) ∧ t.key = s.key ∧
      (∀ n p, (t.leg n p).hi = false ∧ (t.leg n p).lo = false) ∧ ∀ u, (t.tender u).hi = false ∧ (t.tender u).lo = false) ∧
    (∀ src, s.wakeOn src = true → s.awake = true → s.dev.sleep ≠ .none → Does (.wakeEvent src) s fun t =>
      t.dev = { s.dev with sleep := .none } ∧ s.Within t [.dev, .page 12, .tender 0, .tender 1, .tender 2] ∧
      (∀ u, (s.tender u).slept = false → t.tdState u = s.tdState u) ∧
      ∀ u, s.tdHere u = true → (s.tender u).slept = true → s.tflag u TD_CTL 0 = true → s.tdState u = tdOff →
        (s.tender u).dockWait = false → t.tdState u = tdStartDelay))

/-- Slot selection (R106, R121): the headers order the candidates, the higher generation first and the Factory slot last, and
the read of the first begins; MF_CMD's key runs it again from NONE (R125), another value or another state changes nothing. The one-time key (R118 to R120):
MF_KEYCMD's key starts programming where the rules let it; its end sets the key for good, or shows FAILED and raises source
0xE6 with the key as it was. -/
def Obligations.SlotSelectionAndKey : Prop :=
  (∀ s : State,
    (∀ a b : List Nat, s.dev.mode = .loading → s.mfState = mfHeaders → s.load.lost = false → s.inMem (· == .loader) = false →
      s.load.got = [a, b] → Does .loadHeaders s fun t =>
      t = { s with regs := t.regs, mem := t.mem,
                   load := { s.load with cands := t.load.cands, lens := [leAt a 8 4, leAt b 8 4], got := [] } } ∧ t.mfState = mfSlot ∧
      (∃ n, loaderRead .loader (t.load.cands.headD 2) n ∈ t.mem.queue ++ t.mem.wait) ∧
      (∀ k < 6, t.rd (MF_SLOTAR + k) = 0) ∧
      s.Only t ((MF_STAT, 3, 0) :: (List.range 6).map fun k => whole (MF_SLOTAR + k)) ∧
      (headerFails a ≠ [] → headerFails b ≠ [] → t.load.cands = [2]) ∧
      (headerFails a = [] → headerFails b ≠ [] → t.load.cands = [0, 2]) ∧
      (headerFails a ≠ [] → headerFails b = [] → t.load.cands = [1, 2]) ∧
      (headerFails a = [] → headerFails b = [] →
        t.load.cands = if leAt a 0xC 4 < leAt b 0xC 4 then [1, 0, 2] else [0, 1, 2])) ∧
    (s.awake = true → s.mfState = mfNone → Does (.mfCmd 0x14D0A) s fun t =>
      t = { s with regs := t.regs, mem := t.mem, load := { s.load with got := [], lost := false } } ∧ t.mfState = mfHeaders ∧
      (∀ k < 2, loaderRead .loader k 168 ∈ t.mem.queue ++ t.mem.wait) ∧ (∀ k < 6, t.rd (MF_SLOTAR + k) = 0) ∧
      s.Only t ((MF_STAT, 3, 0) :: (List.range 6).map fun k => whole (MF_SLOTAR + k))) ∧
    (∀ v, v ≠ 0x14D0A ∨ s.mfState ≠ mfNone → exec (.mfCmd v) s = .next s)) ∧
  (∀ s : State,
    (s.awake = true → (s.mfState = mfNone ∨ s.mfState = mfWaitRef ∨ s.mfState = mfWaitVgd) → s.key = none → s.keyWords ≠ 0 →
      Does (.mfKeycmd 0x26B3C) s fun t => t = { s with regs := t.regs } ∧ t.mfState = mfKeyProg ∧ s.Only t [(MF_STAT, 3, 0)]) ∧
    (∀ v, v ≠ 0x26B3C ∨ s.key ≠ none → exec (.mfKeycmd v) s = .next s) ∧
    (s.awake = true → s.mfState = mfKeyProg → s.key = none →
      Does (.keyProgramDone true) s (fun t => t.key = some (BitVec.ofNat 128 s.keyWords) ∧ t.flag MF_KEYSTAT 1 = false) ∧
      Does (.keyProgramDone false) s fun t => t.key = none ∧ t.flag MF_KEYSTAT 1 = true ∧ (s.canRaise 0xE6 = true → t.Raised 0xE6)))

/-- SLOT_CHECK (R121 to R125, R134): a slot that fails shows its code and offset, raises its source and returns every loaded
field to its reset value, and the next one is read, or NONE is reached; a slot that passes commits: the declaration blocks and
the protection set come into force together, the present berths are STOPPED and the others OUT OF USE, and the loader waits
for its reference or for VGD. -/
def Obligations.SlotCheckCommits : Prop := ∀ (s : State) (saved : Option ThermalCopy) (image : List Nat)
    (slot : Nat) (rest : List Nat),
  s.dev.mode = .loading → s.mfState = mfSlot → s.load.cands = slot :: rest → slot < 3 → s.image .loader = some image →
  let r := slotResult image s.compat s.key false
  (r.1 ≠ 1 → Does (.slotCheck saved) s fun t =>
    t = { s with regs := t.regs, prot := [], coll := t.coll, load := t.load, mem := t.mem } ∧ t.load.cands = rest ∧
    t.get (MF_SLOTAR + slot) 3 0 = r.1 % 16 ∧ t.rd (MF_SLOTAO + slot) = BitVec.ofNat 18 r.2.1 ∧
    (s.Canonical → ∀ a, a ≠ MF_SLOTAR + slot → a ≠ MF_SLOTAO + slot → a ≠ MF_STAT →
      t.rd a = mergeLoaded a (s.rd a) (resetWord a)) ∧
    t.mfState = (if rest = [] then mfNone else mfSlot) ∧
    (∀ j, rest.head? = some j → ∃ n, loaderRead .loader j n ∈ t.mem.queue ++ t.mem.wait) ∧
    (slot = 0 → s.canRaise 0xE0 = true → t.Raised 0xE0) ∧ (slot = 1 → s.canRaise 0xE1 = true → t.Raised 0xE1) ∧
    (rest = [] → s.canRaise 0xE3 = true → t.Raised 0xE3)) ∧
  (r.1 = 1 → Does (.slotCheck saved) s fun t =>
    t.load.decl = some (r.2.2.decl.atCompat s.compat) ∧ t.load.cands = [] ∧ t.prot = protOf r.2.2.recs r.2.2.decl.sealed ∧
    t.get (MF_SLOTAR + slot) 3 0 = 1 ∧ (t.mfState = mfWaitRef ∨ t.mfState = mfWaitVgd) ∧ t.dev = s.dev ∧
    (∀ n, t.bst n = if ((r.2.2.decl.atCompat s.compat).berth? n).isSome then stStopped else stOut) ∧
    (slot = 2 → s.canRaise 0xE2 = true → t.Raised 0xE2) ∧ t.key = s.key)

/-- First gate release (R131, R132): in loading, waiting for VGD, with the declared reference running, a calibration cycle done
and VGD present, the device enters service; a berth whose safe-state line is asserted trips at once (R164), and a fault that
was carried through sleep is raised (R98). The wait's expiry raises source 0xE4 while a strip lacks VGD. -/
def Obligations.FirstGateRelease : Prop := ∀ s : State,
  (s.dev.mode = .loading → s.mfState = mfWaitVgd → s.refRunning = true → s.flag TIDE_CALSTAT 11 = true →
    s.vgdUv .north = false → s.vgdUv .south = false → Does .firstGateRelease s fun t =>
      t.dev.mode = .service ∧ t.dev.sleepLatch = false ∧ t.mfState = mfService ∧
      (∀ n, s.outOfUse n = false → s.safeLine n = true → t.bflag n BP_TRIP 6 = true) ∧
      (s.dev.sleepLatch = true → s.canRaise 0x05 = true → t.Raised 0x05) ∧ t.tide = s.tide ∧ t.load = s.load) ∧
  (s.vgdUv .north = true ∨ s.vgdUv .south = true → exec .firstGateRelease s = .next s) ∧
  (s.dev.mode = .loading → s.committed = true → (s.vgdUv .north = true ∨ s.vgdUv .south = true) →
    Does .vgdWaitExpired s fun t => t = { s with coll := t.coll } ∧ (s.canRaise 0xE4 = true → t.Raised 0xE4))

/-- The reference (R130, R133, R136, R137): found during the search, or while the committed device waits for it, the tide moves
to XIN; the search's timeout lets calibration begin on the internal oscillator; a loss after commit moves the tide to it and
raises source 0x12; the return moves it back. A calibration step (R140 to R142): a trimmed step advances the cycle, its
largest correction is kept, and one above 16 sets DRIFT's flag; after the seventeenth TIDE_CALDRIFT shows the largest, the
count of cycles rises and, after the search, the loader begins to read; a step that cannot trim retires its group, the first with a substitute, a second ending the
calibration, and raises source 0x13. -/
def Obligations.ReferenceAndCalibration : Prop :=
  (∀ s : State,
    (s.searching = true → Does .referenceFound s fun t =>
      t = { s with regs := t.regs, tide := { s.tide with lost := false } } ∧ t.flag TIDE_REFSTAT 2 = true ∧
      t.flag TIDE_REFSTAT 3 = false ∧ t.flag TIDE_CALSTAT 0 = true ∧
      s.Only t [(TIDE_REFSTAT, 3, 2), (TIDE_CALSTAT, 0, 0)]) ∧
    (s.awake = true → s.refExternal = true → s.onInternal = true → s.tide.lost = false → s.mfState = mfWaitRef →
      Does .referenceFound s fun t => t = { s with regs := t.regs, tide := { s.tide with lost := false } } ∧
        t.flag TIDE_REFSTAT 2 = true ∧ t.flag TIDE_REFSTAT 3 = false ∧ t.mfState = mfWaitVgd ∧
        s.Only t [(TIDE_REFSTAT, 3, 2), (MF_STAT, 3, 0)]) ∧
    (s.searching = true → Does .refSearchTimeout s fun t => t = { s with regs := t.regs } ∧ t.flag MF_STAT 10 = true ∧
      t.flag TIDE_CALSTAT 0 = true ∧ s.Only t [(MF_STAT, 10, 10), (TIDE_CALSTAT, 0, 0)]) ∧
    (s.dev.mode = .loading → s.committed = false → s.onInternal = false → Does .refStopBeforeCommit s fun t =>
      t = { s with regs := t.regs } ∧ t.flag TIDE_REFSTAT 2 = false ∧ t.flag TIDE_REFSTAT 3 = true ∧ t.flag MF_STAT 10 = true ∧
      s.Only t [(TIDE_REFSTAT, 3, 2), (MF_STAT, 10, 10)]) ∧
    (s.awake = true → s.refExternal = true → s.onInternal = false → Does .referenceLost s fun t =>
      t = { s with regs := t.regs, coll := t.coll, tide := { s.tide with lost := true } } ∧ t.flag TIDE_REFSTAT 2 = false ∧
      t.flag TIDE_REFSTAT 3 = true ∧ t.flag TIDE_REFSTAT 4 = true ∧ (s.canRaise 0x12 = true → t.Raised 0x12) ∧
      s.Only t [(TIDE_REFSTAT, 4, 2), (MF_STAT, 3, 0)]) ∧
    (s.awake = true → s.refExternal = true → s.onInternal = true → Does .referenceReturn s fun t =>
      t = { s with regs := t.regs, tide := { s.tide with lost := false } } ∧ t.flag TIDE_REFSTAT 2 = true ∧
      t.flag TIDE_REFSTAT 3 = false ∧ s.Only t [(TIDE_REFSTAT, 3, 2), (MF_STAT, 3, 0)])) ∧
  (∀ s : State, s.awake = true → s.flag TIDE_CALSTAT 0 = true →
    (∀ corr, s.tide.calStep < 16 → s.tide.retired = [] → Does (.calibrationStep corr true) s fun t =>
      t = { s with regs := t.regs, tide := { s.tide with calMax := max s.tide.calMax corr, calStep := s.tide.calStep + 1 } } ∧
      (16 < corr → t.flag TIDE_CALSTAT 12 = true) ∧ t.get TIDE_CALSTAT 5 1 = s.tide.calStep ∧
      s.Only t [(TIDE_CALSTAT, 5, 1), (TIDE_CALSTAT, 12, 12)]) ∧
    (∀ corr, s.tide.calStep = 16 → s.tide.retired = [] → Does (.calibrationStep corr true) s fun t =>
      (s.mfState ≠ mfRefSearch → t.load = s.load ∧ t.mem = s.mem) ∧
      (s.mfState = mfRefSearch → t.mfState = mfHeaders ∧ ∀ k < 2, loaderRead .loader k 168 ∈ t.mem.queue ++ t.mem.wait) ∧
      t.tide = { s.tide with calMax := 0, calStep := 0 } ∧ t.get TIDE_CALDRIFT 7 0 = min (max s.tide.calMax corr) 255 ∧
      t.rd TIDE_CALCNT = s.rd TIDE_CALCNT + 1 ∧ t.flag TIDE_CALSTAT 11 = true ∧
      s.Only t [(TIDE_CALSTAT, 5, 1), (TIDE_CALSTAT, 11, 11), (TIDE_CALSTAT, 12, 12), (TIDE_CALDRIFT, 7, 0), whole TIDE_CALCNT, (MF_STAT, 3, 0)]) ∧
    (∀ corr, Does (.calibrationStep corr false) s fun t =>
      t.tide.retired = s.tide.retired ++ [(16 + s.tide.calStep) % 17] ∧ t.flag TIDE_CALSTAT 13 = true ∧
      (s.canRaise 0x13 = true → t.Raised 0x13) ∧ (s.tide.retired = [] → t.flag TIDE_CALSTAT 14 = true) ∧
      (s.tide.retired ≠ [] → t.flag TIDE_CALSTAT 0 = false)))

/-- The watch timers (R143 to R146): START runs a one-shot or periodic timer from zero with its length, STOP ends its run without
an expiry; START with STOP, or either for a FREE or BLANK timer, changes nothing; an expiry sets its status bit and a
periodic timer runs on with the length written meanwhile; a new mode stops the timer. -/
def Obligations.WatchTimers : Prop := ∀ (s : State) (k : Fin 24),
  (s.awake = true → (s.wtMode k.val = wtOneshot ∨ s.wtMode k.val = wtPeriodic) → 1 ≤ s.wtLen k.val →
    Does (.wtStart (BitVec.ofNat 18 (64 + k.val))) s (fun t =>
      t = { s with tide := { s.tide with wt := s.tide.wt.set k.val { running := true, len := s.wtLen k.val } } }) ∧
    Does (.wtStop (BitVec.ofNat 18 (32 + k.val))) s fun t =>
      t = { s with tide := { s.tide with wt := s.tide.wt.modify k.val fun w => { w with running := false } } }) ∧
  (s.wtMode k.val = wtFree ∨ s.wtMode k.val = wtBlank → exec (.wtStart (BitVec.ofNat 18 (64 + k.val))) s = .next s) ∧
  (exec (.wtStart (BitVec.ofNat 18 (96 + k.val))) s = .next s) ∧
  ((s.tide.wt.getD k.val {}).running = true → Does (.wtExpiry k) s fun t =>
    t = { s with regs := t.regs, tide := { s.tide with wt := t.tide.wt } } ∧
    t.flag (TIDE_WTSTAT0 + k.val / 18) (k.val % 18) = true ∧
    s.Only t [(TIDE_WTSTAT0 + k.val / 18, k.val % 18, k.val % 18)] ∧
    t.tide.wt.getD k.val {} = (if s.wtMode k.val = wtPeriodic then { running := true, len := s.wtLen k.val }
      else { (s.tide.wt.getD k.val {}) with running := false }) ∧
    ∀ j, j ≠ k.val → t.tide.wt.getD j {} = s.tide.wt.getD j {}) ∧
  (∀ v, s.awake = true → s.writeFails .host [(TIDE_WTCFG0 + 2 * k.val, v)] = none → Does (.wtCfgWrite k v) s fun t =>
    t.get (TIDE_WTCFG0 + 2 * k.val) 2 0 = bits v 2 0 ∧ t.get (TIDE_WTCFG0 + 2 * k.val) 7 4 = bits v 7 4 ∧
    s.Only t [whole (TIDE_WTCFG0 + 2 * k.val)] ∧ s.Within t [.page 2, .tide] ∧
    (s.wtMode k.val ≠ bits v 2 0 → (t.tide.wt.getD k.val {}).running = false) ∧
    (s.wtMode k.val = bits v 2 0 → t.tide = s.tide))

/-- A write to a shadow (R153, R218) changes the shadow and its pending mark and nothing else, so nothing active; a host write to
a compare shadow fails while the berth's control uses it (R261). Loads (R154 to R156): at the load point an armed berth takes
every pending shadow, one that is not armed takes none; a load strobe arms a berth whose EN is 1 and loads one whose EN is 0;
GLB_LOADALL strobes the berths in its scope together and no other. -/
def Obligations.ShadowsAndLoads : Prop :=
  (∀ (s : State) (m : Master) (n : Berth) (sh : Fin 10) (v : Word),
    (s.awake = true → s.writeFails m [(ba n (shadowOff sh.val), v)] = none → Does (.shadowWrite m n sh v) s fun t =>
      t = ((s.bwr n (shadowOff sh.val) (t.brd n (shadowOff sh.val))).modPwm n fun q => { q with pend := (t.berth n).pwm.pend }) ∧
      t.brd n (shadowOff sh.val) = mergeWrite (ba n (shadowOff sh.val)) (s.brd n (shadowOff sh.val)) v ∧
      (t.berth n).pwm.pend.getLsbD sh.val = true ∧
      ∀ j : Fin 10, j ≠ sh → (t.berth n).pwm.pend.getLsbD j.val = (s.berth n).pwm.pend.getLsbD j.val) ∧
    (1 ≤ sh.val → sh.val ≤ 6 → s.bst n = stRunning → exec (.shadowWrite .host n sh v) s = .next s)) ∧
  (∀ (s : State) (n : Berth),
    (s.halted = false → ((s.berth n).pwm.run = .running ∨ (s.berth n).pwm.run = .waiting) →
      (s.bflag n BP_STAT 4 = true → Does (.loadPoint n) s fun t => s.Loaded t n ∧ s.Within t [.berth n]) ∧
      (s.bflag n BP_STAT 4 = false → Does (.loadPoint n) s fun t => t.regs = s.regs ∧ (t.berth n).pwm = (s.berth n).pwm ∧
        s.Within t [.berth n])) ∧
    (s.awake = true →
      (s.bflag n BP_CTL 0 = true → Does (.bpLoad n 1) s fun t =>
        t = { s with regs := t.regs } ∧ t.bflag n BP_STAT 4 = true ∧ s.Only t [(ba n BP_STAT, 4, 4)]) ∧
      (s.bflag n BP_CTL 0 = false → Does (.bpLoad n 1) s fun t => s.Loaded t n ∧ s.Within t [.berth n])) ∧
    (∀ v : Word, s.awake = true →
      let scope := v.getLsbD 2 || (v.getLsbD 0 && n.quay == .north) || (v.getLsbD 1 && n.quay == .south)
      Does (.loadall v) s fun t =>
        (scope = true → s.bflag n BP_CTL 0 = true → t.bflag n BP_STAT 4 = true ∧ t.berth n = s.berth n) ∧
        (scope = true → s.bflag n BP_CTL 0 = false → s.Loaded t n) ∧
        (scope = false → t.berth n = s.berth n ∧ ∀ a, regZone a = .berth n → t.rd a = s.rd a)))

/-- EN (R156, R158, R159, R162): set from 0, the counter waits for the first aligned boundary at least 100 ns later; cleared, it
stops, an armed load takes place, and no high side stays on outside a halt or a force. -/
def Obligations.PwmEnableAndDisable : Prop := ∀ (s : State) (n : Berth) (v : Word),
  s.awake = true → s.writeFails .host [(ba n BP_CTL, v)] = none →
  (v.getLsbD 0 = true → s.bflag n BP_CTL 0 = false → Does (.pwmEnable n v) s fun t =>
    t.bflag n BP_CTL 0 = true ∧ (t.berth n).pwm.run = .waiting ∧ s.tick + 512 ≤ (t.berth n).pwm.perStart ∧
    (∀ T, T = s.bnat n BP_PERIODA * t.prescale n → 0 < T →
      (t.berth n).pwm.perStart % T = s.bnat n BP_PHASEOFSA * T / 2 ^ 18 % T ∧
        (t.berth n).pwm.perStart < s.tickOf n + 512 + T) ∧
    (t.berth n).pwm.force.per = s.bnat n BP_PERIODA ∧ s.Within t [.berth n, .coll, .dock, .page 12]) ∧
  (v.getLsbD 0 = false → s.bflag n BP_CTL 0 = true → Does (.pwmDisable n v) s fun t =>
    t.bflag n BP_CTL 0 = false ∧ (t.berth n).pwm.run = .off ∧ (s.bflag n BP_STAT 4 = true → s.Loaded t n) ∧
    (s.halted = false → s.bflag n BP_FORCE 6 = false → ∀ p, (t.leg n p).hi = false) ∧
    s.Within t [.berth n, .coll, .dock, .page 12])

/-- The counter (R148, R154, R159, R160): at the first boundary the period begins with the active values; at count c each phase's
command is that of R148, refresh included; at a period boundary the values of the last load take effect, or a due stretch is
inserted, whose end begins the period. The end of a dead time (R150): the switch whose turn-on waited turns on where its
command still calls for it and no protection holds it off; its partner is off. -/
def Obligations.CounterEvents : Prop :=
  (∀ (s : State) (n : Berth), s.halted = false →
    let pw := (s.berth n).pwm
    (pw.run = .waiting → Does (.pwmStart n) s fun t =>
      (t.berth n).pwm.run = .running ∧ (t.berth n).pwm.cnt = 0 ∧ (t.berth n).pwm.force = s.activeForce n ∧
      (∀ p, (s.leg n p).refresh = false →
        (t.leg n p).h = hCommand ((s.activeForce n).on.get p) ((s.activeForce n).off.get p) (s.activeForce n).per 0) ∧
      s.Within t [.berth n, .coll, .dock, .page 12]) ∧
    (∀ c, pw.run = .running → 0 < c → c < pw.force.per → Does (.pwmEdge n c) s fun t =>
      (t.berth n).pwm.cnt = c ∧ (t.berth n).pwm.force = pw.force ∧ (t.berth n).pwm.perStart = pw.perStart ∧
      (∀ p, (t.leg n p).h = (hCommand (pw.force.on.get p) (pw.force.off.get p) pw.force.per c &&
        (!(s.leg n p).refresh || decide (s.bget n BG_REFW 14 0 + pw.force.dt ≤ c * s.prescale n)))) ∧
      s.Within t [.berth n, .coll, .dock, .page 12]) ∧
    (pw.run = .running → pw.stretch = 0 → Does (.pwmEdge n 0) s fun t =>
      (t.berth n).pwm.run = .running ∧ (t.berth n).pwm.perStart = pw.perStart + pw.force.per * s.prescale n ∧
      (t.berth n).pwm.force = s.activeForce n ∧ (t.berth n).pwm.divCnt = pw.divCnt + 1 ∧
      s.Within t [.berth n, .coll, .dock, .page 12]) ∧
    (pw.run = .running → pw.stretch ≠ 0 → Does (.pwmEdge n 0) s fun t =>
      pw.perStart + pw.force.per * s.prescale n ≤ (t.berth n).pwm.perStart ∧ (t.berth n).pwm.stretch = 0 ∧
      (t.berth n).pwm.force = s.activeForce n) ∧
    (pw.run = .stretch → Does (.realignStretchEnd n) s fun t =>
      (t.berth n).pwm.run = .running ∧ (t.berth n).pwm.cnt = 0 ∧ (t.berth n).pwm.perStart = pw.perStart ∧
      s.Within t [.berth n, .coll, .dock, .page 12])) ∧
  (∀ (s : State) (n : Berth) (p : Phase),
    (s.gateRow n p = .pwm → (s.berth n).pwm.run = .running → (s.leg n p).hi = false → (s.leg n p).lo = false →
      ((s.leg n p).h = true → (s.leg n p).blockHi (s.vgdUv n.quay) = false →
        ((s.leg n p).bsFirst = true ∨ (s.leg n p).bsOk = true) →
        Does (.deadTimeEnd n p) s fun t => (t.leg n p).hi = true ∧ (t.leg n p).lo = false ∧
          s.Within t [.berth n, .dock, .page 12]) ∧
      ((s.leg n p).h = false → (s.leg n p).blockLo (s.vgdUv n.quay) = false →
        Does (.deadTimeEnd n p) s fun t => (t.leg n p).lo = true ∧ (t.leg n p).hi = false ∧
          s.Within t [.berth n, .dock, .page 12])) ∧
    ((s.leg n p).hi = true ∨ (s.leg n p).lo = true → exec (.deadTimeEnd n p) s = .next s))

/-- Trips (R164, R165, R402): the safe-state line, or a TRIPN pin low for more than 40 ns outside a blanking window, latches the
trip with its cause, and the berth goes to SAFE; a later cause only adds its bit. A pulse below 20 ns never trips; the end of
a blanking window trips on a pin that is still low. TRIPCLR (R170, R171): with every cause gone the trip clears, SAFE goes to
STOPPED and EN is 0; with a cause active the write is refused and REFUSED is set. -/
def Obligations.TripsAndTheirClear : Prop :=
  (∀ (s : State) (n : Berth), s.inService = true → s.outOfUse n = false →
    (s.safeLine n = true → s.bflag n BP_TRIP 6 = false → Does (.safeStateTrip n) s fun t =>
      s.Tripped t n ∧ t.bflag n BP_TRIP causeFault = true ∧ s.Within t [.berth n, .dock, .page 12] ∧
      (s.bst n ≠ stUnmooring → s.bst n ≠ stDrydock → s.bst n ≠ stSeaTrial → t.bst n = stSafe) ∧
      (s.bst n = stUnmooring → t.bst n = stDrydock)) ∧
    (s.safeLine n = true → s.bflag n BP_TRIP 6 = true → Does (.safeStateTrip n) s fun t =>
      t = { s with regs := t.regs } ∧ t.bflag n BP_TRIP causeFault = true ∧ s.Only t [(ba n BP_TRIP, causeFault, causeFault)]) ∧
    ((s.berth n).pwm.blank = none → s.bflag n BP_TRIP 6 = false → ∀ ns, 40 < ns → Does (.tripnTrip n.quay (.low ns)) s fun t =>
      s.Tripped t n ∧ t.bflag n BP_TRIP causePin = true ∧ t.tripLow n.quay = true ∧
      (s.canRaise (match n.quay with | .north => 0x48 | .south => 0x49) = true →
        t.Raised (match n.quay with | .north => 0x48 | .south => 0x49))) ∧
    (∀ q ns, ns < 20 → Does (.tripnTrip q (.low ns)) s fun t => t = { s with dev := t.dev } ∧ t.tripLow q = true) ∧
    (∀ q, Does (.tripnTrip q .high) s fun t => t = { s with dev := t.dev } ∧ t.tripLow q = false) ∧
    (∀ w, (s.berth n).pwm.blank = some w → s.bflag n BP_TRIP 6 = false →
      (s.tripLow n.quay = true → Does (.blankWindowEnd n) s fun t =>
        s.Tripped t n ∧ t.bflag n BP_TRIP causePin = true ∧ s.Within t [.berth n, .coll, .dock, .page 12]) ∧
      (s.tripLow n.quay = false → Does (.blankWindowEnd n) s fun t =>
        t = s.modPwm n fun q => { q with blank := none, watch := max w.stop s.tick }))) ∧
  (∀ (s : State) (n : Berth), s.awake = true → s.bflag n BP_TRIP 6 = true →
    (s.tripLow n.quay = false → s.brakeTrip n.quay = false → s.safeLine n = false → Does (.tripClear n 1) s fun t =>
      t.bget n BP_TRIP 7 6 = 0 ∧ t.bget n BP_TRIP 2 0 = 0 ∧ t.bflag n BP_CTL 0 = false ∧ (t.berth n).pwm.run = .off ∧
      (s.bst n = stSafe → t.bst n = stStopped) ∧ (s.bst n ≠ stSafe → t.bst n = s.bst n) ∧
      s.Within t [.berth n, .coll, .dock, .page 12]) ∧
    (s.tripLow n.quay = true ∨ s.brakeTrip n.quay = true ∨ s.safeLine n = true → Does (.tripClear n 1) s fun t =>
      t = { s with regs := t.regs } ∧ t.bflag n BP_TRIP 8 = true ∧ s.Only t [(ba n BP_TRIP, 8, 8)]))

/-- BP_FORCE (R163): the starting programs own it, and outside them and drydock FEN cannot be set; a write that is permitted
stores its fields, and a switch that its phase's code does not command on is off. Debug halt (R173): HALT 1 is taken in
service while the device is not sealed; every gate output stays, and the counters and load points stand until the resume,
when a period in progress goes on later by the time of the halt. -/
def Obligations.ForceAndDebugHalt : Prop :=
  (∀ (s : State) (m : Master) (n : Berth) (v : Word), s.awake = true →
    (s.starting n = true → m ≠ .self → exec (.bpForce m n v) s = .next s) ∧
    (s.starting n = false → s.bst n ≠ stDrydock → v.getLsbD 6 = true → exec (.bpForce m n v) s = .next s) ∧
    (s.writeFails m [(ba n BP_FORCE, v)] = none → Does (.bpForce m n v) s fun t =>
      t.bget n BP_FORCE 6 0 = bits v 6 0 ∧ s.Within t [.berth n, .coll, .dock, .page 12] ∧
      (s.inService = true → s.outOfUse n = false → s.bflag n BP_TRIP 6 = false → s.halted = false → v.getLsbD 6 = true →
        ∀ p, t.forceCode n p ≠ 0 → (t.forceCode n p ≠ 1 → (t.leg n p).hi = false) ∧
          (t.forceCode n p ≠ 2 → (t.leg n p).lo = false)))) ∧
  (∀ s : State,
    (s.awake = true → s.mfState = mfService → s.flag MF_STAT 9 = false → Does (.debugHalt 1) s fun t =>
      t.halted = true ∧
      (∀ n, (t.berth n).legs = (s.berth n).legs.map (fun l => { l with heldHi := l.hi, heldLo := l.lo }) ∧
        (t.berth n).pwm = { (s.berth n).pwm with haltAt := s.tickOf n }) ∧
      s.Only t ((GLB_DBGHALT, 0, 0) :: berthList.map fun n => (ba n BF_STAT, 5, 5))) ∧
    (s.flag MF_STAT 9 = true ∨ s.mfState ≠ mfService → exec (.debugHalt 1) s = .next s) ∧
    (s.halted = true → ∀ n c, exec (.pwmEdge n c) s = .next s ∧ exec (.loadPoint n) s = .next s ∧
      exec (.pwmStart n) s = .next s ∧ exec (.realignStretchEnd n) s = .next s) ∧
    (s.awake = true → s.halted = true → Does (.debugResume 0) s fun t => t.halted = false ∧
      ∀ n, (t.berth n).pwm.cnt = (s.berth n).pwm.cnt ∧ ((s.berth n).pwm.run ≠ .waiting →
        (t.berth n).pwm.perStart = (s.berth n).pwm.perStart + (s.tickOf n - (s.berth n).pwm.haltAt))))

/-- A measured edge (R182 to R185): it is recorded as soft or hard, a hard one with its time; with adaptive drive of an L-class
berth not frozen, a slope above the ceiling lowers the code by 2, else a time beyond the target band moves it by 1, within
CMIN to CMAX; otherwise the codes stand. An edge that saturates counts as a hard edge of 4095 ticks. -/
def Obligations.EdgeMeasurementSteersCode : Prop := ∀ (s : State) (n : Berth) (p : Phase) (sd : Side) (ticks : Nat) (vb : Int),
  s.inService = true → s.outOfUse n = false →
  let o := BG_EDGEHU + switchIdx p sd
  let r := match sd with | .high => BG_CODEH | .low => BG_CODEL
  let tk := min ticks 4095
  Does (.edgeMeasured n p sd true ticks vb) s (fun t => t = { s with regs := t.regs } ∧ t.bget n o 17 16 = 3 ∧
    s.Only t [(ba n o, 17, 16)]) ∧
  Does (.edgeMeasured n p sd false ticks vb) s (fun t => t = { s with regs := t.regs } ∧ t.bget n o 17 16 = 2 ∧
    t.bget n o 11 0 = tk ∧ s.Only t [(ba n o, 17, 16), (ba n o, 11, 0), (ba n r, 5 * p.idx + 4, 5 * p.idx)] ∧
    ((isH n = true ∨ s.bflag n BG_CTL 0 = false ∨ s.bflag n BG_CTL 1 = true) → t.brd n r = s.brd n r) ∧
    (isH n = false → s.bflag n BG_CTL 0 = true → s.bflag n BG_CTL 1 = false →
      let cmin : Nat := s.bget n BG_CODELIM 4 0
      let cmax : Nat := s.bget n BG_CODELIM 12 8
      let c : Int := s.bget n r (5 * p.idx + 4) (5 * p.idx)
      let x : Int := if (200000 * s.bget n BG_DVDT 7 0 * tk : Int) < 4096 * vb then c - 2
        else if s.bget n BG_TARGET 10 0 + s.bget n BG_TARGET 17 12 < tk then c + 1
        else if tk + s.bget n BG_TARGET 17 12 < s.bget n BG_TARGET 10 0 then c - 1 else c
      (t.bget n r (5 * p.idx + 4) (5 * p.idx) : Int) = min (max x cmin) cmax)) ∧
  exec (.edgeTimeSaturation n p sd vb) s = exec (.edgeMeasured n p sd false 4095 vb) s ∧
  Does (.edgeTimeSaturation n p sd vb) s fun t => t.bget n o 17 16 = 2 ∧ t.bget n o 11 0 = 4095

/-- The pump and the bootstraps (R190, R193, R194): a pump failure sets FAIL and FAILED and raises 0x43, its recovery clears FAIL
alone; a bootstrap below its threshold turns a high side that is on off and holds it, and counts; the sixteenth count in a
row raises source 0x80 + 8n + 2. The VGD monitor (R206, R207): undervoltage turns every gate and the brake output of the
strip off, holds the switches and raises 0x40 or 0x41; in reset the present bit alone shows it; its end clears the present
bit; overvoltage raises 0x42. -/
def Obligations.PumpBootstrapAndVgd : Prop :=
  (∀ s : State,
    (s.awake = true → s.flag PWR_PUMP 0 = true → s.flag PWR_PUMP 1 = false → Does .pumpFail s fun t =>
      t = { s with regs := t.regs, coll := t.coll } ∧ t.flag PWR_PUMP 1 = true ∧ t.flag PWR_PUMP 2 = true ∧
      s.Only t [(PWR_PUMP, 2, 1)] ∧ (s.canRaise 0x43 = true → t.Raised 0x43)) ∧
    Does .pumpRecover s (fun t => t = { s with regs := t.regs } ∧ t.flag PWR_PUMP 1 = false ∧ s.Only t [(PWR_PUMP, 1, 1)]) ∧
    ∀ (n : Berth) (p : Phase),
      Does (.bootstrapUndervoltage n p false) s (fun t => t = s.modLeg n p fun l => { l with bsOk := true }) ∧
      ((s.leg n p).hi = false → Does (.bootstrapUndervoltage n p true) s fun t => t = s.modLeg n p fun l => { l with bsOk := false }) ∧
      ((s.leg n p).hi = true → Does (.bootstrapUndervoltage n p true) s fun t =>
        (t.leg n p).hi = false ∧ (t.leg n p).bsHi = true ∧ (t.leg n p).bsOk = false ∧ t.bflag n BG_EVT (6 + p.idx) = true ∧
        s.Within t [.berth n, .coll, .dock, .page 12] ∧
        (s.bget n BG_BSCNT (5 * p.idx + 4) (5 * p.idx) < 15 →
          t.bget n BG_BSCNT (5 * p.idx + 4) (5 * p.idx) = s.bget n BG_BSCNT (5 * p.idx + 4) (5 * p.idx) + 1) ∧
        (s.bget n BG_BSCNT (5 * p.idx + 4) (5 * p.idx) = 15 → t.bget n BG_BSCNT (5 * p.idx + 4) (5 * p.idx) = 0 ∧
          (s.outOfUse n = false → s.canRaise (0x80 + 8 * n.val + 2) = true → t.Raised (0x80 + 8 * n.val + 2))))) ∧
  (∀ (s : State) (q : Quay),
    let b := match q with | .north => 0 | .south => 1
    (s.awake = true → Does (.vgdUndervoltage q) s fun t =>
      t.vgdUv q = true ∧ t.flag PWR_VGDFLAGS b = true ∧ t.flag PWR_BRKSTAT (brkBit 2 q) = false ∧
      (∀ n, Berth.quay n = q → ∀ p, (t.leg n p).hi = false ∧ (t.leg n p).lo = false ∧ (t.leg n p).vgdHi = true ∧
        (t.leg n p).vgdLo = true) ∧
      (∀ n, Berth.quay n ≠ q → t.berth n = s.berth n) ∧
      (s.canRaise (0x40 + b) = true → t.Raised (0x40 + b))) ∧
    (s.awake = false → Does (.vgdUndervoltage q) s fun t => t = { s with regs := t.regs } ∧ t.vgdUv q = true ∧
      s.Only t [(PWR_VGDSTAT, b, b)]) ∧
    Does (.vgdUvDeassert q) s (fun t => t.vgdUv q = false ∧ t.berths = s.berths ∧ s.Within t [.page 1, .quays]) ∧
    (s.awake = true → s.flag PWR_VGDSTAT 2 = false → Does (.vgdOvervoltage true) s fun t =>
      t = { s with regs := t.regs, coll := t.coll } ∧ t.flag PWR_VGDSTAT 2 = true ∧ t.flag PWR_VGDFLAGS 2 = true ∧
      s.Only t [(PWR_VGDSTAT, 2, 2), (PWR_VGDFLAGS, 2, 2)] ∧ (s.canRaise 0x42 = true → t.Raised 0x42)) ∧
    Does (.vgdOvervoltage false) s fun t => t = { s with regs := t.regs } ∧ t.flag PWR_VGDSTAT 2 = false ∧
      s.Only t [(PWR_VGDSTAT, 2, 2)])

/-- The both-on interlock (R197, R198, R366): both outputs of the half-bridge turn off and are held, and its source is raised;
its end changes only what waits for it. Short circuit (R199 to R204): a detection outside blanking, with VGD, turns the
switch that is on off and holds it, sets its event bit and counts, and a voltage within BG_SCTHR x 4 mV in either polarity
is none; the eighth in a row raises source 0x80 + 8n; with both switches off only the phase's bit is set; inside blanking
nothing happens until its end, when a voltage that is above the threshold is detected. -/
def Obligations.InterlockAndShortCircuit : Prop :=
  (∀ s : State,
    (∀ (n : Berth) (p : Phase), s.inService = true → s.outOfUse n = false → Does (.interlockEvent (.berth n p)) s fun t =>
      (t.leg n p).hi = false ∧ (t.leg n p).lo = false ∧ (t.leg n p).ilkHi = true ∧ (t.leg n p).ilkLo = true ∧
      t.bflag n BG_EVT (3 + p.idx) = true ∧ s.Within t [.berth n, .coll, .dock, .page 12] ∧
      (s.canRaise (0x80 + 8 * n.val + 1) = true → t.Raised (0x80 + 8 * n.val + 1))) ∧
    (∀ u : Tender, s.tdHere u = true → Does (.interlockEvent (.tender u)) s fun t =>
      (t.tender u).hi = false ∧ (t.tender u).lo = false ∧ (t.tender u).ilk = true ∧ t.regs = s.regs ∧
      s.Within t [.tender u, .coll] ∧ (s.canRaise 0x4D = true → t.Raised 0x4D)) ∧
    (∀ (n : Berth) (p : Phase), Does (.interlockClear (.berth n p)) s fun t => t = s.modLeg n p fun l => { l with ilkBusy := false }) ∧
    ∀ u : Tender, Does (.interlockClear (.tender u)) s fun t => t = s.modTender u fun x => { x with ilkBusy := false }) ∧
  (∀ (s : State) (n : Berth) (p : Phase) (v : Int),
    ((s.berth n).pwm.scFrom = none → s.scThr n = s.pget (ba n BG_SCTHR) 7 0) ∧
    (v.natAbs ≤ 4000 * s.scThr n → exec (.shortCircuitDetect n p v) s = .next s ∧
      Does (.scBlankEnd n p v) s fun t => t = s.modLeg n p fun l => { l with scBlank := false }) ∧
    (s.awake = true → s.vgdUv n.quay = false → 4000 * s.scThr n < v.natAbs →
    ((s.leg n p).scBlank = false → (s.leg n p).hi = true →
      let i := switchIdx p .high
      Does (.shortCircuitDetect n p v) s fun t =>
        (t.leg n p).hi = false ∧ (t.leg n p).scHi = true ∧ t.bflag n BG_EVT (9 + i) = true ∧
        s.Within t [.berth n, .coll, .dock, .page 12] ∧
        (s.bget n BG_SCCNT (3 * i + 2) (3 * i) < 7 →
          t.bget n BG_SCCNT (3 * i + 2) (3 * i) = s.bget n BG_SCCNT (3 * i + 2) (3 * i) + 1) ∧
        (s.bget n BG_SCCNT (3 * i + 2) (3 * i) = 7 → t.bget n BG_SCCNT (3 * i + 2) (3 * i) = 0 ∧
          (s.outOfUse n = false → s.canRaise (0x80 + 8 * n.val) = true → t.Raised (0x80 + 8 * n.val)))) ∧
    ((s.leg n p).scBlank = false → (s.leg n p).hi = false → (s.leg n p).lo = true →
      Does (.shortCircuitDetect n p v) s fun t => (t.leg n p).lo = false ∧ (t.leg n p).scLo = true ∧
        t.bflag n BG_EVT (9 + switchIdx p .low) = true) ∧
    ((s.leg n p).scBlank = false → (s.leg n p).hi = false → (s.leg n p).lo = false →
      Does (.shortCircuitDetect n p v) s fun t =>
        t.bflag n BG_EVT p.idx = true ∧ s.Only t [(ba n BG_EVT, p.idx, p.idx)] ∧ s.Within t [.berth n] ∧
        t.leg n p = { s.leg n p with scAt := some (s.tickOf n) } ∧ (∀ r, r ≠ p → t.leg n r = s.leg n r) ∧
        (t.berth n).pwm = (s.berth n).pwm) ∧
    ((s.leg n p).scBlank = true → exec (.shortCircuitDetect n p v) s = .next s) ∧
    ((s.leg n p).scBlank = true → (s.leg n p).hi = true → Does (.scBlankEnd n p v) s fun t =>
      (t.leg n p).hi = false ∧ (t.leg n p).scHi = true ∧ (t.leg n p).scBlank = false)))

/-- The brake chopper (R208): while enabled, in service and with VGD, the output follows its comparator, a change waiting for the
2 µs minimum time; a bus conversion is stored and shows whether the bus stands above ON. The brake trip (R209): enabled and
in service, its assertion trips every berth of the quay that is in use and raises 0x44 or 0x45, a chopper that has reached
MAXON among its causes; while it is asserted it raises nothing again; it ends with the chopper off, and the latched trips stand. -/
def Obligations.Brake : Prop :=
  (∀ (s : State) (q : Quay), s.inService = true → s.vgdUv q = false →
    let en := s.pflag PWR_BRKCTL (match q with | .north => 0 | .south => 2)
    let out := s.flag PWR_BRKSTAT (brkBit 2 q)
    let frame := fun t : State => s.Within t [.page 1, .quays] ∧
      s.Only t [(PWR_BRKSTAT, brkBit 0 q, brkBit 0 q), (PWR_BRKSTAT, brkBit 2 q, brkBit 2 q)]
    Does (.chopperOn q) s (fun t => frame t ∧ t.flag PWR_BRKSTAT (brkBit 0 q) = true ∧ (t.quay q).want = true ∧
      t.flag PWR_BRKSTAT (brkBit 2 q) = (if (s.quay q).minRun then out else en)) ∧
    Does (.chopperOff q) s (fun t => frame t ∧ t.flag PWR_BRKSTAT (brkBit 0 q) = false ∧ (t.quay q).want = false ∧
      t.flag PWR_BRKSTAT (brkBit 2 q) = (if (s.quay q).minRun then out else false)) ∧
    Does (.chopperMinTimeEnd q) s (fun t => frame t ∧ t.flag PWR_BRKSTAT (brkBit 2 q) = ((s.quay q).want && en)) ∧
    ∀ v : Int, -131072 ≤ v → v ≤ 131071 → Does (.busConversion q v) s fun t => frame t ∧ (t.quay q).vbus = v ∧
      t.flag PWR_BRKSTAT (brkBit 0 q) =
        decide ((200 * s.pget (match q with | .north => 0x121 | .south => 0x124) 9 0 : Int) < v)) ∧
  (∀ (s : State) (q : Quay),
    (s.inService = true → s.pflag PWR_BRKCTL (match q with | .north => 1 | .south => 3) = true → s.brakeTrip q = false →
      Does (.brakeTrip q .level) s fun t => t.brakeTrip q = true ∧
        (∀ n, Berth.quay n = q → s.outOfUse n = false → t.bflag n BP_TRIP causeBrake = true ∧
          (s.bflag n BP_TRIP 6 = false → s.Tripped t n)) ∧
        (∀ n, Berth.quay n ≠ q → t.berth n = s.berth n) ∧
        (s.canRaise (match q with | .north => 0x44 | .south => 0x45) = true →
          t.Raised (match q with | .north => 0x44 | .south => 0x45))) ∧
    (s.inService = true → s.flag PWR_BRKSTAT (brkBit 2 q) = true →
      s.prd (match q with | .north => 0x123 | .south => 0x126) ≠ 0 → Does (.brakeTrip q .maxOn) s fun t =>
        t.flag PWR_BRKSTAT (brkBit 6 q) = true ∧
        (s.pflag PWR_BRKCTL (match q with | .north => 1 | .south => 3) = true → t.brakeTrip q = true)) ∧
    (s.inService = true → s.pflag PWR_BRKCTL (match q with | .north => 1 | .south => 3) = true → s.brakeTrip q = true →
      exec (.brakeTrip q .level) s = .next s) ∧
    (s.flag PWR_BRKSTAT (brkBit 2 q) = false → Does (.brakeTripDeassert q) s fun t =>
      t = { s with regs := t.regs } ∧ t.brakeTrip q = false ∧ s.Only t [(PWR_BRKSTAT, brkBit 4 q, brkBit 4 q)]))

/-- A sample (R217 to R221, R226, R258): in service, in a sampled period, outside a calibration, a halt and a stretch, the values
are held at the programmed instant, or later by the guard that it falls in, at most twice GUARD; a postponed one is marked,
and so is one at the guard's limit, and a sample point at or beyond the period; the bus result is copied, and the target is
the Dth load point after the hold. One sample is taken in a period. A result set (R222 to R227, R243): the corrected currents
and voltages of the held sample stand in their registers in one step, a saturated one is marked, the count of samples rises,
and the token that waits for a lane carries the nine words. Without a held sample nothing changes. Every channel whose
conversion timed out fails, and source 0x80 + 8n + 4 is raised (R223). -/
def Obligations.SamplesAndResults : Prop :=
  (∀ (s : State) (n : Berth),
    s.inService = true → s.outOfUse n = false → s.halted = false → s.bflag n BS_SENSE 13 = false →
    let pw := (s.berth n).pwm
    let D := s.bget n BS_CTL 5 3 + 1
    let p := pw.perStart + min pw.force.sampt (pw.force.per - 1) * s.prescale n
    (pw.run = .running → s.pulsed n = false → pw.late = none → pw.divCnt % D = 0 → pw.sampAt ≠ some p →
      Does (.sample n) s fun t =>
        let d := (t.berth n).sens.delay
        let T := pw.force.per * s.prescale n
        let lp := pw.perStart + T - 512
        (t.berth n).sens.held = true ∧ (t.berth n).sens.heldAt = s.tide.now ∧ (pw.guard = none → d = 0) ∧
        (∀ a e, pw.guard = some (a, e) → d = if a ≤ p ∧ p < e then min (e - p) (2 * s.bget n BS_GUARD 11 0) else 0) ∧
        (t.berth n).sens.target = D ∧ (t.berth n).sens.due = (if p + d < lp then lp else lp + T) + (D - 1) * T ∧
        (t.berth n).sens.heldBus = (s.quay n.quay).vbus ∧ (t.berth n).pwm.sampAt = some p ∧
        (d ≠ 0 → t.bflag n BS_EVT 9 = true) ∧ (d ≠ 0 → d = 2 * s.bget n BS_GUARD 11 0 → t.bflag n BS_EVT 10 = true) ∧
        (pw.force.per ≤ pw.force.sampt → t.bflag n BS_EVT 8 = true) ∧
        s.Only t [(ba n BS_EVT, 10, 8)] ∧ s.Within t [.berth n]) ∧
    (pw.run = .off → s.pulsed n = false → pw.late = none → s.sampledPeriod n (s.sampleAt n).1 = true →
      pw.sampAt ≠ some (s.sampleAt n).2 → Does (.sample n) s fun t =>
        (t.berth n).sens.held = true ∧ (t.berth n).sens.heldAt = s.tide.now ∧ s.Only t [(ba n BS_EVT, 10, 8)] ∧ s.Within t [.berth n]) ∧
    (pw.run = .running → s.pulsed n = false → pw.late = none → pw.divCnt % D ≠ 0 ∨ pw.sampAt = some p →
      exec (.sample n) s = .next s) ∧
    (s.pulsed n = true → Does (.sample n) s fun t =>
      (t.berth n).sens.held = true ∧ (t.berth n).sens.delay = 0 ∧ t.regs = s.regs ∧ s.Within t [.berth n])) ∧
  (∀ (s : State) (n : Berth), s.bflag n BS_SENSE 13 = true ∨ s.halted = true → exec (.sample n) s = .next s) ∧
  (∀ (s : State) (n : Berth) (raw : RawSet),
    ((s.berth n).sens.held = false → exec (.resultSet n raw) s = .next s) ∧
    ((s.berth n).sens.held = true → s.bst n ≠ stDrydock → s.bst n ≠ stOut → (s.berth n).noToken = false →
      Does (.resultSet n raw) s fun t =>
        (t.berth n).sens.held = false ∧ (t.berth n).sens.last = (s.berth n).sens.heldAt ∧
        t.brd n BS_SCNT = s.brd n BS_SCNT + 1 ∧ t.brd n BS_VBUS = wd (s.berth n).sens.heldBus ∧
        (∀ p, t.bget n BS_SENSE 5 3 = 0 → t.brd n (0x110 + p.idx) =
          wd (sat18 (rnd16 ((raw.i.get p - s.bint n (BS_OFSIU + p.idx)) * s.bnat n (BS_GAINU + p.idx))))) ∧
        (∀ p, t.brd n (0x113 + p.idx) = if t.bflag n BS_SENSE (6 + p.idx) = true then 0
          else wd (sat18 (raw.v.get p - s.bint n (BS_OFSVU + p.idx)))) ∧
        (∀ p, raw.i.get p = 131071 ∨ raw.i.get p = -131072 → t.bflag n BS_EVT p.idx = true) ∧
        (∃ tk, (t.berth n).waiting = some tk ∧ tk.at_ = (s.berth n).sens.heldAt ∧ tk.target = (s.berth n).sens.target ∧
          tk.due = (s.berth n).sens.due ∧ tk.words = (List.range 9).map fun k => t.brd n (BS_IU + k))) ∧
    (∀ late : Channels, (s.berth n).sens.held = true → (∃ p, late.i.get p = true ∨ late.v.get p = true) →
      Does (.conversionTimeout n late raw) s fun t => (t.berth n).sens.held = false ∧
        (∀ p, late.i.get p = true → t.bflag n BS_SENSE (3 + p.idx) = true ∧
          (s.bflag n BS_SENSE (3 + p.idx) = false → t.bflag n BS_SENSE 2 = true ∧
            (s.outOfUse n = false → s.canRaise (0x80 + 8 * n.val + 4) = true → t.Raised (0x80 + 8 * n.val + 4)))) ∧
        ∀ p, late.v.get p = true → t.bflag n BS_SENSE (6 + p.idx) = true ∧ t.brd n (0x113 + p.idx) = 0 ∧
          (s.bflag n BS_SENSE (6 + p.idx) = false → t.bflag n BO_STAT 6 = true ∧
            (s.outOfUse n = false → s.canRaise (0x80 + 8 * n.val + 4) = true → t.Raised (0x80 + 8 * n.val + 4)))))

/-- Offset calibration (R228 to R230): it starts by a write of 1 to BS_CAL while EN is 0 and no switch is on; each channel's new
offset is the rounded mean of its 256 conversions; a channel that does not answer, or whose mean is beyond 2048, keeps its
offset and sets CALFAIL; the calibration flag and the stale mark clear. -/
def Obligations.OffsetCalibration : Prop := ∀ (s : State) (n : Berth),
  (s.awake = true → s.bflag n BP_CTL 0 = false → s.allOff n = true → Does (.bsCalRun n 1) s fun t =>
    t.bflag n BS_SENSE 13 = true ∧ (t.berth n).sens.held = false ∧
    s.Only t [(ba n BS_SENSE, 13, 13), (DD_BSTAT0 + n.val, 2, 0)] ∧ s.Within t [.berth n, .page 12] ∧
    (s.bst n = stDrydock → t.get (DD_BSTAT0 + n.val) 2 0 = 3)) ∧
  (s.bflag n BP_CTL 0 = true ∨ s.allOff n = false → exec (.bsCalRun n 1) s = .next s) ∧
  (∀ c : CalSums, s.bflag n BS_SENSE 13 = true → s.starting n = false → Does (.offsetCalDone n c) s fun t =>
    t.bget n BS_SENSE 14 13 = 0 ∧ s.Within t [.berth n, .coll, .page 12] ∧
    (∀ p, if c.iTimeout.get p || 2048 < ((c.i.get p + 128) / 256).natAbs then
        t.brd n (BS_OFSIU + p.idx) = s.brd n (BS_OFSIU + p.idx) ∧ t.bflag n BS_EVT 6 = true
      else t.brd n (BS_OFSIU + p.idx) = wd ((c.i.get p + 128) / 256)) ∧
    ∀ p, if c.vTimeout.get p || 2048 < ((c.v.get p + 128) / 256).natAbs then
        t.brd n (BS_OFSVU + p.idx) = s.brd n (BS_OFSVU + p.idx) ∧ t.bflag n BS_EVT 6 = true
      else t.brd n (BS_OFSVU + p.idx) = wd ((c.v.get p + 128) / 256)) ∧
  (s.bflag n BS_SENSE 13 = false → ∀ c, exec (.offsetCalDone n c) s = .next s)

/-- Engine arithmetic (R249): the square root is the exact root rounded down, rounding adds 0x8000 and shifts right by 16 with
saturation to signed 18 bits, saturation marks itself, and cosine and sine lie within 2 LSB of the nearest value. -/
def Obligations.EngineArithmetic : Prop :=
  (∀ k : Nat, k < 2 ^ 80 → isqrt k * isqrt k ≤ k ∧ k < (isqrt k + 1) * (isqrt k + 1)) ∧
  (∀ (y : Int) (f : Fx), (rndE y).run f =
    if -131072 ≤ (y + 0x8000) / 65536 ∧ (y + 0x8000) / 65536 ≤ 131071 then ((y + 0x8000) / 65536, f)
    else (if (y + 0x8000) / 65536 < 0 then -131072 else 131071, { f with sat := true })) ∧
  (∀ (a : Nat) (f : Fx), ∃ ec es : Int, -2 ≤ ec ∧ ec ≤ 2 ∧ -2 ≤ es ∧ es ≤ 2 ∧
    (sincosE a).run f = ((sat18 (toQ16 (cosAng a) + ec), sat18 (toQ16 (sinAng a) + es)), { f with k := f.k + 2 }))

/-- Taking a token (R243, R244, R248): the lowest free active lane takes the waiting token with the earliest target load point,
of two with the same one that of the lower berth, and holds the berth's parameters of that instant. A package (R243, R251,
R258, R259) is computed from the result set that its token carries: a token that ends before its target load point writes the compare shadows of its result in one transfer and the miss
count returns to 0; one that comes too late counts a miss and leaves the shadows; a token without a package does neither. The
lane is free in each case. -/
def Obligations.TokensAndPackages : Prop :=
  (∀ s : State,
    ((∃ l, s.lane l = 0 ∧ s.laneBerth l = none) → (∃ n, (s.berth n).waiting.isSome ∧ (s.berth n).running = none) →
      Does .laneTakeToken s fun t => ∃ (l : Fin 5) (n : Berth) (tk : Token),
        s.lane l = 0 ∧ s.laneBerth l = none ∧ (∀ k < l, s.lane k ≠ 0 ∨ s.laneBerth k ≠ none) ∧
        (s.berth n).waiting = some tk ∧ (s.berth n).running = none ∧
        (∀ m u, (s.berth m).waiting = some u → (s.berth m).running = none → tk.due ≤ u.due ∧ (tk.due = u.due → n ≤ m)) ∧
        t = s.modBerth n fun b => { b with waiting := none, running := some (tk, l, s.paramsOf n) }) ∧
    ((∀ l, s.lane l ≠ 0 ∨ s.laneBerth l ≠ none) → exec .laneTakeToken s = .next s)) ∧
  (∀ (s : State) (n : Berth) (tk : Token) (l : Fin 5) (par : List (Nat × Word)),
    (s.berth n).running = some (tk, l, par) →
    let o := ((tokenE (s.viewOf n tk.words par) n tk.at_).run { sat := false, k := s.free }).1
    Does (.package n) s fun t => (t.berth n).running = none ∧
      (∀ pk, o.pkg = some pk → tk.target ≠ 0 →
        t.brd n 2 = BitVec.ofNat 18 pk.on.u ∧ t.brd n 3 = BitVec.ofNat 18 pk.off.u ∧ t.brd n 4 = BitVec.ofNat 18 pk.on.v ∧
        t.brd n 5 = BitVec.ofNat 18 pk.off.v ∧ t.brd n 6 = BitVec.ofNat 18 pk.on.w ∧ t.brd n 7 = BitVec.ofNat 18 pk.off.w ∧
        t.bget n BF_STAT 7 6 = 0 ∧ (t.bflag n BP_CTL 0 = true → (t.berth n).sens.rp = pk.rp) ∧
        t.bnat n BL_LAT = min (since s.tide.now tk.at_) 0x3FFFF) ∧
      (∀ pk, o.pkg = some pk → tk.target = 0 → t.bflag n BF_EVT 1 = true ∧
        t.bnat n BF_MISSCNT = min (s.bnat n BF_MISSCNT + 1) 0x3FFFF ∧
        ∀ k, 2 ≤ k → k ≤ 7 → t.brd n k = s.brd n k) ∧
      (o.pkg = none → t.bnat n BF_MISSCNT = s.bnat n BF_MISSCNT ∧ ∀ k, 2 ≤ k → k ≤ 7 → t.brd n k = s.brd n k))

/-- Lane errors (R264, R265): a residue mismatch takes its lane to self-test at once, its token waits again with its target, the
lowest spare joins, and source 0x14 is raised; with two active lanes or fewer every running berth stops. A self-test that
passes makes the lane the spare, one that fails retires it. Storage errors (R264): a corrected one counts and raises source
0x15, in a lane it takes the lane to self-test after its token; an uncorrectable one in the parameter RAM drops the tokens of
the berth, or of all, a waiting one as a miss, and raises source 0x16 with a forced trip; in the configuration storage a corrected one raises 0x19, an uncorrectable
one 0x1A with a forced safe state of the device (R393). -/
def Obligations.LaneAndStorageErrors : Prop :=
  (∀ (s : State) (l : Fin 5),
    (∀ uncorr, s.lane l = 0 → Does (.residueMismatch l uncorr) s fun t =>
      t.lane l = 2 ∧ (uncorr = true → t.flag LE_EVT 2 = true) ∧ t.flag LE_EVT 0 = true ∧ (s.canRaise 0x14 = true → t.Raised 0x14) ∧
      (∀ k, k ≠ l → s.lane k = 1 → (∀ j, j ≠ l → j < k → s.lane j ≠ 1) → t.lane k = 0) ∧
      ((∀ k, k ≠ l → s.lane k ≠ 1) → t.flag LE_EVT 3 = true) ∧
      (∀ n tk par, s.laneBerth l = some n → (s.berth n).running = some (tk, l, par) → (s.berth n).waiting = none →
        (t.berth n).running = none ∧ (t.berth n).waiting = some tk) ∧
      (t.activeLanes ≤ 2 → ∀ n, t.bst n ≠ stRunning)) ∧
    (∀ uncorr, s.lane l ≠ 0 → s.laneBerth l = none → exec (.residueMismatch l uncorr) s = .next s) ∧
    (∀ uncorr n tk par, s.lane l ≠ 0 → s.laneBerth l = some n → (s.berth n).running = some (tk, l, par) →
      (s.berth n).waiting = none → Does (.residueMismatch l uncorr) s fun t =>
        (t.berth n).running = none ∧ (t.berth n).waiting = some tk ∧ t.lane l = s.lane l ∧
        (s.canRaise 0x14 = true → t.Raised 0x14)) ∧
    (s.lane l = 2 → s.dock.undock.getLsbD l.val = false →
      Does (.laneSelftestDone l true) s (fun t => t = { s with regs := t.regs } ∧ t.lane l = 1 ∧
        s.Only t [(LE_LANE, 3 * l.val + 2, 3 * l.val)]) ∧
      Does (.laneSelftestDone l false) s fun t => t = { s with regs := t.regs, coll := t.coll } ∧ t.lane l = 4 ∧
        ((∀ k, k ≠ l → s.lane k ≠ 1) → t.flag LE_EVT 3 = true ∧ (s.canRaise 0x17 = true → t.Raised 0x17)))) ∧
  (∀ s : State,
    (∀ l, Does (.storageErrorCorrected (.param l)) s fun t => t = { s with regs := t.regs, coll := t.coll } ∧
      (t.rd LE_ERRCNT).toNat = min ((s.rd LE_ERRCNT).toNat + 1) 0x3FFFF ∧ t.flag LE_EVT 1 = true ∧
      s.Only t [whole LE_ERRCNT, (LE_EVT, 1, 1)] ∧ (s.canRaise 0x15 = true → t.Raised 0x15)) ∧
    (∀ l, s.lane l = 0 → Does (.storageErrorCorrected (.lane l)) s fun t =>
      t.flag LE_EVT 1 = true ∧ (s.canRaise 0x15 = true → t.Raised 0x15) ∧ (s.laneBerth l = none → t.lane l = 2) ∧
      (s.laneBerth l ≠ none → t.lane l = 0 ∧ t.dock.swap.getLsbD l.val = true ∧ t.berths = s.berths)) ∧
    (∀ n l, Does (.uncorrectableParameterError (.berth n) l) s fun t =>
      (t.berth n).noToken = true ∧ (t.berth n).waiting = none ∧ t.flag LE_EVT 2 = true ∧
      ((s.berth n).waiting = none → s.Only t [(LE_EVT, 2, 2)]) ∧
      ((s.berth n).waiting ≠ none → t.bnat n BF_MISSCNT = min (s.bnat n BF_MISSCNT + 1) 0x3FFFF) ∧
      (∀ m, m ≠ n → t.berth m = s.berth m) ∧
      (s.canRaise 0x16 = true → ∃ e ∈ t.coll.raised, e.src = 0x16 ∧ 4 ≤ e.forced ∧ e.fscope &&& s.berthMask n = s.berthMask n)) ∧
    (∀ l, Does (.uncorrectableParameterError .engine l) s fun t => (∀ n, (t.berth n).noToken = true ∧ (t.berth n).waiting = none) ∧
      t.flag LE_EVT 2 = true ∧ (s.canRaise 0x16 = true → t.Raised 0x16)) ∧
    Does .configStorageCorrected s (fun t => t = { s with coll := t.coll } ∧ (s.canRaise 0x19 = true → t.Raised 0x19)) ∧
    Does .configStorageUncorrectable s fun t => t = { s with coll := t.coll } ∧
      (s.canRaise 0x1A = true → ∃ e ∈ t.coll.raised, e.src = 0x1A ∧ 6 ≤ e.forced ∧ e.fscope &&& s.allBerths = s.allBerths))

/-- The loss search's window, the return of DIV, and the ledger's clear (R259, R267 to R269): a settling window is followed by a
measured one; a measured one without output power ends the search; 4096 accepted packages in a row lower a raised DIV by 1;
BL_CLR clears every counter in one step. -/
def Obligations.SearchDivAndLedger : Prop := ∀ (s : State) (n : Berth),
  let ls := (s.berth n).loss
  (s.bnat n BF_LSWIN ≤ ls.win → ls.measure = false → Does (.lossSearchWindow n) s fun t =>
    t = s.modBerth n fun b => { b with loss := { ls with measure := true, win := 0, pin := 0, pout := 0 } }) ∧
  (s.bnat n BF_LSWIN ≤ ls.win → ls.measure = true → ls.pout ≤ 0 → Does (.lossSearchWindow n) s fun t =>
    t.bflag n BF_STAT 5 = false ∧ (t.berth n).ctl = (s.berth n).ctl ∧ (t.berth n).loss.steady = 0 ∧
    s.Only t [(ba n BF_STAT, 5, 5)] ∧ s.Within t [.berth n]) ∧
  (s.bnat n BF_LSWIN ≤ ls.win → ls.measure = true → 0 < ls.pout → (s.berth n).ctl.fwang ≤ 0 → ∀ pi po, ls.prev = some (pi, po) →
    Does (.lossSearchWindow n) s fun t =>
      let up := if pi * ls.pout < ls.pin * po then !ls.idUp else ls.idUp
      (t.berth n).loss.idUp = up ∧ (t.berth n).ctl.lsid =
        clampI ((s.berth n).ctl.lsid + if up then (s.bnat n BF_LSSTEP : Int) else -(s.bnat n BF_LSSTEP : Int)) (s.bint n BF_LSIDMIN) 0 ∧
      (t.berth n).ctl.lsang = (s.berth n).ctl.lsang ∧ t.regs = s.regs ∧ s.Within t [.berth n]) ∧
  (4096 ≤ (s.berth n).accRow → (s.berth n).divMf < s.bget n BS_CTL 5 3 → s.bflag n BF_CTL 7 = true → Does (.divRestore n) s fun t =>
    t.bget n BS_CTL 5 3 = s.bget n BS_CTL 5 3 - 1 ∧ (t.berth n).accRow = 0 ∧
    (t.berth n).pwm.divCnt = s.bget n BS_CTL 5 3 - 1 ∧
    t.bflag n BF_STAT 0 = decide ((s.berth n).divMf < s.bget n BS_CTL 5 3 - 1) ∧
    s.Only t [(ba n BS_CTL, 5, 3), (ba n BF_STAT, 0, 0)] ∧ s.Within t [.berth n]) ∧
  (s.awake = true → Does (.blClr n 1) s fun t => (∀ k < 10, t.brd n (BL_EIN0 + k) = 0) ∧
    s.Only t ((List.range 10).map fun k => whole (ba n (BL_EIN0 + k))) ∧ s.Within t [.berth n])

/-- The start program begins (R291, R305, R322): a STOPPED berth that nothing blocks and whose demand calls enters STARTING with
a calibration, a listen, a scan or a probe, in that order of preference; a berth that is blocked or not called stays. A
HOLDING positioner that must move, and that nothing blocks, starts without a listen. The end of a listen (R291, R293 to R295, R299): rotation in the
wanted direction is caught, by a sync into closed loop or, slow on an L-class berth, by open-loop acceleration; rotation the
other way is braked in bursts; no known rotation is short-braked; the listen of a give-up ends in a stop. -/
def Obligations.StartAndListen : Prop :=
  (∀ (s : State) (n : Berth),
    (s.bst n = stStopped → s.startAllowed n = true → s.demandCalls n = true → s.bflag n BP_CTL 0 = false →
      Does (.start n) s fun t => t.bst n = stStarting ∧ s.Within t [.berth n, .coll, .dock, .page 12] ∧
        (t.berth n).start.homing = (s.bflag n BD_CTL 17 && !s.bflag n BO_STAT 8) ∧
        (s.bflag n BD_CTL 17 = false → (t.berth n).start.fwd = decide (0 ≤ s.bint n BD_TGT) ∧
          t.bflag n BD_STAT 2 = decide (s.bint n BD_TGT < 0)) ∧
        (s.bflag n BS_CTL 9 = true → t.phase n = 1 ∧ t.bflag n BS_SENSE 13 = true) ∧
        (s.bflag n BS_CTL 9 = false → s.bflag n BO_CTL 2 = true → s.bflag n BO_STAT 6 = false →
          t.phase n = 2 ∧ (t.berth n).start.listening = true ∧ t.bflag n BP_CTL 0 = false) ∧
        (s.bflag n BS_CTL 9 = false → s.bflag n BO_CTL 2 = false ∨ s.bflag n BO_STAT 6 = true →
          (s.cicada n = true → t.phase n = 7 ∧ t.bflag n BP_CTL 0 = true) ∧
          (s.cicada n = false → t.phase n = 5 ∧ (t.berth n).start.probe = 0))) ∧
    (s.bst n = stStopped → s.startAllowed n = false ∨ s.demandCalls n = false → exec (.start n) s = .next s) ∧
    (s.bst n = stHolding → s.demandCalls n = true → s.startFree n = true → Does (.start n) s fun t =>
      (s.cicada n = true → t.bst n = stRunning) ∧ (s.cicada n = false → t.bst n = stStarting ∧ t.phase n = 9)) ∧
    (s.bst n = stHolding → s.demandCalls n = false ∨ s.startFree n = false → exec (.start n) s = .next s)) ∧
  (∀ (s : State) (n : Berth), (s.berth n).start.listening = true →
    let r := s.listenResult n
    let w := r.2.1
    let fwd := if (s.berth n).start.fwd then decide (0 < w) else decide (w < 0)
    let fast := r.1 && decide (WCATCH.natAbs ≤ w.natAbs)
    ((s.berth n).start.giveUp = false → s.bst n = stStarting → s.phase n = 2 → Does (.listenEnd n) s fun t =>
      t.brd n BO_CATCHW = wd w ∧ s.Within t [.berth n, .coll, .dock, .page 12] ∧
      (fast = false → t.phase n = 3 ∧ t.bget n BP_FORCE 6 0 = 0x6A ∧ t.bget n BO_PHASE 7 6 = 2) ∧
      (fast = true → fwd = false → t.phase n = 4 ∧ (t.berth n).start.listening = false ∧ t.bget n BO_PHASE 7 6 = 3) ∧
      (fast = true → fwd = true → isH n = false → w.natAbs < WOBS.natAbs → t.phase n = 9 ∧ (t.berth n).start.wol = w) ∧
      (fast = true → fwd = true → (isH n = true ∨ WOBS.natAbs ≤ w.natAbs) → (s.berth n).start.homing = false →
        t.bst n = stRunning ∧ t.bflag n BP_CTL 0 = true ∧ (t.berth n).start.closed = true)) ∧
    ((s.berth n).start.giveUp = false → s.bst n = stStarting → s.phase n = 4 → Does (.listenEnd n) s fun t =>
      t.phase n = (if fast = true ∧ fwd = false then 4 else 3) ∧ (t.berth n).start.listening = false) ∧
    ((s.berth n).start.giveUp = false → s.bst n = stRecatch → s.phase n = 11 → fast = true → fwd = true → isH n = true →
      (s.berth n).start.homing = false → Does (.listenEnd n) s fun t => t.bst n = stRunning ∧ t.bflag n BO_EVT 4 = true) ∧
    ((s.berth n).start.giveUp = true → Does (.listenEnd n) s fun t =>
      t.bst n = (if r.1 = true ∧ fwd = true ∧ (WOBS.natAbs ≤ w.natAbs ∨ s.cicada n = true) then stStopping else stStopped)))

/-- Brakes and the cicada scan (R281, R282, R295, R296): a burst is followed by a listen; the short brake leaves LASTW 0 and the
rotor at rest; a scan with too little saliency falls back to the probe for good, a clear one goes to the polarity test, whose
result closes the loop or falls back. The click probe, alignment and hand-off (R284 to R289): a pulse is followed by its
decay; a missed peak repeats the pulse once; the peaks run through the twelve pulses; alignment ends in open-loop
acceleration, and the hand-off in closed loop. -/
def Obligations.StartPhases : Prop :=
  (∀ (s : State) (n : Berth), s.starting n = true →
    let q := (s.berth n).start
    let mag : Nat := if q.scanN = 0 then 0 else isqrt (q.accA * q.accA + q.accB * q.accB).toNat / q.scanN
    (s.phase n = 4 → q.listening = false → Does (.reverseBrakeBurst n) s fun t =>
      t.phase n = 4 ∧ (t.berth n).start.listening = true ∧ t.bflag n BP_FORCE 6 = false ∧
      s.Within t [.berth n, .coll, .dock, .page 12]) ∧
    (s.phase n = 3 → Does (.shortBrakeEnd n) s fun t => t.brd n BO_LASTW = 0 ∧
      t.phase n = (if s.cicada n = true then 7 else 5) ∧ s.Within t [.berth n, .coll, .dock, .page 12]) ∧
    (s.phase n = 7 → mag < s.bnat n BO_CICMIN → Does (.cicadaScanEnd n) s fun t =>
      t.bflag n BO_STAT 7 = true ∧ t.phase n = 5 ∧ s.Within t [.berth n, .coll, .dock, .page 12]) ∧
    (s.phase n = 7 → s.bnat n BO_CICMIN ≤ mag → Does (.cicadaScanEnd n) s fun t =>
      t.phase n = 8 ∧ (t.berth n).start.polNeg = false ∧ (t.berth n).ctl.omega = 0 ∧ s.Within t [.berth n, .free]) ∧
    (s.phase n = 8 → q.polNeg = false → Does (.cicadaScanEnd n) s fun t =>
      t = s.modStart n fun q => { q with accA := 0, accB := 0, scanN := 0, polNeg := true, polP := mag }) ∧
    (s.phase n = 8 → q.polNeg = true → 32 * ((q.polP : Int) - mag).natAbs < q.polP + mag → Does (.cicadaScanEnd n) s fun t =>
      t.bflag n BO_EVT 1 = true ∧ t.phase n = 5) ∧
    (s.phase n = 8 → q.polNeg = true → q.polP + mag ≤ 32 * ((q.polP : Int) - mag).natAbs → q.homing = false →
      s.bst n = stStarting → Does (.cicadaScanEnd n) s fun t => t.bst n = stRunning)) ∧
  (∀ (s : State) (n : Berth), s.starting n = true → (s.berth n).start.homeHold = true → Does (.clickPulse n) s fun t =>
    t.phase n = 5 ∧ (t.berth n).start.probe = 0 ∧ (t.berth n).start.homeHold = false ∧
    s.Within t [.berth n, .coll, .dock, .page 12]) ∧
  (∀ (s : State) (n : Berth), s.starting n = true → (s.berth n).start.homeHold = false →
    let q := (s.berth n).start
    (s.phase n = 5 → q.decay = false → Does (.clickPulse n) s fun t =>
      (t.berth n).start.decay = true ∧ t.bget n BP_FORCE 6 0 = 0x7F ∧ s.Within t [.berth n, .coll, .dock, .page 12]) ∧
    (s.phase n = 5 → q.decay = true → q.peak = none → q.misses = 0 → Does (.clickPulse n) s fun t =>
      (t.berth n).start.misses = 1 ∧ (t.berth n).start.probe = q.probe ∧ (t.berth n).start.decay = false) ∧
    (∀ pk, s.phase n = 5 → q.decay = true → q.peak = some pk → pk ≤ s.bnat n BF_ILIM → q.probe < 11 →
      Does (.clickPulse n) s fun t => (t.berth n).start.probe = q.probe + 1 ∧ (t.berth n).start.decay = false ∧
        (t.berth n).start.peaks = q.peaks ++
          [if (probeRow q.probe).2.2.2 % 60 = 30 then (sat18 (rnd16 (pk * 0x1279B))).toNat else pk] ∧
        s.Within t [.berth n, .coll, .dock, .page 12]) ∧
    (∀ pk, s.phase n = 5 → q.decay = true → q.peak = some pk → s.bnat n BF_ILIM < pk → q.cuts = 0 →
      Does (.clickPulse n) s fun t => t.bflag n BO_EVT 0 = true ∧ (t.berth n).start.probe = 0 ∧ (t.berth n).start.cuts = 1 ∧
        (t.berth n).start.clkw = max 400 (q.clkw / 2)) ∧
    (s.phase n = 6 → q.homeEnd = false → Does (.alignmentEnd n) s fun t =>
      t.bflag n BO_STAT 0 = true ∧ (t.berth n).ctl.theta = 0 ∧ t.phase n = 9 ∧ (t.berth n).start.wol = 0 ∧
      s.Within t [.berth n, .coll, .dock, .page 12]) ∧
    (s.phase n = 9 → THAND ≤ (s.berth n).ctl.agree → q.homing = false → s.bst n = stStarting → Does (.handOff n) s fun t =>
      t.bst n = stRunning ∧ t.phase n = 0 ∧ (t.berth n).start.closed = true ∧ s.Within t [.berth n, .free]) ∧
    (s.phase n = 9 → (s.berth n).ctl.agree < THAND → exec (.handOff n) s = .next s))

/-- Failed starts (R292, R304): each stops the berth, raises source 0x80 + 8n + 7 and waits 1 s; the third in a row locks the
berth until RESTART; the retry starts a berth again only if nothing blocks it and its demand calls. Lost rotor and orderly
stop (R298 to R301, R542): a RUNNING berth re-catches, or gives up after three attempts within 1 s; a stopping one has
stopped. A stop that is complete, or times out, ends in STOPPED or DRYDOCK with EN 0, and with the last one begins the thermal
stop of tender 0 that waited for the berths (R356). -/
def Obligations.FailuresAndStops : Prop :=
  (∀ (s : State) (n : Berth),
    (∀ (why : StartFailure) (c : Instr), c = .startFail n why ∧ s.bst n = stStarting ∧ failPhase why s n = true ∨
        c = .homingTimeout n ∧ s.bst n = stStarting ∧ (s.berth n).start.homing = true →
      Does c s fun t => t.bst n = stStopped ∧ t.bflag n BP_CTL 0 = false ∧ t.bflag n BO_EVT 6 = true ∧
        (t.berth n).start.fails = (s.berth n).start.fails + 1 ∧ (t.berth n).start.wait = true ∧
        (2 ≤ (s.berth n).start.fails → t.bflag n BO_STAT 9 = true) ∧ s.Within t [.berth n, .coll, .dock, .page 12] ∧
        (s.canRaise (0x80 + 8 * n.val + 7) = true → t.Raised (0x80 + 8 * n.val + 7))) ∧
    ((s.berth n).start.wait = false → exec (.startRetry n) s = .next s) ∧
    ((s.berth n).start.wait = true → s.bst n ≠ stStopped → Does (.startRetry n) s fun t =>
      t = s.modStart n fun q => { q with wait := false }) ∧
    ((s.berth n).start.wait = true → s.bst n = stStopped →
      (s.modStart n fun q => { q with wait := false }).startAllowed n = true → s.demandCalls n = true →
      Does (.startRetry n) s fun t => t.bst n = stStarting ∧ (t.berth n).start.wait = false) ∧
    (s.awake = true → Does (.restart n 2) s fun t => t.bflag n BO_STAT 9 = false ∧ (t.berth n).start.fails = 0 ∧
      s.Only t [(ba n BO_STAT, 9, 9)] ∧ s.Within t [.berth n])) ∧
  (∀ (s : State) (n : Berth),
    let q := (s.berth n).start
    let recent := q.times.filter fun t => since s.tide.now t ≤ oneSecond
    (q.homing = false → LOSTT ≤ (s.berth n).ctl.bad → s.bst n = stRunning → s.bflag n BO_CTL 3 = true →
      s.bflag n BO_STAT 6 = false → recent.length ≠ 3 → Does (.rotorLost n) s fun t =>
        t.bst n = stRecatch ∧ t.phase n = 11 ∧ (t.berth n).start.listening = true ∧ t.bflag n BO_EVT 3 = true ∧
        (t.berth n).start.times = s.tide.now :: recent ∧ s.Within t [.berth n, .coll, .dock, .page 12]) ∧
    (q.homing = false → LOSTT ≤ (s.berth n).ctl.bad → s.bst n = stRunning → s.bflag n BO_STAT 6 = true → Does (.rotorLost n) s fun t =>
      t.bst n = stStopped ∧ t.bflag n BP_CTL 0 = false ∧ t.bflag n BO_STAT 8 = false ∧
      (s.canRaise (0x80 + 8 * n.val + 5) = true → t.Raised (0x80 + 8 * n.val + 5))) ∧
    (q.homing = false → LOSTT ≤ (s.berth n).ctl.bad → s.bst n = stStopping → Does (.rotorLost n) s fun t => t.bst n = stStopped) ∧
    (s.bst n = stStopping → Does (.stopComplete n true) s fun t => t.bst n = stStopped ∧ t.bflag n BP_CTL 0 = false ∧
      t.bflag n BO_EVT 8 = true ∧ s.Within t [.berth n, .coll, .dock, .page 12, .therm, .tender 0]) ∧
    (s.bst n = stStopping → s.therm.waitStop = true → (∀ m, m ≠ n → s.bst m = stStopped ∨ s.bst m = stSafe ∨ s.outOfUse m = true) →
      s.tdState 0 = tdRegulating → s.tflag 0 TD_STAT 8 = false → Does (.stopComplete n true) s fun t =>
        t.bst n = stStopped ∧ t.therm.waitStop = false ∧ t.tdState 0 = tdStopDelay) ∧
    (s.bst n = stStopping → s.floored n = true → s.bint n BO_OMEGA = 0 → Does (.stopComplete n false) s fun t =>
      t.bst n = stStopped ∧ t.bflag n BP_CTL 0 = false) ∧
    (s.bst n = stStopping → s.floored n = false → q.stopRef ≠ 0 → exec (.stopComplete n false) s = .next s) ∧
    (s.bst n = stUnmooring → Does (.stopComplete n true) s fun t => t.bst n = stDrydock ∧ (t.berth n).dockEntry = true))

/-- The positioner (R304, R306): HOME starts homing on a positioner that nothing blocks; its end stop puts every phase at code 3, for the 5 ms
before the probe; a slip
in HOLDING stops the berth, clears HOMED and raises source 0x80 + 8n + 7. -/
def Obligations.Positioner : Prop := ∀ (s : State) (n : Berth),
  (s.awake = true → s.bflag n BD_CTL 17 = true → s.bst n = stStopped → s.bflag n BP_CTL 0 = false → s.startFree n = true →
    Does (.home n 1) s fun t => t.bst n = stStarting ∧ (t.berth n).start.homing = true ∧
      (t.berth n).start.homeAt = s.tide.now ∧ (t.berth n).start.fwd = s.bflag n BO_CTL 6) ∧
  (s.bflag n BD_CTL 17 = false → exec (.home n 1) s = .next s) ∧
  ((s.berth n).start.homing = true → (s.berth n).start.homeEnd = false → s.bst n = stRunning →
    TLISTEN ≤ (s.berth n).ctl.slow → Does (.homingEndStop n) s fun t =>
      (t.berth n).start.homeEnd = true ∧ (t.berth n).start.homeHold = true ∧ t.phase n = 10 ∧
      t.bget n BP_FORCE 6 0 = 0x7F ∧ t.bst n = stStarting ∧ s.Within t [.berth n, .coll, .dock, .page 12]) ∧
  (s.bst n = stHolding → 20000 ≤ (s.berth n).ctl.slip → Does (.slip n) s fun t =>
    t.bst n = stStopped ∧ t.bflag n BO_EVT 7 = true ∧ t.bflag n BO_STAT 8 = false ∧ t.bflag n BP_CTL 0 = false ∧
    s.Within t [.berth n, .coll, .dock, .page 12] ∧
    (s.canRaise (0x80 + 8 * n.val + 7) = true → t.Raised (0x80 + 8 * n.val + 7))) ∧
  (s.bst n = stHolding → (s.berth n).ctl.slip < 20000 → exec (.slip n) s = .next s)

/-- The demand pins (R314, R316, R317): with SRC 0 an inactive edge ends the active time; an active edge after a period within
its limits delivers the active share of it, one outside them is BADPER and delivers nothing; with SRC 1 the conversions of
the millisecond are kept, latest first; with another source an edge changes only the level seen. Writes to the demand
registers (R313, R315, R318, R326, R331): BD_HDEM delivers its value when the source is the host, and waits for service
before; a BD_CTL write that changes the source, its sense or its channel starts the loss time again and ends a loss, and the
source in effect stays until the next evaluation; APPLY copies the edit curve into the active one in one step. -/
def Obligations.DemandSources : Prop :=
  (∀ (s : State) (n : Berth) (level : Bool) (tick : Fin 256),
    s.inService = true → s.outOfUse n = false →
    let q := (s.berth n).dem
    let now := s.tick + tick.val
    (s.demSrc n ≠ 0 → Does (.dmdEdge n level tick) s fun t => t = s.modDem n fun q => { q with level := level }) ∧
    (s.demSrc n = 0 → level = s.demInv n → ∀ a, q.actAt = some a → Does (.dmdEdge n level tick) s fun t =>
      t = s.modDem n fun q => { q with level := level, edges := q.edges + 1, actLen := some (now - a) }) ∧
    (s.demSrc n = 0 → level ≠ s.demInv n → ∀ a k, q.actAt = some a → q.actLen = some k →
      (s.bnat n BD_PMIN * 5120 ≤ now - a → now - a ≤ s.bnat n BD_PMAX * 5120 → Does (.dmdEdge n level tick) s fun t =>
        (t.berth n).dem.vals = (min (rdiv ((k * 65536 : Nat) : Int) ((now - a : Nat) : Int)).toNat 0x10000 :: q.vals).take 8 ∧
        (t.berth n).dem.lossMs = 0 ∧ (t.berth n).dem.actAt = some now ∧
        t.bnat n BD_DMDPER = min ((now - a) / 5120) 0x3FFFF ∧ s.Only t [whole (ba n BD_DMDPER)] ∧ s.Within t [.berth n]) ∧
      (now - a < s.bnat n BD_PMIN * 5120 ∨ s.bnat n BD_PMAX * 5120 < now - a → Does (.dmdEdge n level tick) s fun t =>
        (t.berth n).dem.vals = q.vals ∧ t.bflag n BD_EVT 2 = true ∧ (t.berth n).dem.actAt = some now ∧
        s.Only t [whole (ba n BD_DMDPER), (ba n BD_EVT, 2, 2)] ∧ s.Within t [.berth n])) ∧
    (∀ mv, s.demSrc n = 1 → Does (.dmdConversion n mv) s fun t =>
      t = s.modDem n fun q => { q with adc := (mv :: q.adc).take 8 }) ∧
    (∀ mv, s.demSrc n ≠ 1 → exec (.dmdConversion n mv) s = .next s)) ∧
  (∀ (s : State) (n : Berth) (v : Word), s.awake = true →
    (s.writeFails .host [(ba n BD_HDEM, v)] = none → Does (.bdHdem n v) s fun t =>
      t.bget n BD_HDEM 16 0 = bits v 16 0 ∧ s.Only t [whole (ba n BD_HDEM)] ∧ s.Within t [.berth n] ∧
      (s.inService = true → s.demSrc n = 2 → (t.berth n).dem.vals = (min (bits v 16 0) 0x10000 :: (s.berth n).dem.vals).take 8 ∧
        (t.berth n).dem.lossMs = 0) ∧
      (s.inService = true → s.demSrc n ≠ 2 → s.bget n BD_CTL 1 0 ≠ 2 → t.berth n = s.berth n) ∧
      (s.inService = false ∨ s.demSrc n ≠ 2 ∧ s.bget n BD_CTL 1 0 = 2 → (t.berth n).dem.hostPend = true)) ∧
    (s.writeFails .host [(ba n BD_CTL, v)] = none → Does (.demandSourceWrite n v) s fun t =>
      t.bget n BD_CTL 1 0 = bits v 1 0 ∧ t.bflag n BD_CTL 4 = v.getLsbD 4 ∧ s.Within t [.berth n] ∧
      s.Only t [whole (ba n BD_CTL), (ba n BD_STAT, 0, 0)] ∧
      (s.bget n BD_CTL 1 0 ≠ bits v 1 0 ∨ s.bflag n BD_CTL 4 ≠ v.getLsbD 4 →
        (t.berth n).dem.old = some (s.demCtl n) ∧ t.demSrc n = s.demSrc n ∧ t.demInv n = s.demInv n ∧
        (t.berth n).dem.lossMs = 0 ∧ (t.berth n).dem.fresh = true ∧ t.bflag n BD_STAT 0 = false) ∧
      (s.bget n BD_CTL 1 0 = bits v 1 0 → s.bget n BD_CTL 5 4 = bits v 5 4 → s.bget n BD_CTL 16 11 = bits v 16 11 →
        t.berth n = s.berth n)) ∧
    (v.getLsbD 17 = true → s.writeFails .host [(ba n BD_CCTL, v)] = none → Does (.apply n v) s fun t =>
      (∀ k < 32, t.brd n (BD_CXA0 + k) = s.brd n (BD_CX0 + k)) ∧ t.bget n BD_CCTLA 4 0 = bits v 4 0 ∧
      t.bget n BD_CCTLA 5 5 = bits v 5 5 ∧ t.bflag n BD_CCTLA 6 = s.nonMono n (bits v 4 0) ∧ s.Within t [.berth n]))

/-- A demand evaluation (R311, R318 to R322, R327 to R329, R331): a source that was written comes into effect, with its average
empty; the source's value becomes the demand; above ON the berth is
asked to run, below OFF a running one stops; the target is the curve of the demand, and the speed reference of a running
berth moves towards it by no more than its ramp; a change of direction stops the berth first; a demand that has been silent
for BD_LOSST falls back and raises source 0x80 + 8n + 7; in drydock the speed reference stands. -/
def Obligations.DemandEvaluation : Prop := (∀ (s : State) (n : Berth) (o : Word),
  s.inService = true → s.outOfUse n = false → (s.berth n).dem.old = some o → bits o 1 0 ≠ s.bget n BD_CTL 1 0 →
  Does (.demandEvaluation n) s fun t => t.demSrc n = s.bget n BD_CTL 1 0 ∧ (t.berth n).dem.old = none ∧
    ((s.berth n).dem.hostPend = false → s.bget n BD_CTL 1 0 = 2 → (t.berth n).dem.vals = []) ∧
    ((s.berth n).dem.hostPend = true → (t.berth n).dem.hostPend = false)) ∧
  ∀ (s : State) (n : Berth),
  s.inService = true → s.outOfUse n = false → s.demSrc n = 2 → (s.berth n).dem.hostPend = false → s.bflag n BD_STAT 0 = false →
  (s.berth n).dem.old = none →
  let q := (s.berth n).dem
  (∀ a r, q.vals = a :: r → a ≤ 0x10000 → q.fresh = true → 0 < s.bnat n BD_LOSST → Does (.demandEvaluation n) s fun t =>
    let y := s.targetClamp n (s.curve n a)
    t.bnat n BD_CAP = a ∧ t.bget n BD_DEM 16 0 = a ∧ t.brd n BD_TGT = wd y ∧ t.bflag n BD_STAT 0 = false ∧
    (s.bget n BD_ON 16 0 ≤ a → t.bflag n BD_STAT 1 = true) ∧
    (a < s.bget n BD_ON 16 0 → a < s.bget n BD_OFF 16 0 → t.bflag n BD_STAT 1 = false ∧
      (s.bst n = stRunning → t.bst n = stStopping)) ∧
    (s.bget n BD_ON 16 0 ≤ a → s.bst n = stRunning → s.bflag n BD_CTL 17 = false →
      let w := s.bint n BD_WREF
      let k : Int := (((if w.natAbs < y.natAbs then s.bnat n BD_ACC else s.bnat n BD_DEC) * 64 + q.rem) / 1000 : Nat)
      (y = 0 ∨ decide (y < 0) = s.bflag n BD_STAT 2 →
        t.bint n BD_WREF = (if w < y then min y (w + k) else max y (w - k)) ∧ t.bst n = stRunning) ∧
      (y ≠ 0 → decide (y < 0) ≠ s.bflag n BD_STAT 2 →
        t.bflag n BD_STAT 3 = true ∧ t.bflag n BD_EVT 4 = true ∧ t.bst n = stStopping)) ∧
    (s.bst n = stDrydock → t.brd n BD_WREF = s.brd n BD_WREF)) ∧
  (q.fresh = false → 0 < s.bnat n BD_LOSST → s.bnat n BD_LOSST ≤ q.lossMs + 1 → Does (.demandEvaluation n) s fun t =>
    t.bflag n BD_STAT 0 = true ∧ t.bflag n BD_EVT 0 = true ∧ t.bget n BD_DEM 16 0 = s.bget n BD_FALLBK 16 0 ∧
    (s.canRaise (0x80 + 8 * n.val + 7) = true → t.Raised (0x80 + 8 * n.val + 7)))

/-- The curve (R324, R325): absent, the target is the demand; without points it is 0; below the first point it is the first
value; with rising X it passes through every point, and from the last on it is the last value. -/
def Obligations.CurvePassesThroughPoints : Prop := ∀ (s : State) (n : Berth) (d : Nat),
  let np := s.bget n BD_CCTLA 4 0
  (s.bflag n BD_CCTLA 5 = false → s.curve n d = d) ∧
  (s.bflag n BD_CCTLA 5 = true → np = 0 → s.curve n d = 0) ∧
  (s.bflag n BD_CCTLA 5 = true → 0 < np → d < s.bnat n BD_CXA0 → s.curve n d = s.bint n BD_CYA0) ∧
  (s.bflag n BD_CCTLA 5 = true → (∀ i, i + 1 < np → s.bnat n (BD_CXA0 + i) < s.bnat n (BD_CXA0 + i + 1)) →
    (∀ i < np, s.curve n (s.bnat n (BD_CXA0 + i)) = s.bint n (BD_CYA0 + i)) ∧
    (0 < np → s.bnat n (BD_CXA0 + (np - 1)) ≤ d → s.curve n d = s.bint n (BD_CYA0 + (np - 1))))

/-- Rounds (R337 to R339, R344): TH_CONV starts a round of the sensors that can be converted and their neighbours, or adds to the
next one while a round runs; a round's die reading waits for the update; an NTC voltage outside its range excludes its sensor
and raises 0x36; TH_READMIT readmits without asking for a round. A model update (R334, R349): each node's first stage moves
by the ladder's change, rounded to one of its two neighbours, where the sum lies in the format of R13; a node is in stop exactly from its STOP level on, in warn from
WARN down to WARN less the hysteresis; the collected power starts again. Before the model has started nothing happens. -/
def Obligations.ThermalRoundsAndModel : Prop :=
  (∀ s : State,
    (∀ v : Word, s.awake = true → s.therm.started = true → s.therm.run = 0 → Does (.thConv v) s fun t =>
      t = { s with therm := t.therm } ∧ t.therm.nodes = s.therm.nodes ∧
      (∀ k < 10, v.getLsbD k = true → s.sensorOk k = true → t.therm.run.getLsbD k = true) ∧
      (∀ k < 10, t.therm.run.getLsbD k = true → s.sensorOk k = true)) ∧
    (∀ v : Word, s.awake = true → s.therm.started = true → s.therm.run ≠ 0 → Does (.thConv v) s fun t =>
      t = { s with therm := { s.therm with req := s.therm.req ||| (BitVec.ofNat 10 (bits v 9 0) &&& ~~~s.therm.run) } }) ∧
    (∀ v : Word, s.therm.started = false → exec (.thConv v) s = .next s) ∧
    (s.therm.run = 0 → ∀ rs, exec (.roundComplete rs) s = .next s) ∧
    (∀ (k : Fin 10) (c : Int), s.therm.run.getLsbD k.val = true → s.sensorOk k.val = true → k.val < 6 → s.therm.req = 0 →
      Does (.roundComplete [(k, .die c)]) s fun t => t.therm.run = 0 ∧
        (∃ u ∈ t.therm.used, u.k = k.val ∧ u.code = clampI c (-131072) 131071) ∧
        t.therm.done = s.therm.done ||| s.therm.run ∧ t.regs = s.regs ∧ s.Within t [.therm, .free]) ∧
    (∀ (k : Fin 10) (v van : Nat), s.therm.run.getLsbD k.val = true → s.sensorOk k.val = true → 6 ≤ k.val → s.therm.req = 0 →
      98 * van < 100 * v ∨ 100 * v < 2 * van → Does (.roundComplete [(k, .ntc v van)]) s fun t =>
        t.flag TH_BROKEN k.val = true ∧ t.flag TH_EVT 1 = true ∧ (∀ u ∈ t.therm.used, u.k ≠ k.val) ∧
        s.Only t [(TH_BROKEN, k.val, k.val), (TH_EVT, 1, 1), whole (TH_SUNC0 + k.val)] ∧ (s.canRaise 0x36 = true → t.Raised 0x36)) ∧
    (∀ v : Word, s.awake = true → Does (.thReadmit v) s fun t =>
      (∀ k < 10, t.flag TH_BROKEN k = (s.flag TH_BROKEN k && !v.getLsbD k)) ∧
      (∀ k < 10, s.flag TH_BROKEN k = true → v.getLsbD k = true → t.therm.join.getLsbD k = true) ∧
      t.therm.run = s.therm.run ∧ t.therm.req = s.therm.req ∧ s.Only t [(TH_BROKEN, 9, 0)] ∧ s.Within t [.page 8, .therm])) ∧
  (∀ s : State, s.awake = true →
    (s.therm.started = false → exec .modelUpdate s = .next s) ∧
    (s.therm.started = true → s.therm.first = false → s.therm.used = [] → Does .modelUpdate s fun t =>
      (∀ j < 85, let d := (s.nodeStep j (s.nodePower j)).1
        (-131072 ≤ (s.node j).t1 + d.1 / d.2 → (s.node j).t1 + d.1 / d.2 + 1 ≤ 131071 →
          (t.node j).t1 - (s.node j).t1 = d.1 / d.2 ∨ (t.node j).t1 - (s.node j).t1 = d.1 / d.2 + 1) ∧
        (t.node j).p = s.nodePower j ∧
        (t.node j).stop = decide (s.level j 2 ≤ (t.node j).t1) ∧
        (t.node j).warn = (decide (s.level j 0 ≤ (t.node j).t1) ||
          ((s.node j).warn && decide (s.level j 0 - s.thHyst ≤ (t.node j).t1)))) ∧
      t.therm.acc = List.replicate 78 (0, 0) ∧ t.therm.used = []))

/-- Levels act (R351, R352, R354): an update changes the throttling step of a unit by at most one; a unit of which a node enters
stop is marked and raises 0x33, and the berth of that unit does not go on running. Comparators, region skew, the tender's
waiting stop (R27, R28, R356, R357): a junction comparator raises 0x30 with a forced safe state of the device, once; a region
pair beyond its limit is latched and raises 0x11, its return clears the present bit alone; at the end of the window the
tender that supplies VGD stops. -/
def Obligations.ThermalStopsAndComparators : Prop :=
  (∀ s : State, s.awake = true → s.therm.started = true →
    Does .modelUpdate s fun t =>
      (∀ u < 15, t.thStep u ≤ s.thStep u + 1 ∧ s.thStep u ≤ t.thStep u + 1) ∧
      (∀ n : Berth, s.outOfUse n = false →
        (∃ j ∈ unitNodes n.val, (t.node j).stop = true ∧ (s.node j).stop = false) →
          t.flag TH_STOPM n.val = true ∧ (s.canRaise 0x33 = true → t.Raised 0x33) ∧ t.bst n ≠ stRunning)) ∧
  (∀ s : State,
    (∀ site : Fin 6, s.awake = true → s.therm.comps.getLsbD site.val = false → Does (.junctionComparator site) s fun t =>
      t.therm = { s.therm with comps := s.therm.comps ||| (1#6 <<< site.val) } ∧ t.flag TH_EVT 7 = true ∧
      s.Only t [(TH_EVT, 7, 7)] ∧ s.Within t [.therm, .coll, .page 8] ∧
      (s.canRaise 0x30 = true → ∃ e ∈ t.coll.raised, e.src = 0x30 ∧ 6 ≤ e.forced)) ∧
    (∀ site : Fin 6, s.therm.comps.getLsbD site.val = true → exec (.junctionComparator site) s = .next s) ∧
    (∀ site : Fin 6, Does (.junctionComparatorRelease site) s fun t =>
      t = { s with therm := { s.therm with comps := s.therm.comps &&& ~~~(1#6 <<< site.val) } } ∧
      t.therm.comps.getLsbD site.val = false) ∧
    (∀ pair : Fin 10, s.awake = true →
      (s.flag GLB_SKEWNOW pair.val = false → Does (.regionSkew pair true) s fun t => t = { s with regs := t.regs, coll := t.coll } ∧
        t.flag GLB_SKEWNOW pair.val = true ∧ t.flag GLB_SKEW pair.val = true ∧
        s.Only t [(GLB_SKEWNOW, pair.val, pair.val), (GLB_SKEW, pair.val, pair.val)] ∧ (s.canRaise 0x11 = true → t.Raised 0x11)) ∧
      Does (.regionSkew pair false) s fun t => t = { s with regs := t.regs } ∧ t.flag GLB_SKEWNOW pair.val = false ∧
        s.Only t [(GLB_SKEWNOW, pair.val, pair.val)]) ∧
    (s.therm.waitStop = true → s.tflag 0 TD_STAT 8 = false → s.tdState 0 = tdRegulating → Does (.thermalStopWindowEnd 0) s fun t =>
      t.therm.waitStop = false ∧ t.tdState 0 = tdStopDelay ∧ s.Within t [.therm, .tender 0, .page 12]) ∧
    (s.therm.waitStop = false → ∀ u, exec (.thermalStopWindowEnd u) s = .next s))

/-- The edges of a tender's period (R198, R363, R364, R366, R371, R373): at its start the on-times move up and the high side
turns on where the tender regulates, the strip is supplied, nothing holds it and the bootstrap allows it; the low side's
window opens where it fits; a sense voltage at or below TD_ZC, or above the current limit after its blanking, cuts the
present conduction, and no other does; periods begin at the boundaries of the offset and period in force, and written timing
takes effect at its first boundary 100 ns after the write. A tender's sample (R367 to R370, R385): the error code is the windowed difference from the reference, rounded
to one of its two neighbours and clamped; the duty is that of the compensator, and gives the on-time of the period after
next; an output above 110 % of VREF holds the high side off (R381); a late result repeats the next period's; a tender that does not regulate records and no more. -/
def Obligations.TenderEdgesAndSample : Prop :=
  (∀ (s : State) (u : Tender), s.tdHere u = true →
    let x := s.tender u
    (∀ ok, Does (.tenderEdge u .periodStart ok) s fun t =>
      (t.tender u).cur = x.next1 ∧ (t.tender u).next1 = x.next2 ∧ (t.tender u).lo = false ∧ (t.tender u).ilk = x.ilkBusy ∧
      (t.tender u).zc = false ∧ s.Within t [.tender u] ∧
      (x.due = none → 0 < x.per → (t.tender u).at0 % x.per = x.ofs % x.per ∧ s.tick ≤ (t.tender u).at0 ∧ x.at0 < (t.tender u).at0) ∧
      (s.tdActive u = true → s.stripUv = false → x.ilkBusy = false → x.next1 ≠ 0 → x.ov = false →
        (ok = true → (t.tender u).hi = true ∧ (t.tender u).hiT = x.next1) ∧
        (ok = false → (t.tender u).hi = false ∧ t.tflag u TD_EVT 6 = true)) ∧
      (s.tdActive u = false ∨ s.stripUv = true ∨ x.ilkBusy = true ∨ x.next1 = 0 ∨ x.ov = true → (t.tender u).hi = false)) ∧
    (∀ ok, Does (.tenderEdge u .highOff ok) s fun t => t = s.modTender u fun x => { x with hi := false }) ∧
    (∀ ok, Does (.tenderEdge u .lowOff ok) s fun t => t = s.modTender u fun x => { x with lo := false }) ∧
    (∀ ok, Does (.tenderEdge u .lowOn ok) s fun t => s.Within t [.tender u] ∧ (t.tender u).hi = x.hi ∧
      s.Only t [(ta u TD_EVT, 7, 7)] ∧
      (s.tdGates u = true → x.hi = false → x.zc = false →
        x.cur + (s.tdDead u).1 + (s.tdDead u).2 + s.tget u TD_MINON 10 0 ≤ x.per → (t.tender u).lo = true)) ∧
    Does (.tenderTimingChange u) s (fun t => t = s.modTender u fun x =>
      { x with per := s.tget u TD_PERIOD 14 0, ofs := s.tget u TD_OFS 14 0,
               due := some (alignedFrom (max s.tick (x.timAt + 512)) (s.tget u TD_PERIOD 14 0) (s.tget u TD_OFS 14 0)) }) ∧
    (∀ (sense : Int) (ticks : Nat), x.lo = true → s.tflag u TD_CTL 1 = false →
      (sense ≤ 500 * sgn (s.trd u TD_ZC) → Does (.zeroCurrent u sense ticks) s fun t =>
        (t.tender u).lo = false ∧ (t.tender u).zc = true ∧ t.tflag u TD_STAT 7 = true ∧ s.Only t [(ta u TD_STAT, 7, 7)] ∧
        s.Within t [.tender u]) ∧
      (500 * sgn (s.trd u TD_ZC) < sense → exec (.zeroCurrent u sense ticks) s = .next s)) ∧
    (∀ (sense : Int) (ticks : Nat), x.hi = true →
      ((500 * s.tdIlimf u : Int) < sense → 154 ≤ ticks → Does (.currentLimit u sense ticks) s fun t =>
        (t.tender u).hi = false ∧ (t.tender u).cur = min x.cur ticks ∧ (t.tender u).limAt = some (x.limAt.getD s.tide.now) ∧
        t.tflag u TD_STAT 6 = true ∧ t.tflag u TD_EVT 2 = true ∧ s.Only t [(ta u TD_STAT, 6, 6), (ta u TD_EVT, 2, 2)] ∧
        s.Within t [.tender u]) ∧
      (sense ≤ 500 * s.tdIlimf u ∨ ticks < 154 → exec (.currentLimit u sense ticks) s = .next s))) ∧
  (∀ (s : State) (u : Tender) (m : TenderMeas), s.tdHere u = true →
    let x := s.tender u
    let win : Nat := 16000 * 2 ^ s.tget u TD_WIN 1 0
    let diff : Int := (s.tdVr u : Int) * 1000 - m.vfb
    ((1100 * s.tget u TD_VREF 10 0 : Int) < m.vfb → Does (.tenderSample u m) s fun t =>
      (t.tender u).ov = true ∧ (t.tender u).hi = false) ∧
    (s.tdActive u = true → m.late = false → Does (.tenderSample u m) s fun t => ∃ code : Int,
      (code = clampI (diff * 256 / win) (-256) 255 ∨ code = clampI (diff * 256 / win + 1) (-256) 255) ∧
      t.tget u TD_ERR 8 0 = (code % 512).toNat ∧ t.trd u TD_DUTY = wd (s.tdU u (code * 256)) ∧
      (t.tender u).next2 = s.tdTon u (s.tdU u (code * 256)) ∧ (t.tender u).u1 = s.tdU u (code * 256) ∧
      (t.tender u).u2 = x.u1 ∧ (t.tender u).e1 = code * 256 ∧ (t.tender u).e2 = x.e1 ∧ (t.tender u).vfb = m.vfb ∧
      (win < diff.natAbs → t.tflag u TD_EVT 5 = true) ∧ s.Within t [.tender u, .therm, .free]) ∧
    (s.tdActive u = true → m.late = true → Does (.tenderSample u m) s fun t =>
      (t.tender u).next2 = x.next1 ∧ t.tflag u TD_EVT 8 = true ∧ (t.tender u).u1 = x.u1 ∧ (t.tender u).e1 = x.e1) ∧
    (s.tdActive u = false → Does (.tenderSample u m) s fun t => (t.tender u).vfb = m.vfb ∧ (t.tender u).next2 = x.next2 ∧
      s.Only t [whole (ta u TD_IAVG), whole (ta u TD_VIN), whole (ta u TD_EDGE)] ∧ s.Within t [.tender u, .therm, .free]))

/-- The states of a tender (R374 to R378): delay, ramp, regulation, stop delay, stop ramp and hiccup end as the rule says; a ramp
that ends below 30 % of its reference, or an expired limit time, is a hiccup, which counts, the first raising 0x47 and the
eighth latching with 0x4A to 0x4C. Writes and monitors of a tender (R362, R375, R378 to R382): EN starts it and, cleared,
stops it, later where the sag policy holds it; CLR takes LATCHED to OFF; overvoltage, while the excess lasts, raises 0x4D;
power-good follows the band in REGULATING and its loss raises 0x4E; strip undervoltage turns every gate off and raises 0x46,
and its end ramps again. -/
def Obligations.TenderStatesAndMonitors : Prop :=
  (∀ (s : State) (u : Tender), s.tdHere u = true →
    (∀ vfb, s.tdState u = tdStartDelay → Does (.startDelayEnd u vfb) s fun t => t.tdState u = tdRamp ∧
      (t.tender u).vr = min vfb (s.tget u TD_VREF 10 0) ∧ (t.tender u).u1 = 0 ∧ s.Within t [.tender u, .page 12]) ∧
    (∀ vfb, s.tdState u = tdHiccup → Does (.hiccupEnd u vfb) s fun t => t.tdState u = tdRamp ∧
      (t.tender u).vr = min vfb (s.tget u TD_VREF 10 0) ∧ s.Within t [.tender u, .page 12]) ∧
    (∀ vfb, s.tdState u = tdRamp → 3 * s.tget u TD_VREF 10 0 ≤ 10 * vfb → Does (.rampEnd u vfb) s fun t =>
      t.tdState u = tdRegulating ∧ (t.tender u).vr = s.tget u TD_VREF 10 0 ∧ s.Within t [.tender u, .page 12]) ∧
    (∀ c : Instr, (∃ vfb, c = .rampEnd u vfb ∧ s.tdState u = tdRamp ∧ 10 * vfb < 3 * s.tget u TD_VREF 10 0) ∨
        (c = .limitTimeExpiry u ∧ s.tdState u = tdRegulating ∧ (s.tender u).limAt.isSome) →
      Does c s fun t => (t.tender u).hi = false ∧ (t.tender u).lo = false ∧ (t.tender u).limAt = none ∧
        t.tflag u TD_EVT 1 = true ∧ s.Within t [.tender u, .coll, .page 12] ∧
        (s.tget u TD_RETRY 2 0 < 7 → t.tdState u = tdHiccup ∧ t.tget u TD_RETRY 2 0 = s.tget u TD_RETRY 2 0 + 1) ∧
        (s.tget u TD_RETRY 2 0 = 0 → s.canRaise 0x47 = true → t.Raised 0x47) ∧
        (s.tget u TD_RETRY 2 0 = 7 → t.tdState u = tdLatched ∧ t.tflag u TD_EVT 0 = true ∧
          (s.canRaise (0x4A + u.val) = true → t.Raised (0x4A + u.val)))) ∧
    (s.tdState u = tdStopDelay → Does (.stopDelayEnd u) s fun t => t.tdState u = tdStopRamp ∧
      (t.tender u).vr0 = (s.tender u).vr ∧ (t.tender u).rampAt = s.tide.now ∧ s.Within t [.tender u, .page 12]) ∧
    (s.tdState u = tdStopRamp → (s.tender u).thWait = false → Does (.stopRampEnd u) s fun t =>
      t.tdState u = (if (s.tender u).dockWait then tdDocked else tdOff) ∧ (t.tender u).hi = false ∧ (t.tender u).lo = false ∧
      (t.tender u).vr = 0 ∧ s.Within t [.tender u, .page 12])) ∧
  (∀ (s : State) (u : Tender), s.tdHere u = true →
    (∀ v : Word, s.awake = true → s.writeFails .host [(ta u TD_CTL, v)] = none →
      (v.getLsbD 0 = true → s.tflag u TD_CTL 0 = false → (s.tender u).dockWait = false → Does (.tenderEnable u v) s fun t =>
        t.tflag u TD_CTL 0 = true ∧ (s.tdState u = tdOff → t.tdState u = tdStartDelay) ∧
        (s.tdState u = tdStopDelay → t.tdState u = tdRegulating) ∧ (s.tdState u = tdStopRamp → t.tdState u = tdRamp) ∧
        s.Within t [.tender u, .page 12]) ∧
      (v.getLsbD 0 = false → s.tflag u TD_CTL 0 = true → Does (.tenderDisable u v) s fun t => t.tflag u TD_CTL 0 = false ∧
        s.Within t [.tender u, .page 12] ∧
        (s.tflag u TD_STAT 8 = true → (t.tender u).deferred = true ∧ t.tdState u = s.tdState u) ∧
        (s.tflag u TD_STAT 8 = false → s.tdState u = tdRegulating ∨ s.tdState u = tdRamp → t.tdState u = tdStopDelay))) ∧
    (s.awake = true → s.tdState u = tdLatched → (s.tender u).dockWait = false → Does (.tdCmdClr u 1) s fun t =>
      t.tdState u = tdOff ∧ t.tflag u TD_CTL 0 = false ∧ t.tget u TD_RETRY 2 0 = 0 ∧ s.Within t [.tender u, .page 12]) ∧
    (s.awake = true → s.tdState u ≠ tdLatched → exec (.tdCmdClr u 1) s = .next s) ∧
    ((1100 * s.tget u TD_VREF 10 0 : Int) < (s.tender u).vfb → Does (.tenderOvervoltage u) s fun t =>
      t = { s with regs := t.regs, coll := t.coll } ∧ t.tflag u TD_EVT 3 = true ∧
      s.Only t [(ta u TD_EVT, 3, 3)] ∧ (s.canRaise 0x4D = true → t.Raised 0x4D)) ∧
    ((s.tender u).vfb ≤ (1100 * s.tget u TD_VREF 10 0 : Int) → exec (.tenderOvervoltage u) s = .next s) ∧
    (s.tdState u = tdRegulating →
      (s.tdInBand u = false →
        Does (.pgoodLost u) s (fun t => t = { s with regs := t.regs, coll := t.coll } ∧ t.tflag u TD_STAT 5 = false ∧
          t.tflag u TD_EVT 4 = true ∧ s.Only t [(ta u TD_STAT, 5, 5), (ta u TD_EVT, 4, 4)] ∧
          (s.canRaise 0x4E = true → t.Raised 0x4E)) ∧ exec (.pgoodSet u) s = .next s) ∧
      (s.tdInBand u = true →
        Does (.pgoodSet u) s (fun t => t = { s with regs := t.regs } ∧ t.tflag u TD_STAT 5 = true ∧
          s.Only t [(ta u TD_STAT, 5, 5)]) ∧ exec (.pgoodLost u) s = .next s)) ∧
    (s.tflag u TD_STAT 5 = true → Does (.retryReset u) s fun t => t = { s with regs := t.regs } ∧ t.tget u TD_RETRY 2 0 = 0 ∧
      s.Only t [(ta u TD_RETRY, 2, 0)]) ∧
    (s.awake = true → s.stripUv = false → Does .tenderStripUndervoltage s fun t => t.stripUv = true ∧
      (t.tender u).hi = false ∧ (t.tender u).lo = false ∧ t.tflag u TD_EVT 9 = true ∧ (s.canRaise 0x46 = true → t.Raised 0x46)) ∧
    (s.stripUv = true → Does .tenderStripUvEnd s fun t => t.stripUv = false ∧
      (s.tdState u = tdRegulating → t.tdState u = tdRamp ∧
        (t.tender u).vr = (clampI ((s.tender u).vfb / 1000) 0 (s.tget u TD_VREF 10 0)).toNat) ∧
      (s.tdState u = tdStopDelay → t.tdState u = tdStopDelay)))

/-- A decision (R389, R395, R397, R399, R404, R407, R516): every raised source becomes pending with at least the severity and
reaction of the map; the count of events rises by their number; an empty record captures the event of the highest severity at
or above its threshold, of equal ones that of the lowest source; a held record keeps its event; a reaction of code 3 stops
its running berths, but not one that trips at the same decision (R274, R402). -/
def Obligations.CollectorDecision : Prop := ∀ s : State, Does .collectorDecision s fun t =>
  (∀ e ∈ s.coll.raised, ∃ p ∈ t.coll.pend, p.src = e.src ∧ s.severity e.src ≤ p.sev ∧ s.reaction e.src ≤ p.react ∧
    e.affected &&& p.affected = e.affected) ∧
  (∀ p ∈ s.coll.pend, ∃ q ∈ t.coll.pend, q.src = p.src ∧ p.sev ≤ q.sev ∧ p.react ≤ q.react) ∧
  t.coll.evcnt = (s.coll.evcnt + s.coll.raised.length) % 2 ^ 36 ∧
  (∀ f, s.coll.first = some f → ∃ g, t.coll.first = some g ∧ g.ev = f.ev ∧ g.sev = f.sev) ∧
  (s.coll.first = none → (∃ e ∈ s.coll.raised, s.pget FC_CTL 6 4 ≤ s.severity e.src) →
    ∃ g, t.coll.first = some g ∧ g.ev ∈ s.coll.raised ∧ g.sev = s.severity g.ev.src ∧
      ∀ e ∈ s.coll.raised, s.severity e.src ≤ g.sev ∧ (s.severity e.src = g.sev → g.ev.src ≤ e.src)) ∧
  (∀ e ∈ s.coll.raised, ∀ n, t.safeLine n = false → s.pendOn (s.formed e) n = 3 → s.bst n = stRunning →
    t.bst n = stStopping) ∧
  (∀ n, t.safeLine n = true → t.bst n = s.bst n) ∧
  t.coll.broken = s.coll.broken ∧ t.coll.brokenL = s.coll.brokenL

/-- Broken pairs and lines, and the factory facility (R390, R391, R393, R414): a broken pair raises 0x18 and its own source once
and is ignored from then on; a broken line trips its berth; with TESTEN low or without the unlock the facility does nothing,
with both it drives a pair or a line active, idle or broken. Clearing (R399, R401, R409, R412): a write of 1 to a pending bit clears that source and no other,
and a level source whose condition still holds is raised again; CLRREC empties the record and leaves every pending bit. -/
def Obligations.BrokenPairsAndClearing : Prop :=
  (∀ s : State,
    (∀ src : Fin 256, s.awake = true → s.coll.broken.contains src.val = false → reservedSource src.val = false →
      Does (.brokenPair src) s fun t => t = { s with coll := t.coll } ∧ src.val ∈ t.coll.broken ∧ t.Raised src.val ∧
        (s.canRaise 0x18 = true → t.Raised 0x18) ∧ ∀ e : Event, e.src = src.val → t.raise e = t) ∧
    (∀ src : Fin 256, s.coll.broken.contains src.val = true → exec (.brokenPair src) s = .next s) ∧
    (∀ n : Berth, s.awake = true → s.coll.brokenL.getLsbD n.val = false → Does (.brokenSafeStateLine n) s fun t =>
      t.coll.brokenL.getLsbD n.val = true ∧ t.safeLine n = true ∧ (s.canRaise 0x18 = true → t.Raised 0x18) ∧
      s.Within t [.berth n, .coll, .dock, .page 12] ∧
      (s.inService = true → s.outOfUse n = false → t.bflag n BP_TRIP 6 = true ∧ t.bflag n BP_TRIP causeFault = true)) ∧
    (∀ x p q u, s.dev.pins.testen = false ∨ u = false → exec (.faultInjection x p q u) s = .next s) ∧
    (∀ k : Fin 256, s.dev.pins.testen = true → s.awake = true → s.coll.broken.contains k.val = false →
      Does (.faultInjection (.inl k) true false true) s (fun t => t = { s with coll := t.coll } ∧
        k.val ∉ t.coll.idle ∧ (neverRaised k.val = false → t.Raised k.val) ∧
        (neverRaised k.val = true → t.coll.raised = s.coll.raised)) ∧
      Does (.faultInjection (.inl k) false true true) s (fun t => t = { s with coll := t.coll } ∧ k.val ∈ t.coll.idle ∧
        (∀ e ∈ t.coll.raised, e.src ≠ k.val) ∧ t.pairIdle k.val = true) ∧
      ∀ p, Does (.faultInjection (.inl k) p p true) s fun t => t = { s with coll := t.coll } ∧ k.val ∈ t.coll.broken) ∧
    (∀ n : Berth, s.dev.pins.testen = true → s.awake = true →
      Does (.faultInjection (.inr n) true false true) s (fun t => t.coll.driven.getLsbD n.val = true ∧ t.safeLine n = true ∧
        s.Within t [.berth n, .coll, .dock, .page 12]) ∧
      Does (.faultInjection (.inr n) false true true) s (fun t =>
        t = { s with coll := { s.coll with driven := t.coll.driven, idleL := t.coll.idleL } } ∧
        t.coll.driven.getLsbD n.val = false ∧ t.coll.idleL.getLsbD n.val = true ∧
        (s.coll.brokenL.getLsbD n.val = false → t.safeLine n = false)) ∧
      ∀ p, Does (.faultInjection (.inr n) p p true) s fun t => t.coll.brokenL.getLsbD n.val = true)) ∧
  (∀ s : State, s.awake = true →
    (∀ (a : Nat) (v : Word), isPendWord a = true → Does (.pendingClear a v) s fun t =>
      t = { s with coll := { s.coll with pend := t.coll.pend, raised := t.coll.raised } } ∧
      t.coll.pend = s.coll.pend.filter fun p => !(pendNamed a v).contains p.src) ∧
    (∀ (a : Nat) (v : Word), isPendWord a = false → exec (.pendingClear a v) s = .next s) ∧
    (s.pending? 0x01 = true → s.flag PWR_STAT 7 = true → s.canRaise 0x01 = true →
      Does (.pendingClear FC_PEND0 2) s fun t => t.pending? 0x01 = false ∧ t.Raised 0x01) ∧
    Does (.clrrec 1) s (fun t => t = { s with coll := { s.coll with first := none } }))

/-- Frames that pass the tests (R422, R424, R425, R428, R434): a WRITE, READ, BARRIER or FENCEREL joins the queue behind every
entry, in the next sequence number, while a slot is free; a NOP takes its sequence number only; a repeated sequence number
changes no queue and marks DUP. A frame that fails a test (R422, R445) is recorded with its reason, its sequence number and
opcode, counted, and raises its source where the reason has one; the queue and the sequence number stand. An accepted frame,
and one received complete and then rejected, marks the time from which the idle policy counts (R95, R427). -/
def Obligations.HostFrames : Prop :=
  (∀ (s : State) (f : RawFrame) (h : Header) (addr seq : Nat) (data : List Nat),
    s.hostListens = true →
    (s.verdict f = .accept h addr seq data → (h.op = 1 ∨ h.op = 2 ∨ h.op = 4 ∨ h.op = 5) →
      seq = (s.host.lastSeq + 1) % 4 ∧ s.host.queue.length < 64) ∧
    (∀ c : Instr, (c, s.frameOp f) ∈ [(Instr.write f, 1), (.read f, 2), (.barrier f, 4), (.fencerel f, 5)] →
      s.verdict f = .accept h addr seq data → h.op = s.frameOp f → Does c s fun t =>
        ∃ e, t.host.queue = s.host.queue ++ [e] ∧ t.host.lastSeq = seq ∧ e.phase = .waiting ∧
          (h.op = 1 → e.kind = 0 ∧ e.addr = addr ∧ e.count = h.count) ∧ (h.op = 2 → e.kind = 1 ∧ e.addr = addr ∧ e.count = h.count) ∧
          (h.op = 4 → e.kind = 2 ∧ e.stream = 15) ∧ (h.op = 5 → e.kind = 3) ∧
          s.Within t [.host, .dev, .page 9] ∧ t.dev = { s.dev with frameAt := s.tide.now } ∧
          t.host.fenced = s.host.fenced ∧ t.host.held = s.host.held) ∧
    (s.frameOp f = 0 → s.verdict f = .accept h addr seq data → h.op = 0 → Does (.nop f) s fun t =>
      t.host = { s.host with lastSeq := seq } ∧ t.dev = { s.dev with frameAt := s.tide.now } ∧
      s.Within t [.host, .dev, .page 9]) ∧
    (∀ c : Instr, (c, s.frameOp f) ∈ [(Instr.write f, 1), (.read f, 2), (.barrier f, 4), (.fencerel f, 5)] → s.verdict f = .dup →
      Does c s fun t => t.host = s.host ∧ t.dev = s.dev ∧ t.flag HP_EVT 6 = true ∧ s.Only t [(HP_EVT, 7, 6)])) ∧
  (∀ (s : State) (f : RawFrame) (r seq op : Nat),
    s.hostListens = true → s.verdict f = .reject r seq op → 1 ≤ r → r ≤ 6 → seq < 4 → op < 8 →
    Does (.hostFrameRejected f) s fun t =>
      t.host = { s.host with rej := true } ∧ t.flag HP_EVT (r - 1) = true ∧
      t.rd HP_REJ = BitVec.ofNat 18 (seq * 65536 + op * 8192 + r) ∧
      (t.rd 0x908).toNat = min ((s.rd 0x908).toNat + 1) 0x3FFFF ∧
      s.Only t [(HP_EVT, r - 1, r - 1), whole HP_REJ, whole 0x908] ∧ s.Within t [.host, .dev, .coll, .page 9] ∧
      (r ≤ 2 → t.dev = s.dev) ∧ (2 < r → t.dev = { s.dev with frameAt := s.tide.now }) ∧
      ∀ src, rejectSource r = some src → s.canRaise src = true → t.Raised src)

/-- FETCH (R435, R444 to R446): with REPEAT 0 the port answers as many words as asked, the ready ones first and then zeros,
releases what it delivered before, and toggles BLK; with REPEAT 1 it answers the stored block again. -/
def Obligations.FetchAnswers : Prop := ∀ (s : State) (f : RawFrame) (h : Header) (addr seq : Nat) (data : List Nat),
  s.hostListens = true → s.frameOp f = 3 → s.verdict f = .accept h addr seq data → h.op = 3 → Does (.fetch f) s fun t =>
    t.host.lastSeq = s.host.lastSeq ∧ t.host.fenced = s.host.fenced ∧ s.Within t [.host, .dev, .page 9] ∧
    (h.rep = true → t.host = s.host) ∧
    (h.rep = false → t.host.blk = !s.host.blk ∧ t.host.rej = false ∧ t.host.queue.length ≤ s.host.queue.length ∧
      ∃ b, t.host.block = some b ∧ b.count = h.count ∧ b.words.length = h.count ∧
        b.words.take (readyGo s.compat (releaseSent s.compat s.host.queue)).length =
          (readyGo s.compat (releaseSent s.compat s.host.queue)).take h.count)

/-- A queued entry runs (R429 to R431, R434, R436, R438): of a fenced stream it accesses nothing and shows FENCED; outside one
row of the map it fails and changes no register; a WRITE that a rule forbids changes no register; a WRITE that is accepted is
applied whole in one step; a READ returns as many words as it asked for; an entry behind an unfinished one of its stream does
not run. A running entry completes (R435 to R437): its response is ready; a failure fences its stream, sets the event and
raises 0x22 once; a FENCEREL ends the fence of its stream. -/
def Obligations.EntriesRunAndComplete : Prop :=
  (∀ (s : State) (k : Nat) (e : HEntry), s.awake = true → s.host.queue[k]? = some e →
    let run := fun t : State => t.host.queue[k]?.map fun x => (x.phase, x.status)
    let lo := hostAddr s.compat e.addr
    let ws := e.data.zipIdx.map fun p => (lo + p.2, p.1)
    let open_ := e.stream = 15 ∨ s.host.fenced.getLsbD e.stream = false
    (s.entryStarts k = true → e.kind ≤ 1 → e.stream < 15 → s.host.fenced.getLsbD e.stream = true →
      Does (.entryRun k none) s fun t => run t = some (.running, 1) ∧ t.regs = s.regs ∧ s.Within t [.host]) ∧
    (s.entryStarts k = true → e.kind ≤ 1 → open_ → e.count ≠ 0 → rangeOk s.compat e.addr e.count = false →
      Does (.entryRun k none) s fun t => run t = some (.running, 2) ∧ t.regs = s.regs ∧ s.Within t [.host]) ∧
    (s.entryStarts k = true → e.kind = 0 → open_ → e.count ≠ 0 → rangeOk s.compat e.addr e.count = true →
      (∀ a, s.writeFails .host ws = some a → Does (.entryRun k none) s fun t =>
        run t = some (.running, 3) ∧ (t.host.queue[k]?.map (·.failAdr)) = some a ∧ t.regs = s.regs ∧ s.Within t [.host]) ∧
      (s.writeFails .host ws = none → Does (.entryRun k none) s fun t =>
        t.regs = ((s.modEntry k fun x => { x with phase := .running }).applyWrite .host ws).regs)) ∧
    (s.entryStarts k = true → e.kind = 1 → open_ → e.count ≠ 0 → rangeOk s.compat e.addr e.count = true →
      Does (.entryRun k none) s fun t => (t.host.queue[k]?.map fun x => (x.phase, x.reads.length)) = some (.running, e.count)) ∧
    (∀ i, s.entryStarts k = true → e.kind ≤ 1 → open_ → e.count ≠ 0 → rangeOk s.compat e.addr e.count = true →
      Does (.entryRun k (some i)) s fun t => run t = some (.running, 5) ∧ (e.kind = 0 → t.regs = s.regs ∧ s.Within t [.host])) ∧
    (∀ stall, s.entryStarts k = true → e.kind ≤ 1 → open_ → e.count = 0 → Does (.entryRun k stall) s fun t =>
      run t = some (.running, 0) ∧ t.regs = s.regs ∧ s.Within t [.host]) ∧
    (s.entryStarts k = true → e.kind = 2 ∨ e.kind = 3 → Does (.entryRun k none) s fun t =>
      t = s.modEntry k fun x => { x with phase := .running }) ∧
    ((∃ i < k, ∃ x, s.host.queue[i]? = some x ∧ x.stream = e.stream ∧ x.phase ≠ .done) → ∀ stall, exec (.entryRun k stall) s = .next s)) ∧
  (∀ (s : State) (k : Nat) (e : HEntry), s.awake = true → s.host.queue[k]? = some e →
    (e.phase ≠ .running → exec (.entryComplete k) s = .next s) ∧
    (e.phase = .running → e.kind ≤ 1 → e.status = 0 → Does (.entryComplete k) s fun t =>
      t = s.modEntry k fun x => { x with phase := .done }) ∧
    (e.phase = .running → e.kind ≤ 1 → e.status = 2 ∨ e.status = 3 ∨ e.status = 5 → e.stream < 15 →
      s.host.fenced.getLsbD e.stream = false → Does (.entryComplete k) s fun t =>
        t.host.fenced.getLsbD e.stream = true ∧ (∀ j, j ≠ e.stream → t.host.fenced.getLsbD j = s.host.fenced.getLsbD j) ∧
        (t.host.queue[k]?.map (·.phase)) = some .done ∧ t.flag HP_EVT 10 = true ∧ s.Only t [(HP_EVT, 10, 10)] ∧
        s.Within t [.host, .coll, .page 9] ∧ (s.canRaise 0x22 = true → t.Raised 0x22)) ∧
    (e.phase = .running → e.kind = 3 → e.stream < 15 → Does (.entryComplete k) s fun t =>
      t.host.fenced.getLsbD e.stream = false ∧ (t.host.queue[k]?.map (·.phase)) = some .done ∧ t.regs = s.regs ∧
      s.Within t [.host]))

/-- Entries of the memory port (R459 to R464): GO queues the host entry that MP_HENT0 to MP_HENT2 describe, and fails while one
is queued; the first entry that may start goes on the wire, one of an unusable select fails with RANGE, one with count 0
completes at once; a completed host entry leaves its incoming words in the buffer after the outgoing ones, and so does each
run of its poll; a poll that does not match waits, runs again, and fails with TIMEOUT, on its own select alone; a read of the
loader keeps the words that came in. -/
def Obligations.MemoryEntriesRun : Prop := ∀ s : State,
  (s.awake = true → s.writeFails .host [(MP_HCMD, 1)] = none → Does (.go 1) s fun t =>
    t = { s with mem := { s.mem with queue := t.mem.queue } } ∧
    ∃ e, t.mem.queue = s.mem.queue ++ [e] ∧ e.job = .host ∧ e.wire = false ∧ e.sel = s.get MP_HENT0 6 5 ∧
      e.wlen = s.get MP_HENT0 4 0 ∧ e.nin = s.get MP_HENT2 7 0 ∧ e.out.length = s.get MP_HENT1 7 0 ∧
      ∀ i < s.get MP_HENT1 7 0, e.out.getD i 0 = (s.rd (MP_HBUF0 + i)).toNat % 2 ^ s.get MP_HENT0 4 0) ∧
  (s.hostBusy = true ∨ 144 < s.get MP_HENT1 7 0 + s.get MP_HENT2 7 0 → exec (.go 1) s = .next s) ∧
  (∀ e, s.mem.docked = false → s.dev.vioOk = true → s.awake = true → s.mem.queue.any (·.wire) = false →
    startable [] s.mem.queue = some e →
    (s.selOk e.sel = true → e.out.length + e.nin ≠ 0 → Does .memoryEntryStart s fun t =>
      t = { s with mem := { s.mem with queue := t.mem.queue } } ∧ t.mem.queue.find? (·.wire) = some { e with wire := true, ran := true }) ∧
    (e.job = .host → s.mem.wait = [] → s.selOk e.sel = true → e.out.length + e.nin = 0 → Does .memoryEntryStart s fun t =>
      t.mem.queue = s.mem.queue.erase e ∧ t.get MP_HSTAT 2 0 = 1 ∧ s.Only t [(MP_HSTAT, 2, 0)]) ∧
    (s.selOk e.sel = false → Does .memoryEntryStart s fun t =>
      t.flag MP_EVT 0 = true ∧ (s.canRaise 0x24 = true → t.Raised 0x24) ∧ s.Within t [.mem, .load, .coll, .free, .page 10] ∧
      (e.job = .loader → t.load.lost = true) ∧
      (e.job = .host → s.mem.wait = [] → t.mem.queue = s.mem.queue.erase e ∧ t.get MP_HSTAT 2 0 = 2))) ∧
  (∀ e incoming, s.mem.queue.find? (·.wire) = some e → e.job = .host →
    (e.poll = none → e.wlen ≤ 18 → e.out.length + e.nin ≤ 144 → Does (.memoryEntryComplete incoming) s fun t =>
      (s.mem.wait = [] → t.mem.queue = s.mem.queue.erase e) ∧ t.get MP_HSTAT 2 0 = 1 ∧
      (∀ i < e.nin, (t.rd (MP_HBUF0 + e.out.length + i)).toNat = incoming.getD i 0 % 2 ^ e.wlen) ∧
      s.Only t ((MP_HSTAT, 2, 0) :: (List.range e.nin).map fun i => whole (MP_HBUF0 + e.out.length + i))) ∧
    (∀ m v l, e.poll = some (m, v, l) → e.wlen ≤ 18 → e.out.length + e.nin ≤ 144 →
      (incoming.getD (e.nin - 1) 0 % 256) &&& m ≠ v → Does (.memoryEntryComplete incoming) s fun t =>
        t.mem.queue.any (·.wire) = false ∧ t.mem.queue.length = s.mem.queue.length ∧
        (∃ x ∈ t.mem.queue, x = { e with wire := false, between := true }) ∧
        (∀ i < e.nin, (t.rd (MP_HBUF0 + e.out.length + i)).toNat = incoming.getD i 0 % 2 ^ e.wlen) ∧
        s.Only t ((List.range e.nin).map fun i => whole (MP_HBUF0 + e.out.length + i)))) ∧
  (∀ e incoming, s.mem.queue.find? (·.wire) = some e → e.job = .loader → e.poll = none →
    Does (.memoryEntryComplete incoming) s fun t =>
      t.load.got = s.load.got ++ [(List.range e.nin).map fun i => incoming.getD i 0 % 2 ^ e.wlen]) ∧
  (∀ sel : Fin 4, Does (.pollRetry sel) s (fun t => t = { s with mem := { s.mem with queue := t.mem.queue } } ∧
      t.mem.queue.length = s.mem.queue.length ∧ (∀ e ∈ t.mem.queue, e.sel = sel.val → e.between = false) ∧
      ∀ e ∈ s.mem.queue, e.sel ≠ sel.val → e ∈ t.mem.queue) ∧
    (∀ e, (s.mem.queue.find? fun e => e.poll.isSome && e.ran && e.sel == sel.val) = some e → e.job = .host →
      Does (.pollTimeout sel) s fun t => (s.mem.wait = [] → t.mem.queue = s.mem.queue.erase e) ∧
        t.flag MP_EVT 1 = true ∧ t.get MP_HSTAT 2 0 = 3 ∧
        (s.canRaise 0x24 = true → t.Raised 0x24) ∧ s.Only t [(MP_EVT, 1, 1), (MP_HSTAT, 2, 0)]) ∧
    ((∀ e ∈ s.mem.queue, e.sel = sel.val → e.poll = none ∨ e.ran = false) → exec (.pollTimeout sel) s = .next s))

/-- Records and wear (R470 to R473, R481): programmed records leave the buffer in order with consecutive RSEQ, those of a failed
page stay and the write position goes to the next page boundary; LAZY and a flush program what waits; a LOSS marker follows
drops; a sector that is prepared is read, is verified when blank and erased once more than its old header says when not; one
that fails twice is skipped. The mount, saved state and trace (R474, R476 to R479, R481): a readable memory mounts to READY with the next boot
count, the next RSEQ and the BOOT marker first, an unreadable one to FAILED; a thermal save goes into the sector that does
not hold the newest copy; one parameter record per moved search; a trigger is ignored until the last burst has entered the
buffer, and a burst enters only while 16 slots are free. -/
def Obligations.Logbook : Prop :=
  (∀ s : State,
    let l := s.mem.log
    (l.prog ≠ 0 → Does (.pageProgramDone true) s fun t =>
      t.mem.log.buf = l.buf.drop l.prog ∧ t.addr2 LOG_RSEQ0 = (s.addr2 LOG_RSEQ0 + l.prog) % 2 ^ 32 ∧
      s.Only t [whole LOG_WPTR0, whole 0xA35, whole LOG_RSEQ0, whole 0xA33, (LOG_STAT, 2, 0)]) ∧
    (l.prog ≠ 0 → Does (.pageProgramDone false) s fun t =>
      t.mem.log.buf = l.buf ∧ t.addr2 LOG_RSEQ0 = s.addr2 LOG_RSEQ0 ∧ t.flag LOG_EVT 2 = true ∧
      (l.slot < 60 → t.addr2 LOG_WPTR0 = s.slotAddr l.sector ((l.slot / 4 + 1) * 4) % 2 ^ 32) ∧
      (s.canRaise 0x26 = true → t.Raised 0x26)) ∧
    (s.logState = logReady → l.prog = 0 → l.buf ≠ [] → l.off = false → s.mem.docked = false → l.slot < 64 → l.cur = true →
      Does .lazyExpiry s fun t => t.mem.log.buf = l.buf ∧ 0 < t.mem.log.prog ∧ t.mem.log.prog ≤ l.buf.length ∧
        (s.mem.queue ++ s.mem.wait).length < (t.mem.queue ++ t.mem.wait).length ∧ t.regs = s.regs ∧ s.Within t [.mem, .free]) ∧
    (s.awake = true → s.logState ≠ logFailed → Does (.flush 1) s fun t =>
      t.mem.log.flush = true ∧ t.mem.log.buf = l.buf ∧ t.regs = s.regs ∧
      (s.logState = logReady → l.prog = 0 → l.buf ≠ [] → l.off = false → s.mem.docked = false → l.slot < 64 → l.cur = true →
        0 < t.mem.log.prog)) ∧
    (s.awake = true → s.logState = logFailed → s.mem.docked = false → Does (.flush 1) s fun t =>
      t = { s with regs := t.regs, mem := t.mem } ∧ t.logState = logMounting ∧ t.mem.log.mount = {} ∧
      s.Only t [(LOG_STAT, 2, 0), (LOG_STAT, 11, 11)]) ∧
    (l.flush = true → l.buf = [] → Does .flushComplete s fun t => t.mem.log = { l with flush := false } ∧ t.regs = s.regs ∧
      t.dev = { s.dev with sagFlush := false }) ∧
    (l.flush = true → l.buf ≠ [] → s.logState = logReady → exec .flushComplete s = .next s) ∧
    (l.lost ≠ 0 → 4 ≤ s.logFree → Does .lossMarker s fun t =>
      t.mem.log.buf = l.buf ++ [s.lossMarker] ∧ t.mem.log.lost = 0 ∧ s.lossMarker.typ = 4 ∧ t.regs = s.regs) ∧
    (s.logState = logReady → (l.cur && l.ready) = false → l.prep = .none → Does .sectorPrepare s fun t =>
      t.mem.log.prep = .verify ∧ t.mem.log.seen = none ∧ s.Within t [.mem] ∧
      s.sectorRead .prepare (s.slotAddr s.logTarget 0) ∈ t.mem.queue ++ t.mem.wait) ∧
    (∀ e incoming, s.mem.queue.find? (·.wire) = some e → e.job = .prepare → e.nin = 4096 → e.poll = none →
      l.prep = .verify → l.off = false →
      ((∀ i < 4096, incoming.getD i 0 % 2 ^ e.wlen = 0xFF) → Does (.memoryEntryComplete incoming) s fun t =>
        t.mem.log.prep = .verify ∧ t.mem.log.seen = some true ∧ t.regs = s.regs) ∧
      (∀ q n, (∃ i < 4096, incoming.getD i 0 % 2 ^ e.wlen ≠ 0xFF) → sectorHead (e.words incoming) = some (q, n) →
        Does (.memoryEntryComplete incoming) s fun t =>
          t.mem.log.prep = .erase ∧ t.flag LOG_STAT 11 = true ∧ (s.logTarget, n + 1) ∈ t.mem.log.erases ∧
          (t.rd LOG_WEARMAX).toNat = min (max (n + 1) (s.rd LOG_WEARMAX).toNat) 0x3FFFF ∧
          s.Only t [(LOG_STAT, 11, 11), whole LOG_WEARMAX])) ∧
    (l.seen = none → exec .sectorPrepareDone s = .next s) ∧
    (l.seen = some true → Does .sectorPrepareDone s fun t =>
      t.mem.log.prep = .none ∧ t.mem.log.cur = true ∧ t.mem.log.skipped = l.skipped ∧ s.Only t [(LOG_STAT, 2, 0)]) ∧
    (l.seen = some false → l.prep ≠ .again → Does .sectorPrepareDone s fun t =>
      t.mem.log.prep = .again ∧ t.mem.log.skipped = l.skipped ∧ t.regs = s.regs) ∧
    (l.seen = some false → l.prep = .again → Does .sectorPrepareDone s fun t =>
      t.mem.log.prep = .none ∧ t.mem.log.skipped = s.logTarget :: l.skipped ∧ t.flag LOG_EVT 2 = true ∧
      (s.canRaise 0x26 = true → t.Raised 0x26) ∧ s.Only t [(LOG_EVT, 2, 2), (LOG_STAT, 2, 0)])) ∧
  (∀ s : State,
    let l := s.mem.log
    (s.committed = true → s.flag LOG_CTL 11 = true → s.logState = logOff → s.mem.docked = false → Does .mount s fun t =>
      t.logState = logMounting ∧ s.Only t [(LOG_STAT, 11, 11), (LOG_STAT, 2, 0)] ∧ s.Within t [.mem, .page 10] ∧
      ∀ k < (s.rd LOG_SECT).toNat, s.readEntry .head (s.slotAddr k 0) 64 ∈ t.mem.queue ++ t.mem.wait) ∧
    (s.logState = logMounting → s.mem.docked = false → s.inMem MemJob.ofMount = false →
      (l.mount.lost = true → Does .mountDone s fun t => t.logState = logFailed ∧ t.mem = s.mem ∧ t.flag LOG_EVT 2 = true ∧
        (s.canRaise 0x26 = true → t.Raised 0x26) ∧ s.Only t [(LOG_STAT, 2, 0), (LOG_EVT, 2, 2)]) ∧
      (l.mount.lost = false → l.mount.pars.length < (s.rd LOG_PARSECT).toNat → exec .mountDone s = .next s) ∧
      (l.mount.lost = false → (s.rd LOG_PARSECT).toNat ≤ l.mount.pars.length → Does .mountDone s fun t => t.logState = logReady ∧
        (∀ b q, highSeq l.mount.slots = some (b, q) → t.get LOG_BOOT 15 0 = (b + 1) % 65536 ∧ t.addr2 LOG_RSEQ0 = (q + 1) % 2 ^ 32) ∧
        (highSeq l.mount.slots = none → l.mount.current = none → t.get LOG_BOOT 15 0 = 0 ∧ t.addr2 LOG_RSEQ0 = 0) ∧
        ∃ mk, mk.typ = 4 ∧ mk.pay.getD 8 0 = 1 ∧ t.mem.log.buf = (mk :: l.buf).take 64)) ∧
    (∀ v : Word, s.awake = true → s.writeFails .host [(LOG_CTL, v)] = none → s.flag LOG_CTL 11 = true → v.getLsbD 11 = false →
      s.mem.docked = false → Does (.logDisable v) s fun t => t.flag LOG_CTL 11 = false ∧
        (l.prog = 0 → l.prep = .none → s.inMem MemJob.ofLog = false → t.logState = logOff) ∧
        (l.prog ≠ 0 → t.logState = s.logState ∧ t.mem.log.off = true)) ∧
    (s.logState = logReady → Does .saveth s fun t => t.regs = s.regs ∧
      t.mem.log.thGen = l.thGen + 1 ∧ t.mem.log.thSect = 1 - l.thSect ∧ ∃ q, t.mem.queue ++ t.mem.wait = s.mem.queue ++ s.mem.wait ++ q ∧ q ≠ [] ∧
        ∀ e ∈ q, e.job = .thermal ∧ s.addr2 LOG_THBASE0 + 4096 * (1 - l.thSect) ≤ e.adr ∧
          e.adr < s.addr2 LOG_THBASE0 + 4096 * (1 - l.thSect) + 4096) ∧
    (s.logState ≠ logReady → Does .saveth s fun t => t.mem = s.mem ∧ t.flag LOG_EVT 3 = true ∧ s.Only t [(LOG_EVT, 3, 3)]) ∧
    (s.logState = logReady → Does .savepar s fun t => t.regs = s.regs ∧
      t.mem.log.parRseq = l.parRseq + (berthList.filter fun n => s.lossMoved n).length) ∧
    (s.logState ≠ logReady → exec .savepar s = .next s) ∧
    (s.trChannels ≠ 0 → l.trace.trig = none → Does (.trig none) s fun t => t.regs = s.regs ∧
      t.mem.log.trace.trig = some (s.tide.now, 0xFF) ∧
      t.mem.log.trace.left = s.trNsamp * (8 - s.get LOG_TRCFG 10 8) / 8 ∧ t.mem.log.buf = l.buf) ∧
    (s.trChannels ≠ 0 → l.trace.trig ≠ none → Does (.trig none) s fun t => t.mem = s.mem ∧ t.flag LOG_EVT 5 = true ∧
      s.Only t [(LOG_EVT, 5, 5)]) ∧
    (s.trChannels = 0 → exec (.trig none) s = .next s) ∧
    (l.trace.trig ≠ none → l.trace.left = 0 → l.trace.frozen = false → Does .traceFreeze s fun t => t.regs = s.regs ∧
      t.mem.log.trace.frozen = true ∧ t.mem.log.trace.burst.length = 1 + (s.trChannels * s.trNsamp + 22) / 23) ∧
    (l.trace.frozen = true → 16 ≤ s.logFree → Does .traceEnterBuffer s fun t => t.regs = s.regs ∧
      t.mem.log.buf = l.buf ++ l.trace.burst.take (s.logFree - 15) ∧
      (l.trace.burst.length ≤ s.logFree - 15 → t.mem.log.trace = {}) ∧
      (s.logFree - 15 < l.trace.burst.length → t.mem.log.trace.burst = l.trace.burst.drop (s.logFree - 15) ∧
        t.mem.log.trace.frozen = true)) ∧
    (s.logFree < 16 → exec .traceEnterBuffer s = .next s))

/-- Joining and slots (R487 to R497, R505): the bypass opens into JOINING; without delimiters a device with APRI above 0 becomes
a provisional anchor, another keeps waiting; a repeater fills an empty slot with its first frame in the order of R492,
empties the slot of its own returning frame, and passes every other frame on with one more hop and nothing else changed; the
anchor marks what it passes on and empties what comes marked; a frame with a check error is counted. No slot arrives on a
docked port A, and none leaves on a docked port B (R72). -/
def Obligations.MooringSlots : Prop := ∀ s : State,
  let m := s.moor
  (s.committed = true → s.awake = true → s.hasMooring = true → s.dev.bypassOpen = false → Does .bypassOpen s fun t =>
    t.dev.bypassOpen = true ∧ t.mlMode = mlJoining ∧ t.moor = m ∧ s.Only t [(ML_STAT, 9, 8)]) ∧
  (s.mlMode = mlJoining → (0 < s.get ML_CTL 17 15 → Does (.joinTimeout true) s fun t =>
      t.mlMode = mlRing ∧ t.moor.role = .provisional ∧ s.Only t [(ML_STAT, 9, 8)]) ∧
    (s.get ML_CTL 17 15 = 0 → Does (.joinTimeout true) s fun t => t.mlMode = mlJoining ∧ t.moor = m)) ∧
  (s.mlMode = mlRing → Does .slotLoss s fun t => t.flag ML_EVT 2 = true ∧ t.flag ML_STAT 7 = false ∧ t.moor.flight = none ∧
    (0 < s.get ML_CTL 17 15 → t.mlMode = mlRing ∧ t.moor.role = .provisional) ∧
    (s.get ML_CTL 17 15 = 0 → t.mlMode = mlJoining ∧ t.moor.role = .repeater)) ∧
  (m.dockA = true → ∀ sl, exec (.slotArrival sl) s = .next s) ∧
  (m.dockB = true → (∀ sl, Does (.slotArrival sl) s fun t => t.moor.sent = m.sent) ∧
    ∀ a, Does (.slotStart a) s fun t => t.moor.sent = m.sent) ∧
  (s.mlMode = mlRing → m.role = .repeater → m.dockA = false → m.dockB = false →
    (∀ e, m.flight = none → m.out ≠ [] → Does (.slotArrival ⟨e, none⟩) s fun t => ∃ f ∈ m.out,
      (∀ g ∈ m.out, sendRank f.typ ≤ sendRank g.typ) ∧ t.moor.out = m.out.erase f ∧ t.moor.flight ≠ none ∧
      (f.typ ≠ 5 → t.moor.sent = some ⟨m.echo, some f⟩ ∧ t.moor.flight = some f) ∧ t.regs = s.regs) ∧
    (∀ e, m.flight ≠ none ∨ m.out = [] → Does (.slotArrival ⟨e, none⟩) s fun t =>
      t.moor.sent = some ⟨m.echo, none⟩ ∧ t.moor.out = m.out ∧ t.moor.flight = m.flight ∧ t.regs = s.regs) ∧
    (∀ e f, s.isOwn f = true → s.numbered = true → Does (.slotArrival ⟨e, some f⟩) s fun t =>
      t.moor.sent = some ⟨m.echo, none⟩ ∧ t.moor.flight = none) ∧
    (∀ e f, frameOk f = true → s.isOwn f = false → (f.typ ≠ 3 ∨ s.numbered = true) → Does (.slotArrival ⟨e, some f⟩) s fun t =>
      ∃ g, t.moor.sent = some ⟨m.echo, some g⟩ ∧ g.typ = f.typ ∧ g.src = f.src ∧ g.dst = f.dst ∧ g.crc = f.crc ∧
        g.mark = f.mark ∧ g.hops = min (f.hops + 1) 511 ∧ (f.typ ≠ 5 → g.pay = f.pay) ∧ t.moor.flight = m.flight ∧
        t.regs = s.regs) ∧
    (∀ e f, frameOk f = false → Does (.slotArrival ⟨e, some f⟩) s fun t =>
      (t.rd ML_ERRCNT).toNat = min ((s.rd ML_ERRCNT).toNat + 1) 0x3FFFF ∧
      ((s.rd ML_ERRLIM).toNat ≤ (m.errs.filter fun u => since s.tide.now u < 2000000).length + 1 →
        t.flag ML_EVT 1 = true ∧ (s.canRaise 0x29 = true → t.Raised 0x29)) ∧
      s.Only t [whole ML_ERRCNT, (ML_EVT, 1, 1)])) ∧
  (s.mlMode = mlRing → m.role ≠ .repeater → m.yields = false → m.dockA = false → m.dockB = false →
    (∀ e f, f.mark = true → Does (.slotStart (some ⟨e, some f⟩)) s fun t => t.moor.sent = some ⟨m.echo, none⟩) ∧
    (∀ e f, s.isOwn f = true → s.numbered = true → Does (.slotStart (some ⟨e, some f⟩)) s fun t =>
      t.moor.sent = some ⟨m.echo, none⟩ ∧ t.moor.flight = none) ∧
    (∀ e f, f.mark = false → s.isOwn f = false ∨ s.numbered = false → Does (.slotStart (some ⟨e, some f⟩)) s fun t =>
      ∃ g, t.moor.sent = some ⟨m.echo, some g⟩ ∧ g.mark = true ∧ g.typ = f.typ ∧ g.src = f.src ∧
        g.hops = min (f.hops + 1) 511 ∧ (f.typ ≠ 5 → g.pay = f.pay) ∧ (frameOk f = true → t.regs = s.regs))) ∧
  (s.mlMode = mlRing → m.role ≠ .repeater → m.yields = true → ∀ a, Does (.slotStart a) s fun t =>
    t.moor = { m with role := .repeater, yields := false } ∧ t.flag ML_STAT 7 = false)

/-- Breaks, chains and healing (R501 to R504): loss of carrier and HEAL enter CHAIN mode; a turn passes on what was heard through
the other port, unless that segment is dead, and sends relayed frames before own ones; the tail probes its dead port; ten
PROBEs in a row revive the head's port; the LOOP that comes back starts the return to RING 25 ms ahead. A docked port hears and
sends nothing (R72). -/
def Obligations.MooringChains : Prop := ∀ s : State,
  let m := s.moor
  (s.mlMode = mlRing → Does .carrierLoss s fun t => t.mlMode = mlChain ∧ t.flag ML_STAT 6 = true ∧ t.flag ML_EVT 3 = true ∧
    t.moor.sentHeal = m.sentHeal + b2n !m.dockB ∧ t.moor.ownA = m.ownA ++ m.out ∧ t.moor.ownB = m.ownB ++ m.out ∧ t.moor.out = [] ∧
    (s.canRaise 0x27 = true → t.Raised 0x27) ∧ s.Only t [(ML_STAT, 9, 8), (ML_STAT, 6, 6), (ML_EVT, 3, 3)]) ∧
  (s.mlMode = mlRing → m.dockA = false → Does .heal s fun t => t.mlMode = mlChain ∧ t.flag ML_EVT 3 = true ∧
    t.moor.sentHeal = m.sentHeal + b2n !m.dockB ∧ (s.canRaise 0x2A = true → t.Raised 0x2A) ∧
    s.Only t [(ML_STAT, 9, 8), (ML_EVT, 3, 3)]) ∧
  (s.mlMode = mlRing ∨ s.mlMode = mlChain → s.flag ML_STAT 5 = false → Does .portBDead s fun t =>
    t.flag ML_STAT 5 = true ∧ t.moor = m ∧ (s.canRaise 0x28 = true → t.Raised 0x28) ∧ s.Only t [(ML_STAT, 5, 5)]) ∧
  (∀ p h, s.portDocked p = true → exec (.chainTurn p h) s = .next s) ∧
  (m.dockA = true → (∀ f, exec (.probe f) s = .next s) ∧ (∀ f, exec (.loop f) s = .next s) ∧ exec .heal s = .next s) ∧
  (m.dockB = true → exec .probeTimer s = .next s) ∧
  (s.mlMode = mlChain → m.dockA = false → m.dockB = false →
    (∀ f r, m.outA = f :: r → Does (.chainTurn .a none) s fun t => t.moor.sent = some ⟨false, some f⟩ ∧ t.moor.outA = r ∧
      t.moor.ownA = m.ownA ∧ s.Only t [(ML_SEGDLYA, 11, 0)]) ∧
    (∀ f r, m.outB = f :: r → Does (.chainTurn .b none) s fun t => t.moor.sent = some ⟨false, some f⟩ ∧ t.moor.outB = r ∧
      t.flag ML_STAT 5 = false ∧ s.Only t [(ML_STAT, 5, 5), (ML_SEGDLYB, 11, 0)]) ∧
    (m.outA = [] → m.ownA = [] → Does (.chainTurn .a none) s fun t => ∃ g, t.moor.sent = some ⟨false, some g⟩ ∧ g.typ = 0) ∧
    (∀ f, frameOk f = true → f.typ ≠ 0 → f.typ ≠ 14 → ¬(f.src = s.node? ∧ s.numbered = true) →
      (s.flag ML_STAT 5 = false → Does (.chainTurn .a (some f)) s fun t => ∃ g, t.moor.outB = m.outB ++ [g] ∧
        g.typ = f.typ ∧ g.src = f.src ∧ g.crc = f.crc ∧ g.hops = min (f.hops + 1) 511 ∧ (f.typ ≠ 5 → g.pay = f.pay)) ∧
      (s.flag ML_STAT 5 = true → Does (.chainTurn .a (some f)) s fun t => t.moor.outB = m.outB) ∧
      (s.flag ML_STAT 6 = false → f.typ ≠ 13 → Does (.chainTurn .b (some f)) s fun t => ∃ g, t.moor.outA = m.outA ++ [g] ∧
        g.typ = f.typ ∧ g.src = f.src ∧ g.crc = f.crc ∧ g.hops = min (f.hops + 1) 511 ∧ (f.typ ≠ 5 → g.pay = f.pay)))) ∧
  (s.mlMode = mlChain → s.flag ML_STAT 5 = true → m.dockB = false → Does .probeTimer s fun t => t = { s with moor := t.moor } ∧
    ∃ g, t.moor = { m with sent := some ⟨false, some g⟩ } ∧ g.typ = 14) ∧
  (∀ f, s.mlMode = mlChain → s.flag ML_STAT 6 = true → m.dockA = false →
    (frameOk f = false → Does (.probe f) s fun t => t = { s with moor := { m with probes := 0 } }) ∧
    (frameOk f = true → m.probes < 10 → Does (.probe f) s fun t => t = { s with moor := { m with probes := m.probes + 1 } }) ∧
    (frameOk f = true → 10 ≤ m.probes → Does (.probe f) s fun t => t.flag ML_STAT 6 = false ∧ t.mlMode = mlChain ∧
      (∃ g, t.moor.sent = some ⟨false, some g⟩ ∧ g.typ = 0) ∧
      (s.maySend 13 = true → ∃ g, t.moor.ownB = m.ownB ++ [g] ∧ g.typ = 13) ∧ s.Only t [(ML_STAT, 6, 6)])) ∧
  (∀ f, s.mlMode = mlChain → m.dockA = false → frameOk f = true → s.numbered = true → f.src = s.node? → m.mute = false →
    Does (.loop f) s fun t => t.regs = s.regs ∧ t.moor.ringAt = some ((s.tide.now + 500000) % 2 ^ 54) ∧
      ∃ g, t.moor.ownA = m.ownA ++ [g] ∧ t.moor.ownB = m.ownB ++ [g] ∧ g.typ = 12 ∧
        ofWords g.pay = (s.tide.now + 500000) % 2 ^ 54) ∧
  (∀ f, s.mlMode = mlChain → frameOk f = true →
    (ofWords f.pay = (s.tide.now + 100000) % 2 ^ 54 → Does (.ring f) s fun t =>
      t = { s with moor := { m with ringAt := some (ofWords f.pay) } }) ∧
    (ofWords f.pay = s.tide.now → s.tide.now < 2 ^ 54 → Does (.ring f) s fun t => t.mlMode = mlRing)) ∧
  (s.mlMode = mlChain → m.ringAt ≠ none → Does .ringSwitch s fun t => t.mlMode = mlRing ∧ t.flag ML_EVT 4 = true ∧
    t.get ML_STAT 6 5 = 0 ∧ t.moor.ringAt = none ∧ t.moor.flight = none ∧
    s.Only t [(ML_STAT, 9, 8), (ML_STAT, 6, 5), (ML_EVT, 4, 4)])

/-- Anchor and node numbers (R496, R498 to R500): an anchor that hears a higher CLAIM yields, a lower one changes nothing; a
provisional anchor without a higher claim becomes the anchor; a number announced is taken, and one's own announced by another
is a conflict; in a roll-call a device takes the smallest free number at or above the one that it receives. A device that no frame
reaches, in BYPASS or with port A docked outside CHAIN, takes none. -/
def Obligations.AnchorAndNumbers : Prop := ∀ s : State,
  let m := s.moor
  (∀ f, s.deaf = true → exec (.claim f) s = .next s ∧ exec (.announce f) s = .next s ∧ exec (.rollFrame f) s = .next s ∧
    exec (.rolldone f) s = .next s) ∧
  (∀ f, frameOk f = true → s.deaf = false → f.src < 512 →
    let r : Rank := { timeok := (payWord f 0).getLsbD 3, apri := bits (payWord f 0) 2 0, uid := ofWords (f.pay.drop 1) }
    r.uid ≠ Config.uid → m.role ≠ .repeater →
    (r.above s.rank = false → exec (.claim f) s = .next s) ∧
    (r.above s.rank = true → Does (.claim f) s fun t => t.get ML_ANCHOR 11 0 = r.apri * 512 + f.src ∧
      t.moor.anchorRank = some r ∧ (s.mlMode = mlRing → t.moor.yields = true ∧ t.moor.role = m.role) ∧
      (s.mlMode ≠ mlRing → t.moor.role = .repeater ∧ t.flag ML_STAT 7 = false) ∧
      s.Only t [(ML_ANCHOR, 11, 0), (ML_STAT, 7, 7)])) ∧
  (s.get ML_CTL 17 15 ≠ 0 → m.role ≠ .repeater → s.mlMode = mlRing → m.mute = false → Does .claimTimer s fun t =>
    ∃ g, t = { s with moor := { m with out := m.out ++ [g] } } ∧ g.typ = 1) ∧
  (s.get ML_CTL 17 15 = 0 → exec .claimTimer s = .next s) ∧
  (m.role = .provisional → s.mlMode ≠ mlBypass → m.yields = false → Does .anchorElected s fun t =>
    t.flag ML_STAT 7 = true ∧ t.moor.role = .anchor ∧ s.Only t [(ML_STAT, 7, 7), (ML_ANCHOR, 11, 0)]) ∧
  (∀ f, frameOk f = true → s.deaf = false → ofWords (f.pay.drop 1) ≠ Config.uid → (payWord f 0).getLsbD 10 = false →
    ∀ k, k = bits (payWord f 0) 8 0 →
    Does (.announce f) s fun t => t.flag (ML_TAKEN0 + k / 18) (k % 18) = true ∧
      (s.numbered = false ∨ s.node? ≠ k → s.Only t [(ML_TAKEN0 + k / 18, k % 18, k % 18)] ∧ t.moor = m ∧ t.coll = s.coll) ∧
      (s.numbered = true → s.node? = k → t.flag ML_EVT 6 = true ∧ t.get ML_NODE 13 12 = 2 ∧
        (s.canRaise 0x2D = true → t.Raised 0x2D) ∧ (s.flag ML_NODE 14 = true → t.node? = k ∧ t.moor.mute = true) ∧
        (s.flag ML_NODE 14 = false → t.node? = 0))) ∧
  (s.mlMode = mlRing → Does .announceTimer s fun t => ∃ g, t = { s with moor := { m with out := m.out ++ [g] } } ∧ g.typ = 2) ∧
  (∀ k : Fin 512, Does (.takenExpiry k) s fun t => t.flag (ML_TAKEN0 + k.val / 18) (k.val % 18) = false ∧
    s.Only t [(ML_TAKEN0 + k.val / 18, k.val % 18, k.val % 18)] ∧ t.moor = m) ∧
  (s.flag ML_STAT 7 = false → exec (.roll 1) s = .next s) ∧
  (s.numbered = true → s.mlMode = mlRing → m.mute = false →
    (s.awake = true → s.flag ML_STAT 7 = true → s.hasMooring = true → Does (.roll 1) s fun t => t.flag ML_STAT 4 = true ∧
      ∃ g, t.moor = { m with out := m.out ++ [g] } ∧ g.typ = 3) ∧
    (m.role = .anchor → Does .rollCallStart s fun t => t.flag ML_STAT 4 = true ∧ s.Only t [(ML_STAT, 4, 4)] ∧
      ∃ g, t.moor = { m with out := m.out ++ [g] } ∧ g.typ = 3 ∧ g.pay = [0])) ∧
  (∀ f, frameOk f = true → s.mlMode = mlRing → s.deaf = false → m.mute = false →
    (s.numbered = true → f.src = s.node? → Does (.rollFrame f) s fun t => t.flag ML_STAT 4 = false ∧
      (∃ g, t.moor = { m with out := m.out ++ [g] } ∧ g.typ = 4) ∧ s.Only t [(ML_STAT, 4, 4)]) ∧
    (s.numbered = true → f.src ≠ s.node? → Does (.rollFrame f) s fun t => t.flag ML_STAT 4 = true ∧ t.moor = m ∧
      s.Only t [(ML_STAT, 4, 4)]) ∧
    (∀ k < 512, s.numbered = false → bits (payWord f 0) 9 0 ≤ k → s.flag (ML_TAKEN0 + k / 18) (k % 18) = false →
      (∀ j, bits (payWord f 0) 9 0 ≤ j → j < k → s.flag (ML_TAKEN0 + j / 18) (j % 18) = true) →
      Does (.rollFrame f) s fun t => t.node? = k ∧ t.get ML_NODE 13 12 = 1 ∧ t.flag ML_STAT 4 = true ∧
        (∃ g ∈ t.moor.out, g.typ = 3 ∧ g.pay = [BitVec.ofNat 18 (k + 1)]) ∧
        s.Only t [(ML_STAT, 4, 4), (ML_NODE, 13, 12), (ML_NODE, 8, 0)]) ∧
    (s.numbered = false → (∀ j < 512, s.flag (ML_TAKEN0 + j / 18) (j % 18) = true) → Does (.rollFrame f) s fun t =>
      t.flag ML_EVT 7 = true ∧ t.node? = s.node? ∧ (s.canRaise 0x2D = true → t.Raised 0x2D))) ∧
  (∀ f, frameOk f = true → s.deaf = false → Does (.rolldone f) s fun t => t.flag ML_STAT 4 = false ∧ s.Only t [(ML_STAT, 4, 4)] ∧ t.moor = m)

/-- Tide alignment (R506 to R510): the offset of a TIME frame is the signed difference of the local and the frame's tide time;
within ML_STEPLIM the rate is corrected, by what removes the drift since the previous frame and the offset over the next
ML_ALIGNINT, up to 1/1024 of the rate; beyond it the tide steps by all of it while no PWM unit is on; ALIGNED follows
ML_ALIGNLIM, and three frames in a row beyond it raise 0x2B. How the drift is estimated, and how the correction is rounded,
are the model's (log entry 13). -/
def Obligations.TideAlignment : Prop := ∀ s : State,
  let alignInt : Nat := (s.rd ML_ALIGNINT).toNat * 20000
  (s.mlMode = mlRing → Does .echoSlot s fun t => t = { s with moor := { s.moor with echo := true } }) ∧
  (∀ r, s.mlMode = mlRing → Does (.echoMeasured r) s fun t => t.get ML_SEGDLYB 11 0 = min (r / 2) 4095 ∧
    s.Only t [(ML_SEGDLYB, 11, 0)]) ∧
  (s.moor.role = .anchor → s.rank.timeok = true → s.mlMode = mlRing → s.numbered = true → s.moor.mute = false →
    Does .timePeriod s fun t => ∃ g, t = { s with moor := { s.moor with out := s.moor.out ++ [g] } } ∧ g.typ = 5) ∧
  (∀ (f : MFrame) (tick : Fin 256) (ofs : Int), s.deaf = false → frameOk f = true → s.flag ML_NODE 15 = true →
    ¬(s.numbered = true ∧ f.src = s.node?) → -2 ^ 61 ≤ ofs → ofs < 2 ^ 61 →
    ((s.tide.now * 256 + tick.val : Int) -
      (ofWords (f.pay.take 3) * 256 + bits (payWord f 3) 7 0 + ofWords (f.pay.drop 4)) - ofs) % 2 ^ 62 = 0 →
    Does (.time f tick) s fun t =>
      t.rd ML_OFS = wd (clampI ofs (-131072) 131071) ∧ t.flag ML_STAT 2 = false ∧
      t.flag ML_STAT 3 = decide (ofs.natAbs ≤ (s.rd ML_ALIGNLIM).toNat) ∧ s.Within t [.tide, .moor, .coll, .page 11, .free] ∧
      ((s.rd ML_ALIGNLIM).toNat < ofs.natAbs → 2 ≤ s.moor.farRun → s.moor.far = false → s.canRaise 0x2B = true → t.Raised 0x2B) ∧
      (ofs.natAbs ≤ (s.rd ML_STEPLIM).toNat ∨ (∃ n, s.bflag n BP_CTL 0 = true) ∨ s.moor.role = .anchor →
        ∃ x : Int, t.tide = { s.tide with
            corr := max (-16384) (min (s.tide.corr + x) 16384), lastOfs := some (ofs, s.tide.now) } ∧
          (0 < alignInt → s.tide.lastOfs = none → (x * alignInt + 65536 * ofs).natAbs < alignInt) ∧
          (∀ o t0, 0 < alignInt → s.tide.lastOfs = some (o, t0) → 0 < since s.tide.now t0 →
            (x * (since s.tide.now t0 * alignInt) + 65536 * ((ofs - o) * alignInt + ofs * since s.tide.now t0)).natAbs <
              since s.tide.now t0 * alignInt)) ∧
      ((s.rd ML_STEPLIM).toNat < ofs.natAbs → (∀ n, s.bflag n BP_CTL 0 = false) → s.moor.role ≠ .anchor →
        t.flag ML_EVT 5 = true ∧ t.tide.now < 2 ^ 54 ∧ t.tide.phase < 2 ^ 24 ∧ t.tide.corr = s.tide.corr ∧
        ((t.tide.now * 2 ^ 24 + t.tide.phase : Int) - (s.tide.now * 2 ^ 24 + s.tide.phase - ofs * 65536)) % 2 ^ 78 = 0)) ∧
  (s.mlMode ≠ mlBypass → s.flag ML_NODE 15 = true → Does .notime s fun t => t.flag ML_STAT 2 = true ∧ t.flag ML_STAT 3 = false ∧
    t.moor = { s.moor with alignedAt := none } ∧ s.Only t [(ML_STAT, 3, 2)])

/-- What the ring carries (R511 to R520): DEMAND frames of the owned channels, delivered to the own berths too; demand received
reaches every berth of its channel; a FAULT frame is taken once; ledger frames add up; an INTERLEAVE pair writes and strobes
the berth that it names, a pair for another node nothing. -/
def Obligations.RingTraffic : Prop := ∀ s : State,
  let m := s.moor
  (s.maySend 6 = true → s.mlMode = mlRing → Does .demsend s fun t => s.Within t (.moor :: berthList.map .berth) ∧
    (∀ c ∈ s.ownChannels, ∃ g ∈ t.moor.out, g.typ = 6 ∧ g.len ≤ 8 ∧ ∃ i, 1 ≤ i ∧ i < g.len ∧
      (payWord g 0).toNat + (i - 1) = c ∧ (payWord g i).toNat = s.get (ML_DEMV0 + c) 16 0) ∧
    ∀ n, (s.demSrc n = 3 → s.bget n BD_CTL 16 11 ∈ s.ownChannels →
      t.bget n BD_MDEM 16 0 = min (s.get (ML_DEMV0 + s.bget n BD_CTL 16 11) 16 0) 0x10000) ∧
      (s.demSrc n ≠ 3 → t.berth n = s.berth n)) ∧
  (∀ f n, frameOk f = true → s.deaf = false → ¬(s.numbered = true ∧ f.src = s.node?) → Does (.demand f) s fun t =>
    (∀ i, i + 1 < f.pay.length → s.demSrc n = 3 → s.bget n BD_CTL 16 11 = bits (payWord f 0) 5 0 + i →
      t.bget n BD_MDEM 16 0 = min (bits (payWord f (i + 1)) 16 0) 0x10000) ∧
    (s.demSrc n ≠ 3 → t.berth n = s.berth n ∧ t.brd n BD_MDEM = s.brd n BD_MDEM)) ∧
  (∀ f, frameOk f = true → s.deaf = false → s.flag ML_CTL 9 = true → ¬(s.numbered = true ∧ f.src = s.node?) →
    s.get ML_CTL 5 3 ≤ bits (payWord f 0) 10 8 →
    ∀ k, k = (f.src, bits (payWord f 0) 7 0, ofWords (f.pay.drop 1)) →
    (k ∈ m.taken → exec (.fault f) s = .next s) ∧
    (k ∉ m.taken → Does (.fault f) s fun t => t.moor = { m with taken := k :: m.taken } ∧ t.flag ML_EVT 0 = true ∧
      t.wide ML_FRXTS0 3 = ofWords (f.pay.drop 1) % 2 ^ 54 ∧ (s.canRaise 0x2C = true → t.Raised 0x2C) ∧
      s.Only t ((ML_EVT, 0, 0) :: [ML_FRXTS0, ML_FRXTS0 + 1, ML_FRXTS0 + 2, ML_FRXSRC, ML_FRXSRC2].map whole))) ∧
  (∀ f r, m.copies = f :: r → s.maySend 7 = true → s.mlMode = mlRing → Does .faultCopy s fun t =>
    ∃ g, t = { s with moor := { m with copies := r, out := m.out ++ [g] } } ∧ g.typ = 7 ∧ g.pay = f.pay) ∧
  (s.flag ML_CTL 13 = true → s.maySend 9 = true → s.mlMode = mlRing → Does .ledsend s fun t =>
    ∃ g, t = { s with moor := { m with out := m.out ++ [g], sums := s.ledgerSums, ledAt := s.tide.now } } ∧
      g.typ = 9 ∧ g.len = 8) ∧
  (s.flag ML_CTL 13 = false → exec .ledsend s = .next s) ∧
  (∀ f, frameOk f = true → s.deaf = false → s.flag ML_CTL 12 = true → Does (.ledger f) s fun t =>
    (∀ k < 3, t.wide (ML_REIN0 + 2 * k) 2 =
      (s.wide (ML_REIN0 + 2 * k) 2 + ofWords ((f.pay.drop (2 * k)).take 2)) % 2 ^ 36) ∧
    s.Only t ((List.range 6).map fun i => whole (ML_REIN0 + i)) ∧ t.moor = m) ∧
  (s.awake = true → s.hasMooring = true → s.ilvPairs ≠ [] → s.maySend 10 = true → s.mlMode = mlRing → Does (.ilvsend 16) s fun t =>
    ∃ g, t = { s with moor := { m with out := m.out ++ [g] } } ∧ g.typ = 10 ∧ g.pay = s.ilvPairs) ∧
  (s.ilvPairs = [] → exec (.ilvsend 16) s = .next s) ∧
  (∀ f n, frameOk f = true → f.len = 2 → s.deaf = false → s.numbered = true → f.src ≠ s.node? →
    (bits (payWord f 0) 8 0 ≠ s.node? → exec (.interleave f) s = .next s) ∧
    (bits (payWord f 0) 8 0 = s.node? → bits (payWord f 0) 12 9 = n.val → s.outOfUse n = false →
      Does (.interleave f) s fun t => t.brd n BP_PHASEOFS = payWord f 1 ∧ s.Within t [.berth n] ∧
        (s.bflag n BP_CTL 0 = true → t.bflag n BP_STAT 4 = true ∧ t.brd n BP_PHASEOFSA = s.brd n BP_PHASEOFSA) ∧
        (s.bflag n BP_CTL 0 = false → t.brd n BP_PHASEOFSA = payWord f 1))) ∧
  (s.flag ML_CTL 11 = true → s.numbered = true → s.mlMode ≠ mlBypass → Does .ilvautoOffset s fun t => ∀ n,
    (s.flag ML_ILVMASK n.val = true → s.outOfUse n = false → t.brd n BP_PHASEOFS =
      BitVec.ofNat 18 ((s.rd ML_ILVBASE).toNat + (s.node? * 12 + n.val) * (s.rd ML_ILVSTEP).toNat)) ∧
    (s.flag ML_ILVMASK n.val = false → t.berth n = s.berth n ∧ t.brd n BP_PHASEOFS = s.brd n BP_PHASEOFS)) ∧
  (s.awake = true → s.hasMooring = true → s.dev.bypassOpen = true → Does (.wake 2) s fun t =>
    t = { s with moor := { m with sentWake := m.sentWake + 1 } }) ∧
  (s.awake = true → s.writeFails .host [(ML_RLEDCLR, 1)] = none → Does (.mlRledclr 1) s fun t =>
    (∀ i < 6, t.rd (ML_REIN0 + i) = 0) ∧ s.Only t ((List.range 6).map fun i => whole (ML_REIN0 + i)) ∧ t.moor = m)

/-- Proposals (R526 to R528, R537, R538): an accepted one passes every check and changes no protection register; a refused one
leaves its code and raises 0xE7, and nothing else; a peer's records fill the receive buffer by index, its PROPOSE is checked
in the same way and answered by a RESULT frame. CSIGN frames sent and answered (R537, R539): SENDPROP sends the staged
records, three to a frame, and PROPOSE under the next PID; SENDCONF sends CS_CONF; WITHDRAW uses the PID of the last
SENDPROP; a RESULT frame of the peer goes into CS_TXRES. -/
def Obligations.CountersignProposals : Prop :=
  (∀ s : State,
    (∀ way l full, s.proposalFails way l full = none → s.csState = csIdle ∧ full = true ∧ l ≠ [] ∧ l.length ≤ 16 ∧
      (l.map (·.1)).Nodup ∧ (∀ r ∈ l, isProt r.1 = true) ∧ protectionOk (s.under (applyRecords s.prot l)) = true ∧
      (way = wayPeer → s.pflag CS_PEER 9 = true) ∧ (way = wayPilot → s.decl.pilot ≠ 0 ∧ s.flag CS_STAT 12 = false) ∧
      (s.pflag CS_SEAL 0 = true → way ≠ wayPilot → (look (applyRecords s.prot l) CS_SEAL).getLsbD 0 = true)) ∧
    (∀ v : Word, s.awake = true → s.writeFails .host [(CS_CMD, v)] = none → v.getLsbD 1 = true →
      (∀ c < 16, s.proposalFails (bits v 5 5) s.staged true = some c → Does (.propose v) s fun t =>
        t.get CS_STAT 11 8 = c ∧ t = { s with regs := t.regs, coll := t.coll } ∧ s.Only t [(CS_STAT, 11, 8)] ∧
        (s.canRaise 0xE7 = true → t.Raised 0xE7)) ∧
      (s.proposalFails (bits v 5 5) s.staged true = none → Does (.propose v) s fun t =>
        t.csState = csProposed ∧ t.csProposer = byHost ∧ t.csWay = bits v 5 5 ∧ t.get CS_STAT 11 8 = 0 ∧
        t = { s with regs := t.regs, cs := { s.cs with at_ := s.tide.now } } ∧
        s.Only t [(CS_STAT, 1, 0), (CS_STAT, 5, 4), (CS_STAT, 7, 6), (CS_STAT, 11, 8)])) ∧
    (∀ f, s.csTakes f 0 = true → Does (.csignRecords f) s fun t => t = { s with cs := t.cs } ∧
      t.cs.bufPid = some (csPid f) ∧ ∀ k < (f.len - 1) / 2, csIndex f + k < 16 →
        (t.cs.buf.find? fun r => r.1 == csIndex f + k).map (·.2) = some (bits (payWord f (1 + 2 * k)) 15 0, payWord f (2 + 2 * k))) ∧
    (∀ f, s.csTakes f 0 = false → exec (.csignRecords f) s = .next s) ∧
    (∀ f k, s.csTakes f 1 = true → k = bits (payWord f 1) 4 0 → s.mlMode = mlRing → s.moor.mute = false →
      (∀ c < 16, s.proposalFails wayHost (s.cs.records k) (s.csBuffered (csPid f) k) = some c → Does (.csignPropose f) s fun t =>
        t.get CS_STAT 11 8 = c ∧ s.Only t [(CS_STAT, 11, 8)] ∧ (s.canRaise 0xE7 = true → t.Raised 0xE7) ∧
        ∃ g, t.moor.out = s.moor.out ++ [g] ∧ g.typ = 8 ∧ g.dst = f.src ∧ csOp g = 4 ∧ csPid g = csPid f ∧
          (payWord g 1).toNat = c) ∧
      (s.proposalFails wayHost (s.cs.records k) (s.csBuffered (csPid f) k) = none → Does (.csignPropose f) s fun t =>
        t.csState = csProposed ∧ t.csProposer = byMoor ∧ t.staged = s.cs.records k ∧ t.cs.at_ = s.tide.now ∧
        s.Within t [.cs, .moor, .page 12] ∧
        ∃ g, t.moor.out = s.moor.out ++ [g] ∧ g.typ = 8 ∧ g.dst = f.src ∧ csOp g = 4 ∧ (payWord g 1).toNat = 0))) ∧
  (∀ s : State, s.maySend 8 = true → s.mlMode = mlRing →
    (s.awake = true → s.csState = csIdle → s.get CS_PCNT 4 0 ≤ 16 → Does (.sendprop 1) s fun t => t.regs = s.regs ∧
      t.cs = { s.cs with txPid := (s.cs.txPid + 1) % 128 } ∧ ∃ l g, t.moor.out = s.moor.out ++ l ++ [g] ∧
        l.length = (s.get CS_PCNT 4 0 + 2) / 3 ∧ (∀ f ∈ g :: l, f.typ = 8 ∧ f.dst = s.get CS_TXDST 8 0 ∧
          csPid f = (s.cs.txPid + 1) % 128) ∧ (∀ f ∈ l, csOp f = 0) ∧ csOp g = 1 ∧ (payWord g 1).toNat = s.get CS_PCNT 4 0 ∧
        ∀ k < s.get CS_PCNT 4 0, ∃ f ∈ l, csIndex f = k - k % 3 ∧
          (payWord f (1 + 2 * (k % 3))).toNat = s.get (CS_PADR0 + k) 15 0 ∧ payWord f (2 + 2 * (k % 3)) = s.rd (CS_PVAL0 + k)) ∧
    (s.csState ≠ csIdle → exec (.sendprop 1) s = .next s) ∧
    (s.awake = true → Does (.sendconf 2) s fun t => ∃ g, t = { s with moor := { s.moor with out := s.moor.out ++ [g] } } ∧
      g.typ = 8 ∧ g.dst = s.get CS_TXDST 8 0 ∧ csOp g = 2 ∧ csPid g = s.get CS_TXRES 14 8 ∧ payWord g 1 = s.rd CS_CONF0) ∧
    (s.awake = true → s.cs.txPid < 128 → Does (.txcmdWithdraw 4) s fun t =>
      ∃ g, t = { s with moor := { s.moor with out := s.moor.out ++ [g] } } ∧
      g.typ = 8 ∧ g.dst = s.get CS_TXDST 8 0 ∧ csOp g = 3 ∧ csPid g = s.cs.txPid) ∧
    (∀ f, s.csTakes f 4 = true → f.src = s.get CS_TXDST 8 0 → Does (.csignResult f) s fun t =>
      (t.rd CS_TXRES).toNat = 131072 + csPid f * 256 + bits (payWord f 1) 3 0 ∧ s.Only t [whole CS_TXRES] ∧
      t = { s with regs := t.regs }))

/-- Confirmation, withdrawal and application (R529 to R536): the matching second voice within 500 ms confirms, a wrong one, a
late one, a withdrawal and the time limits end the proposal with their codes; the eighth wrong pilot code locks; the
confirmed records take effect in one step at their safe point, and only then, where a short-circuit threshold waits for the
berth's next boundary. -/
def Obligations.SecondVoiceAndApplication : Prop := ∀ s : State,
  (∀ v : Word, s.awake = true → s.writeFails .host [(CS_CMD, v)] = none → v.getLsbD 1 = false →
    (v.getLsbD 2 = true →
      (s.csAwaits byMoor wayHost = false → exec (.confirm v) s = .next s) ∧
      (s.csAwaits byMoor wayHost = true → s.csWindowOver = false → s.csConf = s.digest → Does (.confirm v) s fun t =>
        t.csState = csConfirmed ∧ t = { s with regs := t.regs, cs := { s.cs with at_ := s.tide.now } } ∧
        s.Only t [(CS_STAT, 1, 0)]) ∧
      (s.csAwaits byMoor wayHost = true → s.csWindowOver = false → s.csConf ≠ s.digest → Does (.confirm v) s fun t =>
        s.ProposalEnded t 8 ∧ (s.canRaise 0xE7 = true → t.Raised 0xE7)) ∧
      (s.csAwaits byMoor wayHost = true → s.csWindowOver = true → Does (.confirm v) s fun t =>
        s.ProposalEnded t 9 ∧ (s.canRaise 0xE7 = true → t.Raised 0xE7))) ∧
    (v.getLsbD 2 = false → v.getLsbD 3 = true →
      (s.csAwaits byHost wayPilot = false → exec (.pilotconf v) s = .next s) ∧
      (s.csAwaits byHost wayPilot = true → s.csWindowOver = false → s.csConf = s.digest ^^^ s.decl.pilot →
        Does (.pilotconf v) s fun t => t.csState = csConfirmed ∧ s.Only t [(CS_STAT, 1, 0)]) ∧
      (s.csAwaits byHost wayPilot = true → s.csWindowOver = true → Does (.pilotconf v) s fun t =>
        s.ProposalEnded t 9 ∧ (s.canRaise 0xE7 = true → t.Raised 0xE7)) ∧
      (s.csAwaits byHost wayPilot = true → s.csWindowOver = false → s.csConf ≠ s.digest ^^^ s.decl.pilot →
        s.get CS_STAT 16 13 < 15 → Does (.pilotconf v) s fun t =>
          s.ProposalEnded t 8 ∧ t.get CS_STAT 16 13 = s.get CS_STAT 16 13 + 1 ∧
          (s.get CS_STAT 16 13 = 7 → t.flag CS_STAT 12 = true ∧ (s.canRaise 0xEC = true → t.Raised 0xEC)))) ∧
    (v.getLsbD 2 = false → v.getLsbD 3 = false → v.getLsbD 4 = true →
      (s.csState ≠ csIdle → s.csProposer = byHost → Does (.withdraw v) s fun t => s.ProposalEnded t 11) ∧
      (s.csState = csIdle ∨ s.csProposer ≠ byHost → exec (.withdraw v) s = .next s))) ∧
  (∀ f, s.csTakes f 2 = true → s.csAwaits byHost wayPeer = true → s.csWindowOver = true → Does (.csignConfirm f) s fun t =>
    s.ProposalEnded t 9 ∧ (s.canRaise 0xE7 = true → t.Raised 0xE7)) ∧
  (∀ f, s.csTakes f 2 = true → s.csAwaits byHost wayPeer = true → s.csWindowOver = false →
    ∀ c, c = (payWord f 1).toNat + 2 ^ 18 * bits (payWord f 2) 13 0 →
    (c = s.digest → Does (.csignConfirm f) s fun t => t.csState = csConfirmed ∧ s.Only t [(CS_STAT, 1, 0)]) ∧
    (c ≠ s.digest → Does (.csignConfirm f) s fun t => s.ProposalEnded t 8)) ∧
  (∀ f, s.csTakes f 3 = true → s.csState ≠ csIdle → s.csProposer = byMoor → csPid f = s.get CS_PNODE 15 9 →
    f.src = s.get CS_PNODE 8 0 → Does (.csignWithdraw f) s fun t => s.ProposalEnded t 11) ∧
  (s.csState = csProposed → Does .proposalWindowEnd s fun t => s.ProposalEnded t 9 ∧ (s.canRaise 0xE7 = true → t.Raised 0xE7)) ∧
  (s.csState = csConfirmed → Does .safePointTimeout s fun t => s.ProposalEnded t 10 ∧ (s.canRaise 0xE7 = true → t.Raised 0xE7)) ∧
  (s.csState = csConfirmed → s.staged.all s.safePoint = true → Does .application s fun t =>
    t.prot = applyRecords s.prot s.staged ∧ t.csState = csIdle ∧ t.get CS_STAT 11 8 = 1 ∧
    t.flag MF_STAT 9 = t.pflag CS_SEAL 0 ∧ (s.canRaise 0xE8 = true → t.Raised 0xE8) ∧ t.key = s.key ∧
    ∀ n, ((s.staged.all fun r => r.1 != ba n BG_SCTHR) = true → t.berth n = s.berth n) ∧
      ((s.staged.any fun r => r.1 == ba n BG_SCTHR) = true → t.berth n = { s.berth n with
        pwm := { (s.berth n).pwm with scFrom := some (s.tickOf n), scOld := s.scThr n } })) ∧
  (s.csState ≠ csConfirmed ∨ s.staged.all s.safePoint = false → exec .application s = .next s)

/-- DOCK (R440, R540 to R543, R549 to R551): a running berth unmoors, one at rest is in DRYDOCK at once, its host stream is held;
the spare replaces a docked lane; a switching tender stops first; the memory port and the link ports stop taking work; in
DRYDOCK the sequencer forces the phases, clears the counts and begins the calibration. A docked berth (R543): DRYDOCK entry
forces the phases by the short rule of R308, clears the counts, and the calibration runs once no switch is on; a berth that
is not docked or has had its entry is left alone. -/
def Obligations.Docking : Prop :=
  (∀ (s : State) (v : Word) (p : Part),
    s.awake = true → s.writeFails .host [(DD_CMD, v)] = none → bits v 17 15 = actDock → partOf (bits v 4 0) = some p →
    (∀ n, p = .berth n → Does (.dock v) s fun t =>
      (s.bst n = stRunning ∨ s.bst n = stStopping → t.bst n = stUnmooring) ∧
      (s.bst n ≠ stRunning → s.bst n ≠ stStopping → t.bst n = stDrydock ∧ (t.berth n).dockEntry = true) ∧
      (∀ k : Fin 12, t.host.held.getLsbD k.val = (decide (k = n) || s.host.held.getLsbD k.val)) ∧
      t.get DD_RES 1 0 = 1 ∧ s.Within t [.berth n, .host, .dock, .coll, .mem, .free, .page 10, .page 12]) ∧
    (∀ l, p = .lane l → Does (.dock v) s fun t => t.lane l = 3 ∧ t.get DD_RES 1 0 = 2 ∧
      (s.lane l = 0 → ∃ k, k ≠ l ∧ s.lane k = 1 ∧ t.lane k = 0) ∧ ∀ k, s.lane k ≠ 1 → k ≠ l → t.lane k = s.lane k) ∧
    (∀ u, p = .tender u → s.tdState u ≠ tdDocked → Does (.dock v) s fun t =>
      (s.tdState u = tdRamp ∨ s.tdState u = tdRegulating → t.tdState u = tdStopDelay ∧ (t.tender u).dockWait = true) ∧
      (s.tdState u ≠ tdRamp → s.tdState u ≠ tdRegulating → s.tdState u ≠ tdStopDelay → s.tdState u ≠ tdStopRamp →
        t.tdState u = tdDocked ∧ (t.tender u).hi = false ∧ (t.tender u).lo = false ∧ t.get DD_RES 1 0 = 2) ∧
      s.Within t [.tender u, .mem, .free, .page 10, .page 12]) ∧
    (p = .memory → s.mem.docked = false → Does (.dock v) s fun t => t.mem.docked = true ∧ t.logState = logDocked ∧
      t.mem.log.before = s.logState ∧ t.mem.queue.length ≥ s.mem.queue.length) ∧
    (p = .portA → Does (.dock v) s fun t => t.moor = { s.moor with dockA := true } ∧ t.get DD_RES 1 0 = 2) ∧
    (p = .portB → Does (.dock v) s fun t => t.moor = { s.moor with dockB := true } ∧ t.get DD_RES 1 0 = 2)) ∧
  (∀ (s : State) (n : Berth),
    (s.bst n = stDrydock → (s.berth n).dockEntry = true → Does (.drydockEntry n) s fun t =>
      t.bget n BP_FORCE 6 0 = (if s.shortsLow n then 0x6A else 0x7F) ∧ t.brd n BG_SCCNT = 0 ∧ t.brd n BG_BSCNT = 0 ∧
      (t.berth n).dockEntry = false ∧ t.get (DD_BSTAT0 + n.val) 2 0 = 3 ∧ t.flag (DD_BSTAT0 + n.val) 9 = false ∧
      (s.shortsLow n = false → s.inService = true → s.bflag n BP_TRIP 6 = false → s.halted = false →
        (∀ p, (t.leg n p).hi = false ∧ (t.leg n p).lo = false) ∧ t.bflag n BS_SENSE 13 = true) ∧
      s.Within t [.berth n, .coll, .dock, .page 12]) ∧
    (s.bst n ≠ stDrydock ∨ (s.berth n).dockEntry = false → exec (.drydockEntry n) s = .next s))

/-- UNDOCK and the sea trial (R541, R546, R547, R549 to R551): a berth goes to SEA TRIAL with no force, a lane to its self-test,
a tender to OFF or, with EN 1, to START DELAY, the memory port back to the state that it held; a failed trial returns the
berth to DRYDOCK with EN and FEN 0, a passed one ends the hold of its stream. Self-test, reload and CANCELQ (R231, R440, R541,
R544, R545): a self-test reports the channels whose corrected result of an injected level lies more than 1 % from its code, or
STPASS; a reload reads its slot, one whose image fails a check changes neither the part nor the declarations, one that passes takes the section into force without touching another berth; CANCELQ fails every
waiting entry of the held stream with CANCELLED and fences it; a DD_CMD write that a rule forbids changes nothing. -/
def Obligations.DrydockWork : Prop :=
  (∀ s : State,
    (∀ (v : Word) (p : Part), s.awake = true → s.writeFails .host [(DD_CMD, v)] = none → bits v 17 15 = actUndock →
      partOf (bits v 4 0) = some p →
      (∀ n, p = .berth n → Does (.undock v) s fun t => t.bst n = stSeaTrial ∧ t.bflag n BP_FORCE 6 = false ∧
        t.get (DD_BSTAT0 + n.val) 2 0 = 6 ∧ t.host = s.host) ∧
      (∀ l, p = .lane l → Does (.undock v) s fun t => t.lane l = 2 ∧ t.dock.undock.getLsbD l.val = true ∧
        ∀ k, k ≠ l → t.lane k = s.lane k) ∧
      (∀ u, p = .tender u → (s.tender u).dockWait = false → Does (.undock v) s fun t =>
        t.tdState u = (if s.tflag u TD_CTL 0 then tdStartDelay else tdOff) ∧ s.Within t [.tender u, .mem, .free, .page 10, .page 12]) ∧
      (p = .memory → s.mem.log.off = false → s.mem.log.before = logReady → Does (.undock v) s fun t => t.mem.docked = false ∧
        t.logState = logReady) ∧
      (p = .portA → Does (.undock v) s fun t => t.moor = { s.moor with dockA := false }) ∧
      (p = .portB → Does (.undock v) s fun t => t.moor = { s.moor with dockB := false })) ∧
    (∀ n, s.bst n = stSeaTrial → Does (.seaTrialFail n) s fun t => t.bst n = stDrydock ∧ t.bflag n BP_CTL 0 = false ∧
      t.bflag n BP_FORCE 6 = false ∧ t.get (DD_BSTAT0 + n.val) 2 0 = 2 ∧ t.get DD_RES 1 0 = 3 ∧ t.host = s.host ∧
      (s.canRaise 0xE9 = true → t.Raised 0xE9) ∧
      s.Within t [.berth n, .coll, .dock, .mem, .free, .page 10, .page 12]) ∧
    (∀ n, s.bst n = stSeaTrial → s.bflag n BP_TRIP 6 = false → Does (.seaTrialEnd n) s fun t =>
      t.bst n = (if (s.berth n).start.closed then stRunning else if s.starting n then stStarting else stStopped) ∧
      (∀ k : Fin 12, t.host.held.getLsbD k.val = (decide (k ≠ n) && s.host.held.getLsbD k.val)) ∧
      t.get (DD_BSTAT0 + n.val) 2 0 = 0 ∧ s.Within t [.berth n, .host, .mem, .free, .page 10, .page 12]) ∧
    (∀ n, s.bst n ≠ stSeaTrial → exec (.seaTrialFail n) s = .next s ∧ exec (.seaTrialEnd n) s = .next s)) ∧
  (∀ s : State,
    (∀ (v : Word) (p : Part), s.awake = true → s.writeFails .host [(DD_CMD, v)] = none → partOf (bits v 4 0) = some p →
      (bits v 17 15 = actSelftest → Does (.selftest v) s fun t => p ∈ t.dock.selftests ∧ t.get DD_RES 1 0 = 1 ∧
        (∀ n, p = .berth n → t.get (DD_BSTAT0 + n.val) 2 0 = 4)) ∧
      (bits v 17 15 = actReload → Does (.reload v) s fun t => t.dock = { s.dock with reload := some (p, bits v 14 13) } ∧
        t.get DD_RES 1 0 = 1 ∧ t.load.got = [] ∧ loaderRead .reload (bits v 14 13) 168 ∈ t.mem.queue ++ t.mem.wait ∧ (∀ n, p = .berth n → t.get (DD_BSTAT0 + n.val) 2 0 = 5)) ∧
      (∀ n, bits v 17 15 = actCancelq → p = .berth n → Does (.cancelq v) s fun t =>
        (∀ (k : Nat) (e : HEntry), s.host.queue[k]? = some e → t.host.queue[k]? = some
          (if e.stream = n.val ∧ e.phase = .waiting then { e with phase := .done, status := 4, reads := [] } else e)) ∧
        t.host.queue.length = s.host.queue.length ∧ t.host.fenced.getLsbD n.val = true ∧ t.host.held.getLsbD n.val = false ∧
        (∀ k : Fin 12, k ≠ n → t.host.held.getLsbD k.val = s.host.held.getLsbD k.val ∧
          t.host.fenced.getLsbD k.val = s.host.fenced.getLsbD k.val) ∧ t.get DD_RES 1 0 = 2)) ∧
    (∀ v : Word, s.ddCommandFails v = true → exec (.dock v) s = .next s ∧ exec (.undock v) s = .next s ∧
      exec (.selftest v) s = .next s ∧ exec (.reload v) s = .next s ∧ exec (.cancelq v) s = .next s) ∧
    (∀ p r, s.testing p = true → Does (.selftestDone p r) s fun t =>
      t.dock.selftests = s.dock.selftests.erase p ∧
      (∀ n, p = .berth n → t.get (DD_BSTAT0 + n.val) 2 0 = 2 ∧ (s.failedChannels n r = 0 → t.flag (DD_BSTAT0 + n.val) 9 = true) ∧
        ∀ x : Phase, t.flag (DD_BSTAT0 + n.val) (3 + x.idx) =
            (testFails (r.hi.i.get x) (s.bint n (BS_OFSIU + x.idx)) 65536 ||
              testFails (r.lo.i.get x) (s.bint n (BS_OFSIU + x.idx)) (-65536)) ∧
          t.flag (DD_BSTAT0 + n.val) (6 + x.idx) =
            (testFails (r.hi.v.get x) (s.bint n (BS_OFSVU + x.idx)) 65536 ||
              testFails (r.lo.v.get x) (s.bint n (BS_OFSVU + x.idx)) 16384)) ∧
      (∀ l, p = .lane l → r.pass = false → t.lane l = 4) ∧
      (s.testPasses p r = false → s.canRaise 0xEB = true → t.Raised 0xEB) ∧
      s.Within t [.coll, .dock, .mem, .free, .page 10, .page 12, .page 14]) ∧
    (∀ p r, s.testing p = false → exec (.selftestDone p r) s = .next s) ∧
    (∀ (p : Part) (slot : Nat), s.dock.reload = some (p, slot) →
      (∀ b r, s.image .reload = some b → r = s.reloadCheck p b →
        (r.1 ≠ 1 → r.1 < 16 → Does .reloadDone s fun t => t.dock = { s.dock with reload := none } ∧
          t.get DD_RELCODE 3 0 = r.1 ∧ (s.canRaise 0xEA = true → t.Raised 0xEA) ∧
          s.Within t [.coll, .dock, .mem, .free, .page 10, .page 12]) ∧
        (∀ n, p = .berth n → r.1 = 1 → Does .reloadDone s fun t => t.dock.reload = none ∧ t.load.decl = some r.2.1 ∧
          t.get DD_RELCODE 3 0 = 1 ∧ ∀ m, m ≠ n → t.berth m = s.berth m)) ∧
      (s.load.lost = true → Does .reloadDone s fun t => t.dock = { s.dock with reload := none } ∧
        2 ≤ t.get DD_RELCODE 3 0 ∧ t.get DD_RELCODE 3 0 ≤ 13 ∧ (s.canRaise 0xEA = true → t.Raised 0xEA)) ∧
      (s.load.lost = false → s.inMem (· == .reload) = true → exec .reloadDone s = .next s)) ∧
    (∀ p image, s.pflag CS_SEAL 0 = true → sealedImage image = false → (s.reloadCheck p image).1 ≠ 1) ∧
    (s.dock.reload = none → exec .reloadDone s = .next s))
end

