-- ==== Sys2Proof/Laws/Regs.lean ====
section
/-! SUPPORT. Laws of fields and of the sparse register lists: reading back what was written, leaving everything else alone,
and keeping the canonical form. -/

namespace Sys2Proof.Machine

/-! ### Fields of a word -/

/-- A bit of a field is a bit of its word. -/
theorem testBit_bits (w : Word) (hi lo j : Nat) :
    (bits w hi lo).testBit j = (decide (j < hi + 1 - lo) && w.toNat.testBit (lo + j)) := by
  simp [bits, Nat.testBit_mod_two_pow, Nat.testBit_div_two_pow, Nat.add_comm]

/-- A field's value fits its width. -/
theorem bits_lt (w : Word) (hi lo : Nat) : bits w hi lo < 2 ^ (hi + 1 - lo) := Nat.mod_lt _ (by positivity)

/-- The number that a replaced field leaves. -/
theorem putBits_toNat (w : Word) (hi lo v : Nat) (h : hi < 18) (hl : lo ≤ hi) :
    (putBits w hi lo v).toNat = 2 ^ lo * (2 ^ (hi + 1 - lo) * (w.toNat / 2 ^ lo / 2 ^ (hi + 1 - lo)) + v % 2 ^ (hi + 1 - lo)) +
      w.toNat % 2 ^ lo := by
  have hw := w.isLt
  have e1 := Nat.div_add_mod w.toNat (2 ^ lo)
  have e2 := Nat.div_add_mod (w.toNat / 2 ^ lo) (2 ^ (hi + 1 - lo))
  have hx : v % 2 ^ (hi + 1 - lo) < 2 ^ (hi + 1 - lo) := Nat.mod_lt _ (by positivity)
  have hm : w.toNat % 2 ^ lo < 2 ^ lo := Nat.mod_lt _ (by positivity)
  have hp : 2 ^ lo * 2 ^ (hi + 1 - lo) = 2 ^ (hi + 1) := by rw [← pow_add]; congr 1; omega
  have hq : 2 ^ (hi + 1) * 2 ^ (18 - (hi + 1)) = 2 ^ 18 := by rw [← pow_add]; congr 1; omega
  generalize hL : 2 ^ lo = L at *
  generalize hK : 2 ^ (hi + 1 - lo) = K at *
  generalize hM : 2 ^ (18 - (hi + 1)) = M at *
  generalize hn : w.toNat = n at *
  generalize hx' : v % K = x at *
  generalize hm' : n % L = m at *
  generalize hd : n / L = d at *
  generalize hc : d % K = c at *
  have hqd : d / K < M := by
    apply Nat.div_lt_of_lt_mul
    rw [← hd]
    apply Nat.div_lt_of_lt_mul
    rw [← Nat.mul_assoc, hp, hq]
    exact hw
  generalize hq' : d / K = q at *
  have hval : n - c * L + x * L = L * (K * q + x) + m := by
    have : n = L * (K * q) + c * L + m := by rw [← e1, ← e2]; ring
    have h2 : n - c * L = L * (K * q) + m := by omega
    rw [h2]; ring
  have hlt : L * (K * q + x) + m < 2 ^ 18 := by
    have h1 : K * q + x + 1 ≤ K * M := by nlinarith
    have h2 : L * (K * q + x) + m + 1 ≤ L * (K * q + x + 1) := by nlinarith
    have h3 : L * (K * q + x + 1) ≤ L * (K * M) := Nat.mul_le_mul_left _ h1
    rw [← Nat.mul_assoc L K M, hp, hq] at h3
    omega
  simp only [putBits, bits, hL, hK, hn, hd, hc, hx', BitVec.toNat_ofNat]
  rw [hval, Nat.mod_eq_of_lt hlt]

/-- A bit of a word with a field replaced. -/
theorem testBit_putBits (w : Word) (hi lo v i : Nat) (h : hi < 18) (hl : lo ≤ hi) :
    (putBits w hi lo v).toNat.testBit i = if lo ≤ i ∧ i ≤ hi then v.testBit (i - lo) else w.toNat.testBit i := by
  rw [putBits_toNat w hi lo v h hl, Nat.testBit_two_pow_mul_add _ (Nat.mod_lt _ (by positivity)),
    Nat.testBit_two_pow_mul_add _ (Nat.mod_lt _ (by positivity))]
  by_cases h1 : i < lo
  · rw [if_pos h1, if_neg (by omega)]
    simp [Nat.testBit_mod_two_pow, h1]
  · rw [if_neg h1]
    by_cases h2 : i - lo < hi + 1 - lo
    · rw [if_pos h2, if_pos (by omega)]
      simp [Nat.testBit_mod_two_pow, h2]
    · rw [if_neg h2, if_neg (by omega)]
      simp only [Nat.testBit_div_two_pow]
      congr 1; omega

/-- A replaced field reads as what was put, modulo its width. -/
theorem bits_putBits_same (w : Word) (hi lo v : Nat) (h : hi < 18) (hl : lo ≤ hi) :
    bits (putBits w hi lo v) hi lo = v % 2 ^ (hi + 1 - lo) := by
  apply Nat.eq_of_testBit_eq
  intro i
  rw [testBit_bits, testBit_putBits _ _ _ _ _ h hl, Nat.testBit_mod_two_pow]
  by_cases hi' : i < hi + 1 - lo
  · rw [if_pos (by omega)]; simp [hi']
  · simp [hi']

/-- Replacing a field leaves every field apart from it as it was. -/
theorem bits_putBits_ne (w : Word) (hi lo v h l : Nat) (hh : hi < 18) (hl : lo ≤ hi) (hd : h < lo ∨ hi < l) :
    bits (putBits w hi lo v) h l = bits w h l := by
  apply Nat.eq_of_testBit_eq
  intro i
  rw [testBit_bits, testBit_bits, testBit_putBits _ _ _ _ _ hh hl]
  by_cases hi' : i < h + 1 - l
  · rw [if_neg (by omega)]
  · simp [hi']

/-! ### Sparse register lists -/

theorem look_dropReg_same (m : List (Nat × Word)) (a : Nat) : look (dropReg m a) a = resetWord a := by
  induction m with
  | nil => rfl
  | cons p r ih =>
    by_cases h : p.1 = a
    · simpa [dropReg, h] using ih
    · have h' : ¬ a = p.1 := fun e => h e.symm
      simpa [dropReg, look, h, h'] using ih

theorem look_dropReg_ne (m : List (Nat × Word)) (a b : Nat) (h : b ≠ a) : look (dropReg m a) b = look m b := by
  induction m with
  | nil => rfl
  | cons p r ih =>
    by_cases hp : p.1 = a
    · have : ¬ b = p.1 := fun e => h (e.trans hp)
      simpa [dropReg, look, hp, this, h] using ih
    · by_cases hb : b = p.1
      · simp [dropReg, look, hp, hb]
      · simpa [dropReg, look, hp, hb] using ih

theorem look_insertReg_same (m : List (Nat × Word)) (a : Nat) (w : Word) (h : ∀ p ∈ m, p.1 ≠ a) :
    look (insertReg m a w) a = w := by
  induction m with
  | nil => simp [insertReg, look]
  | cons p r ih =>
    have hp : ¬ a = p.1 := fun e => h p (List.mem_cons_self ..) e.symm
    unfold insertReg
    split
    · simp [look]
    · simpa [look, hp] using ih fun q hq => h q (List.mem_cons_of_mem _ hq)

theorem look_insertReg_ne (m : List (Nat × Word)) (a b : Nat) (w : Word) (h : b ≠ a) :
    look (insertReg m a w) b = look m b := by
  induction m with
  | nil => simp [insertReg, look, h]
  | cons p r ih =>
    unfold insertReg
    split
    · simp [look, h]
    · by_cases hb : b = p.1
      · simp [look, hb]
      · simpa [look, hb] using ih

/-- A written register reads as what was written. -/
theorem look_store_same (m : List (Nat × Word)) (a : Nat) (w : Word) : look (store m a w) a = w := by
  unfold store
  split
  · rename_i h; rw [look_dropReg_same, h]
  · exact look_insertReg_same _ _ _ fun p hp => by simpa [dropReg] using (List.mem_filter.1 hp).2

/-- A write leaves every other register as it was. -/
theorem look_store_ne (m : List (Nat × Word)) (a b : Nat) (w : Word) (h : b ≠ a) : look (store m a w) b = look m b := by
  unfold store
  split
  · exact look_dropReg_ne _ _ _ h
  · rw [look_insertReg_ne _ _ _ _ h, look_dropReg_ne _ _ _ h]

/-- A read after a write. -/
theorem look_store (m : List (Nat × Word)) (a b : Nat) (w : Word) :
    look (store m a w) b = if b = a then w else look m b := by
  split
  · rename_i h; rw [h, look_store_same]
  · rename_i h; exact look_store_ne _ _ _ _ h

/-! ### The canonical form -/

theorem regsWf_iff (m : List (Nat × Word)) :
    regsWf m = true ↔ m.Pairwise (fun p q => p.1 < q.1) ∧ ∀ p ∈ m, p.2 ≠ resetWord p.1 := by
  simp [regsWf, List.all_eq_true]

theorem regsWf_dropReg (m : List (Nat × Word)) (a : Nat) (h : regsWf m = true) : regsWf (dropReg m a) = true := by
  rw [regsWf_iff] at *
  exact ⟨h.1.filter _, fun p hp => h.2 p (List.mem_filter.1 hp).1⟩

theorem mem_insertReg (m : List (Nat × Word)) (a : Nat) (w : Word) (p : Nat × Word) :
    p ∈ insertReg m a w ↔ p = (a, w) ∨ p ∈ m := by
  induction m with
  | nil => simp [insertReg]
  | cons q r ih =>
    unfold insertReg
    split
    · simp
    · simp only [List.mem_cons, ih]; tauto

theorem pairwise_insertReg (m : List (Nat × Word)) (a : Nat) (w : Word) (h : m.Pairwise fun p q => p.1 < q.1)
    (ha : ∀ p ∈ m, p.1 ≠ a) : (insertReg m a w).Pairwise fun p q => p.1 < q.1 := by
  induction m with
  | nil => simp [insertReg]
  | cons q r ih =>
    have hr := List.pairwise_cons.1 h
    unfold insertReg
    split
    · rename_i hlt
      refine List.pairwise_cons.2 ⟨fun p hp => ?_, h⟩
      rcases List.mem_cons.1 hp with rfl | hp
      · exact hlt
      · exact lt_trans hlt (hr.1 p hp)
    · rename_i hge
      refine List.pairwise_cons.2 ⟨fun p hp => ?_, ih hr.2 fun p hp => ha p (List.mem_cons_of_mem _ hp)⟩
      rcases (mem_insertReg _ _ _ _).1 hp with rfl | hp
      · have := ha q (List.mem_cons_self ..)
        simp only at *; omega
      · exact hr.1 p hp

/-- A write keeps the canonical form. -/
theorem regsWf_store (m : List (Nat × Word)) (a : Nat) (w : Word) (h : regsWf m = true) : regsWf (store m a w) = true := by
  unfold store
  split
  · exact regsWf_dropReg m a h
  · rename_i hw
    have hd := (regsWf_iff _).1 (regsWf_dropReg m a h)
    have hne : ∀ p ∈ dropReg m a, p.1 ≠ a := fun p hp => by simpa [dropReg] using (List.mem_filter.1 hp).2
    refine (regsWf_iff _).2 ⟨pairwise_insertReg _ _ _ hd.1 hne, fun p hp => ?_⟩
    rcases (mem_insertReg _ _ _ _).1 hp with rfl | hp
    · exact hw
    · exact hd.2 p hp

/-- Two canonical lists that read the same everywhere are the same list. -/
theorem regs_ext (m m' : List (Nat × Word)) (h : regsWf m = true) (h' : regsWf m' = true)
    (e : ∀ a, look m a = look m' a) : m = m' := by
  have mem : ∀ (l : List (Nat × Word)), regsWf l = true → ∀ p, p ∈ l ↔ (look l p.1 = p.2 ∧ p.2 ≠ resetWord p.1) := by
    intro l hl p
    rw [regsWf_iff] at hl
    induction l with
    | nil => simp only [List.not_mem_nil, look, false_iff, not_and, not_not]; intro h; exact h.symm
    | cons q r ih =>
      have hq := List.pairwise_cons.1 hl.1
      have ih' := ih ⟨hq.2, fun x hx => hl.2 x (List.mem_cons_of_mem _ hx)⟩
      by_cases hp : p.1 = q.1
      · simp only [look, hp, if_true, List.mem_cons]
        constructor
        · rintro (rfl | hr)
          · exact ⟨rfl, hl.2 p (List.mem_cons_self ..)⟩
          · exact absurd hp (by have := hq.1 p hr; omega)
        · rintro ⟨h1, h2⟩; left; exact Prod.ext hp h1.symm
      · simp only [look, hp, if_false, List.mem_cons]
        rw [← ih']
        constructor
        · rintro (rfl | hr)
          · exact absurd rfl hp
          · exact hr
        · exact Or.inr
  have h1 := (regsWf_iff _).1 h
  have h2 := (regsWf_iff _).1 h'
  have nd : ∀ l : List (Nat × Word), l.Pairwise (fun p q => p.1 < q.1) → l.Nodup := fun l hl =>
    hl.imp fun {a b} hab he => absurd (congrArg Prod.fst he) (by omega)
  have perm : m.Perm m' := (List.perm_ext_iff_of_nodup (nd _ h1.1) (nd _ h2.1)).2 fun p => by rw [mem m h, mem m' h', e]
  exact perm.eq_of_pairwise (le := fun p q : Nat × Word => p.1 < q.1)
    (fun a b _ _ hab hba => absurd hab (by omega)) h1.1 h2.1

end Sys2Proof.Machine
end

