-- ==== Sys2Proof/Laws/State.lean ====
section
/-! SUPPORT. One lemma for each field under each primitive update of State: what a primitive writes, and that every other
field stands. -/

namespace Sys2Proof.Machine

variable (s : State)

/-! ### `wr` -/

@[simp] theorem State.wr_regs (a : Nat) (w : Word) : (s.wr a w).regs = store s.regs a w := rfl
@[simp] theorem State.wr_prot (a : Nat) (w : Word) : (s.wr a w).prot = s.prot := rfl
@[simp] theorem State.wr_key (a : Nat) (w : Word) : (s.wr a w).key = s.key := rfl
@[simp] theorem State.wr_dev (a : Nat) (w : Word) : (s.wr a w).dev = s.dev := rfl
@[simp] theorem State.wr_load (a : Nat) (w : Word) : (s.wr a w).load = s.load := rfl
@[simp] theorem State.wr_tide (a : Nat) (w : Word) : (s.wr a w).tide = s.tide := rfl
@[simp] theorem State.wr_berths (a : Nat) (w : Word) : (s.wr a w).berths = s.berths := rfl
@[simp] theorem State.wr_north (a : Nat) (w : Word) : (s.wr a w).north = s.north := rfl
@[simp] theorem State.wr_south (a : Nat) (w : Word) : (s.wr a w).south = s.south := rfl
@[simp] theorem State.wr_tenders (a : Nat) (w : Word) : (s.wr a w).tenders = s.tenders := rfl
@[simp] theorem State.wr_stripUv (a : Nat) (w : Word) : (s.wr a w).stripUv = s.stripUv := rfl
@[simp] theorem State.wr_therm (a : Nat) (w : Word) : (s.wr a w).therm = s.therm := rfl
@[simp] theorem State.wr_coll (a : Nat) (w : Word) : (s.wr a w).coll = s.coll := rfl
@[simp] theorem State.wr_host (a : Nat) (w : Word) : (s.wr a w).host = s.host := rfl
@[simp] theorem State.wr_mem (a : Nat) (w : Word) : (s.wr a w).mem = s.mem := rfl
@[simp] theorem State.wr_moor (a : Nat) (w : Word) : (s.wr a w).moor = s.moor := rfl
@[simp] theorem State.wr_cs (a : Nat) (w : Word) : (s.wr a w).cs = s.cs := rfl
@[simp] theorem State.wr_dock (a : Nat) (w : Word) : (s.wr a w).dock = s.dock := rfl
@[simp] theorem State.wr_access (a : Nat) (w : Word) : (s.wr a w).access = s.access := rfl
@[simp] theorem State.wr_free (a : Nat) (w : Word) : (s.wr a w).free = s.free := rfl
@[simp] theorem State.wr_pending (a : Nat) (w : Word) : (s.wr a w).pending = s.pending := rfl

/-! ### `pwr` -/

@[simp] theorem State.pwr_regs (a : Nat) (w : Word) : (s.pwr a w).regs = s.regs := rfl
@[simp] theorem State.pwr_prot (a : Nat) (w : Word) : (s.pwr a w).prot = store s.prot a w := rfl
@[simp] theorem State.pwr_key (a : Nat) (w : Word) : (s.pwr a w).key = s.key := rfl
@[simp] theorem State.pwr_dev (a : Nat) (w : Word) : (s.pwr a w).dev = s.dev := rfl
@[simp] theorem State.pwr_load (a : Nat) (w : Word) : (s.pwr a w).load = s.load := rfl
@[simp] theorem State.pwr_tide (a : Nat) (w : Word) : (s.pwr a w).tide = s.tide := rfl
@[simp] theorem State.pwr_berths (a : Nat) (w : Word) : (s.pwr a w).berths = s.berths := rfl
@[simp] theorem State.pwr_north (a : Nat) (w : Word) : (s.pwr a w).north = s.north := rfl
@[simp] theorem State.pwr_south (a : Nat) (w : Word) : (s.pwr a w).south = s.south := rfl
@[simp] theorem State.pwr_tenders (a : Nat) (w : Word) : (s.pwr a w).tenders = s.tenders := rfl
@[simp] theorem State.pwr_stripUv (a : Nat) (w : Word) : (s.pwr a w).stripUv = s.stripUv := rfl
@[simp] theorem State.pwr_therm (a : Nat) (w : Word) : (s.pwr a w).therm = s.therm := rfl
@[simp] theorem State.pwr_coll (a : Nat) (w : Word) : (s.pwr a w).coll = s.coll := rfl
@[simp] theorem State.pwr_host (a : Nat) (w : Word) : (s.pwr a w).host = s.host := rfl
@[simp] theorem State.pwr_mem (a : Nat) (w : Word) : (s.pwr a w).mem = s.mem := rfl
@[simp] theorem State.pwr_moor (a : Nat) (w : Word) : (s.pwr a w).moor = s.moor := rfl
@[simp] theorem State.pwr_cs (a : Nat) (w : Word) : (s.pwr a w).cs = s.cs := rfl
@[simp] theorem State.pwr_dock (a : Nat) (w : Word) : (s.pwr a w).dock = s.dock := rfl
@[simp] theorem State.pwr_access (a : Nat) (w : Word) : (s.pwr a w).access = s.access := rfl
@[simp] theorem State.pwr_free (a : Nat) (w : Word) : (s.pwr a w).free = s.free := rfl
@[simp] theorem State.pwr_pending (a : Nat) (w : Word) : (s.pwr a w).pending = s.pending := rfl

/-! ### `modBerth` -/

@[simp] theorem State.modBerth_regs (n : Berth) (f : BerthSt → BerthSt) : (s.modBerth n f).regs = s.regs := rfl
@[simp] theorem State.modBerth_prot (n : Berth) (f : BerthSt → BerthSt) : (s.modBerth n f).prot = s.prot := rfl
@[simp] theorem State.modBerth_key (n : Berth) (f : BerthSt → BerthSt) : (s.modBerth n f).key = s.key := rfl
@[simp] theorem State.modBerth_dev (n : Berth) (f : BerthSt → BerthSt) : (s.modBerth n f).dev = s.dev := rfl
@[simp] theorem State.modBerth_load (n : Berth) (f : BerthSt → BerthSt) : (s.modBerth n f).load = s.load := rfl
@[simp] theorem State.modBerth_tide (n : Berth) (f : BerthSt → BerthSt) : (s.modBerth n f).tide = s.tide := rfl
@[simp] theorem State.modBerth_berths (n : Berth) (f : BerthSt → BerthSt) : (s.modBerth n f).berths = s.berths.set n (f (s.berth n)) := rfl
@[simp] theorem State.modBerth_north (n : Berth) (f : BerthSt → BerthSt) : (s.modBerth n f).north = s.north := rfl
@[simp] theorem State.modBerth_south (n : Berth) (f : BerthSt → BerthSt) : (s.modBerth n f).south = s.south := rfl
@[simp] theorem State.modBerth_tenders (n : Berth) (f : BerthSt → BerthSt) : (s.modBerth n f).tenders = s.tenders := rfl
@[simp] theorem State.modBerth_stripUv (n : Berth) (f : BerthSt → BerthSt) : (s.modBerth n f).stripUv = s.stripUv := rfl
@[simp] theorem State.modBerth_therm (n : Berth) (f : BerthSt → BerthSt) : (s.modBerth n f).therm = s.therm := rfl
@[simp] theorem State.modBerth_coll (n : Berth) (f : BerthSt → BerthSt) : (s.modBerth n f).coll = s.coll := rfl
@[simp] theorem State.modBerth_host (n : Berth) (f : BerthSt → BerthSt) : (s.modBerth n f).host = s.host := rfl
@[simp] theorem State.modBerth_mem (n : Berth) (f : BerthSt → BerthSt) : (s.modBerth n f).mem = s.mem := rfl
@[simp] theorem State.modBerth_moor (n : Berth) (f : BerthSt → BerthSt) : (s.modBerth n f).moor = s.moor := rfl
@[simp] theorem State.modBerth_cs (n : Berth) (f : BerthSt → BerthSt) : (s.modBerth n f).cs = s.cs := rfl
@[simp] theorem State.modBerth_dock (n : Berth) (f : BerthSt → BerthSt) : (s.modBerth n f).dock = s.dock := rfl
@[simp] theorem State.modBerth_access (n : Berth) (f : BerthSt → BerthSt) : (s.modBerth n f).access = s.access := rfl
@[simp] theorem State.modBerth_free (n : Berth) (f : BerthSt → BerthSt) : (s.modBerth n f).free = s.free := rfl
@[simp] theorem State.modBerth_pending (n : Berth) (f : BerthSt → BerthSt) : (s.modBerth n f).pending = s.pending := rfl

/-! ### `modTender` -/

@[simp] theorem State.modTender_regs (t : Tender) (f : TenderSt → TenderSt) : (s.modTender t f).regs = s.regs := rfl
@[simp] theorem State.modTender_prot (t : Tender) (f : TenderSt → TenderSt) : (s.modTender t f).prot = s.prot := rfl
@[simp] theorem State.modTender_key (t : Tender) (f : TenderSt → TenderSt) : (s.modTender t f).key = s.key := rfl
@[simp] theorem State.modTender_dev (t : Tender) (f : TenderSt → TenderSt) : (s.modTender t f).dev = s.dev := rfl
@[simp] theorem State.modTender_load (t : Tender) (f : TenderSt → TenderSt) : (s.modTender t f).load = s.load := rfl
@[simp] theorem State.modTender_tide (t : Tender) (f : TenderSt → TenderSt) : (s.modTender t f).tide = s.tide := rfl
@[simp] theorem State.modTender_berths (t : Tender) (f : TenderSt → TenderSt) : (s.modTender t f).berths = s.berths := rfl
@[simp] theorem State.modTender_north (t : Tender) (f : TenderSt → TenderSt) : (s.modTender t f).north = s.north := rfl
@[simp] theorem State.modTender_south (t : Tender) (f : TenderSt → TenderSt) : (s.modTender t f).south = s.south := rfl
@[simp] theorem State.modTender_tenders (t : Tender) (f : TenderSt → TenderSt) : (s.modTender t f).tenders = s.tenders.set t (f (s.tender t)) := rfl
@[simp] theorem State.modTender_stripUv (t : Tender) (f : TenderSt → TenderSt) : (s.modTender t f).stripUv = s.stripUv := rfl
@[simp] theorem State.modTender_therm (t : Tender) (f : TenderSt → TenderSt) : (s.modTender t f).therm = s.therm := rfl
@[simp] theorem State.modTender_coll (t : Tender) (f : TenderSt → TenderSt) : (s.modTender t f).coll = s.coll := rfl
@[simp] theorem State.modTender_host (t : Tender) (f : TenderSt → TenderSt) : (s.modTender t f).host = s.host := rfl
@[simp] theorem State.modTender_mem (t : Tender) (f : TenderSt → TenderSt) : (s.modTender t f).mem = s.mem := rfl
@[simp] theorem State.modTender_moor (t : Tender) (f : TenderSt → TenderSt) : (s.modTender t f).moor = s.moor := rfl
@[simp] theorem State.modTender_cs (t : Tender) (f : TenderSt → TenderSt) : (s.modTender t f).cs = s.cs := rfl
@[simp] theorem State.modTender_dock (t : Tender) (f : TenderSt → TenderSt) : (s.modTender t f).dock = s.dock := rfl
@[simp] theorem State.modTender_access (t : Tender) (f : TenderSt → TenderSt) : (s.modTender t f).access = s.access := rfl
@[simp] theorem State.modTender_free (t : Tender) (f : TenderSt → TenderSt) : (s.modTender t f).free = s.free := rfl
@[simp] theorem State.modTender_pending (t : Tender) (f : TenderSt → TenderSt) : (s.modTender t f).pending = s.pending := rfl

/-! ### `modDev` -/

@[simp] theorem State.modDev_regs (f : DevSt → DevSt) : (s.modDev f).regs = s.regs := rfl
@[simp] theorem State.modDev_prot (f : DevSt → DevSt) : (s.modDev f).prot = s.prot := rfl
@[simp] theorem State.modDev_key (f : DevSt → DevSt) : (s.modDev f).key = s.key := rfl
@[simp] theorem State.modDev_dev (f : DevSt → DevSt) : (s.modDev f).dev = f s.dev := rfl
@[simp] theorem State.modDev_load (f : DevSt → DevSt) : (s.modDev f).load = s.load := rfl
@[simp] theorem State.modDev_tide (f : DevSt → DevSt) : (s.modDev f).tide = s.tide := rfl
@[simp] theorem State.modDev_berths (f : DevSt → DevSt) : (s.modDev f).berths = s.berths := rfl
@[simp] theorem State.modDev_north (f : DevSt → DevSt) : (s.modDev f).north = s.north := rfl
@[simp] theorem State.modDev_south (f : DevSt → DevSt) : (s.modDev f).south = s.south := rfl
@[simp] theorem State.modDev_tenders (f : DevSt → DevSt) : (s.modDev f).tenders = s.tenders := rfl
@[simp] theorem State.modDev_stripUv (f : DevSt → DevSt) : (s.modDev f).stripUv = s.stripUv := rfl
@[simp] theorem State.modDev_therm (f : DevSt → DevSt) : (s.modDev f).therm = s.therm := rfl
@[simp] theorem State.modDev_coll (f : DevSt → DevSt) : (s.modDev f).coll = s.coll := rfl
@[simp] theorem State.modDev_host (f : DevSt → DevSt) : (s.modDev f).host = s.host := rfl
@[simp] theorem State.modDev_mem (f : DevSt → DevSt) : (s.modDev f).mem = s.mem := rfl
@[simp] theorem State.modDev_moor (f : DevSt → DevSt) : (s.modDev f).moor = s.moor := rfl
@[simp] theorem State.modDev_cs (f : DevSt → DevSt) : (s.modDev f).cs = s.cs := rfl
@[simp] theorem State.modDev_dock (f : DevSt → DevSt) : (s.modDev f).dock = s.dock := rfl
@[simp] theorem State.modDev_access (f : DevSt → DevSt) : (s.modDev f).access = s.access := rfl
@[simp] theorem State.modDev_free (f : DevSt → DevSt) : (s.modDev f).free = s.free := rfl
@[simp] theorem State.modDev_pending (f : DevSt → DevSt) : (s.modDev f).pending = s.pending := rfl

/-! ### `modTide` -/

@[simp] theorem State.modTide_regs (f : TideSt → TideSt) : (s.modTide f).regs = s.regs := rfl
@[simp] theorem State.modTide_prot (f : TideSt → TideSt) : (s.modTide f).prot = s.prot := rfl
@[simp] theorem State.modTide_key (f : TideSt → TideSt) : (s.modTide f).key = s.key := rfl
@[simp] theorem State.modTide_dev (f : TideSt → TideSt) : (s.modTide f).dev = s.dev := rfl
@[simp] theorem State.modTide_load (f : TideSt → TideSt) : (s.modTide f).load = s.load := rfl
@[simp] theorem State.modTide_tide (f : TideSt → TideSt) : (s.modTide f).tide = f s.tide := rfl
@[simp] theorem State.modTide_berths (f : TideSt → TideSt) : (s.modTide f).berths = s.berths := rfl
@[simp] theorem State.modTide_north (f : TideSt → TideSt) : (s.modTide f).north = s.north := rfl
@[simp] theorem State.modTide_south (f : TideSt → TideSt) : (s.modTide f).south = s.south := rfl
@[simp] theorem State.modTide_tenders (f : TideSt → TideSt) : (s.modTide f).tenders = s.tenders := rfl
@[simp] theorem State.modTide_stripUv (f : TideSt → TideSt) : (s.modTide f).stripUv = s.stripUv := rfl
@[simp] theorem State.modTide_therm (f : TideSt → TideSt) : (s.modTide f).therm = s.therm := rfl
@[simp] theorem State.modTide_coll (f : TideSt → TideSt) : (s.modTide f).coll = s.coll := rfl
@[simp] theorem State.modTide_host (f : TideSt → TideSt) : (s.modTide f).host = s.host := rfl
@[simp] theorem State.modTide_mem (f : TideSt → TideSt) : (s.modTide f).mem = s.mem := rfl
@[simp] theorem State.modTide_moor (f : TideSt → TideSt) : (s.modTide f).moor = s.moor := rfl
@[simp] theorem State.modTide_cs (f : TideSt → TideSt) : (s.modTide f).cs = s.cs := rfl
@[simp] theorem State.modTide_dock (f : TideSt → TideSt) : (s.modTide f).dock = s.dock := rfl
@[simp] theorem State.modTide_access (f : TideSt → TideSt) : (s.modTide f).access = s.access := rfl
@[simp] theorem State.modTide_free (f : TideSt → TideSt) : (s.modTide f).free = s.free := rfl
@[simp] theorem State.modTide_pending (f : TideSt → TideSt) : (s.modTide f).pending = s.pending := rfl

/-! ### `modColl` -/

@[simp] theorem State.modColl_regs (f : CollSt → CollSt) : (s.modColl f).regs = s.regs := rfl
@[simp] theorem State.modColl_prot (f : CollSt → CollSt) : (s.modColl f).prot = s.prot := rfl
@[simp] theorem State.modColl_key (f : CollSt → CollSt) : (s.modColl f).key = s.key := rfl
@[simp] theorem State.modColl_dev (f : CollSt → CollSt) : (s.modColl f).dev = s.dev := rfl
@[simp] theorem State.modColl_load (f : CollSt → CollSt) : (s.modColl f).load = s.load := rfl
@[simp] theorem State.modColl_tide (f : CollSt → CollSt) : (s.modColl f).tide = s.tide := rfl
@[simp] theorem State.modColl_berths (f : CollSt → CollSt) : (s.modColl f).berths = s.berths := rfl
@[simp] theorem State.modColl_north (f : CollSt → CollSt) : (s.modColl f).north = s.north := rfl
@[simp] theorem State.modColl_south (f : CollSt → CollSt) : (s.modColl f).south = s.south := rfl
@[simp] theorem State.modColl_tenders (f : CollSt → CollSt) : (s.modColl f).tenders = s.tenders := rfl
@[simp] theorem State.modColl_stripUv (f : CollSt → CollSt) : (s.modColl f).stripUv = s.stripUv := rfl
@[simp] theorem State.modColl_therm (f : CollSt → CollSt) : (s.modColl f).therm = s.therm := rfl
@[simp] theorem State.modColl_coll (f : CollSt → CollSt) : (s.modColl f).coll = f s.coll := rfl
@[simp] theorem State.modColl_host (f : CollSt → CollSt) : (s.modColl f).host = s.host := rfl
@[simp] theorem State.modColl_mem (f : CollSt → CollSt) : (s.modColl f).mem = s.mem := rfl
@[simp] theorem State.modColl_moor (f : CollSt → CollSt) : (s.modColl f).moor = s.moor := rfl
@[simp] theorem State.modColl_cs (f : CollSt → CollSt) : (s.modColl f).cs = s.cs := rfl
@[simp] theorem State.modColl_dock (f : CollSt → CollSt) : (s.modColl f).dock = s.dock := rfl
@[simp] theorem State.modColl_access (f : CollSt → CollSt) : (s.modColl f).access = s.access := rfl
@[simp] theorem State.modColl_free (f : CollSt → CollSt) : (s.modColl f).free = s.free := rfl
@[simp] theorem State.modColl_pending (f : CollSt → CollSt) : (s.modColl f).pending = s.pending := rfl

/-! ### `modHost` -/

@[simp] theorem State.modHost_regs (f : HostSt → HostSt) : (s.modHost f).regs = s.regs := rfl
@[simp] theorem State.modHost_prot (f : HostSt → HostSt) : (s.modHost f).prot = s.prot := rfl
@[simp] theorem State.modHost_key (f : HostSt → HostSt) : (s.modHost f).key = s.key := rfl
@[simp] theorem State.modHost_dev (f : HostSt → HostSt) : (s.modHost f).dev = s.dev := rfl
@[simp] theorem State.modHost_load (f : HostSt → HostSt) : (s.modHost f).load = s.load := rfl
@[simp] theorem State.modHost_tide (f : HostSt → HostSt) : (s.modHost f).tide = s.tide := rfl
@[simp] theorem State.modHost_berths (f : HostSt → HostSt) : (s.modHost f).berths = s.berths := rfl
@[simp] theorem State.modHost_north (f : HostSt → HostSt) : (s.modHost f).north = s.north := rfl
@[simp] theorem State.modHost_south (f : HostSt → HostSt) : (s.modHost f).south = s.south := rfl
@[simp] theorem State.modHost_tenders (f : HostSt → HostSt) : (s.modHost f).tenders = s.tenders := rfl
@[simp] theorem State.modHost_stripUv (f : HostSt → HostSt) : (s.modHost f).stripUv = s.stripUv := rfl
@[simp] theorem State.modHost_therm (f : HostSt → HostSt) : (s.modHost f).therm = s.therm := rfl
@[simp] theorem State.modHost_coll (f : HostSt → HostSt) : (s.modHost f).coll = s.coll := rfl
@[simp] theorem State.modHost_host (f : HostSt → HostSt) : (s.modHost f).host = f s.host := rfl
@[simp] theorem State.modHost_mem (f : HostSt → HostSt) : (s.modHost f).mem = s.mem := rfl
@[simp] theorem State.modHost_moor (f : HostSt → HostSt) : (s.modHost f).moor = s.moor := rfl
@[simp] theorem State.modHost_cs (f : HostSt → HostSt) : (s.modHost f).cs = s.cs := rfl
@[simp] theorem State.modHost_dock (f : HostSt → HostSt) : (s.modHost f).dock = s.dock := rfl
@[simp] theorem State.modHost_access (f : HostSt → HostSt) : (s.modHost f).access = s.access := rfl
@[simp] theorem State.modHost_free (f : HostSt → HostSt) : (s.modHost f).free = s.free := rfl
@[simp] theorem State.modHost_pending (f : HostSt → HostSt) : (s.modHost f).pending = s.pending := rfl

/-! ### `modMem` -/

@[simp] theorem State.modMem_regs (f : MemSt → MemSt) : (s.modMem f).regs = s.regs := rfl
@[simp] theorem State.modMem_prot (f : MemSt → MemSt) : (s.modMem f).prot = s.prot := rfl
@[simp] theorem State.modMem_key (f : MemSt → MemSt) : (s.modMem f).key = s.key := rfl
@[simp] theorem State.modMem_dev (f : MemSt → MemSt) : (s.modMem f).dev = s.dev := rfl
@[simp] theorem State.modMem_load (f : MemSt → MemSt) : (s.modMem f).load = s.load := rfl
@[simp] theorem State.modMem_tide (f : MemSt → MemSt) : (s.modMem f).tide = s.tide := rfl
@[simp] theorem State.modMem_berths (f : MemSt → MemSt) : (s.modMem f).berths = s.berths := rfl
@[simp] theorem State.modMem_north (f : MemSt → MemSt) : (s.modMem f).north = s.north := rfl
@[simp] theorem State.modMem_south (f : MemSt → MemSt) : (s.modMem f).south = s.south := rfl
@[simp] theorem State.modMem_tenders (f : MemSt → MemSt) : (s.modMem f).tenders = s.tenders := rfl
@[simp] theorem State.modMem_stripUv (f : MemSt → MemSt) : (s.modMem f).stripUv = s.stripUv := rfl
@[simp] theorem State.modMem_therm (f : MemSt → MemSt) : (s.modMem f).therm = s.therm := rfl
@[simp] theorem State.modMem_coll (f : MemSt → MemSt) : (s.modMem f).coll = s.coll := rfl
@[simp] theorem State.modMem_host (f : MemSt → MemSt) : (s.modMem f).host = s.host := rfl
@[simp] theorem State.modMem_mem (f : MemSt → MemSt) : (s.modMem f).mem = f s.mem := rfl
@[simp] theorem State.modMem_moor (f : MemSt → MemSt) : (s.modMem f).moor = s.moor := rfl
@[simp] theorem State.modMem_cs (f : MemSt → MemSt) : (s.modMem f).cs = s.cs := rfl
@[simp] theorem State.modMem_dock (f : MemSt → MemSt) : (s.modMem f).dock = s.dock := rfl
@[simp] theorem State.modMem_access (f : MemSt → MemSt) : (s.modMem f).access = s.access := rfl
@[simp] theorem State.modMem_free (f : MemSt → MemSt) : (s.modMem f).free = s.free := rfl
@[simp] theorem State.modMem_pending (f : MemSt → MemSt) : (s.modMem f).pending = s.pending := rfl

/-! ### `modMoor` -/

@[simp] theorem State.modMoor_regs (f : MoorSt → MoorSt) : (s.modMoor f).regs = s.regs := rfl
@[simp] theorem State.modMoor_prot (f : MoorSt → MoorSt) : (s.modMoor f).prot = s.prot := rfl
@[simp] theorem State.modMoor_key (f : MoorSt → MoorSt) : (s.modMoor f).key = s.key := rfl
@[simp] theorem State.modMoor_dev (f : MoorSt → MoorSt) : (s.modMoor f).dev = s.dev := rfl
@[simp] theorem State.modMoor_load (f : MoorSt → MoorSt) : (s.modMoor f).load = s.load := rfl
@[simp] theorem State.modMoor_tide (f : MoorSt → MoorSt) : (s.modMoor f).tide = s.tide := rfl
@[simp] theorem State.modMoor_berths (f : MoorSt → MoorSt) : (s.modMoor f).berths = s.berths := rfl
@[simp] theorem State.modMoor_north (f : MoorSt → MoorSt) : (s.modMoor f).north = s.north := rfl
@[simp] theorem State.modMoor_south (f : MoorSt → MoorSt) : (s.modMoor f).south = s.south := rfl
@[simp] theorem State.modMoor_tenders (f : MoorSt → MoorSt) : (s.modMoor f).tenders = s.tenders := rfl
@[simp] theorem State.modMoor_stripUv (f : MoorSt → MoorSt) : (s.modMoor f).stripUv = s.stripUv := rfl
@[simp] theorem State.modMoor_therm (f : MoorSt → MoorSt) : (s.modMoor f).therm = s.therm := rfl
@[simp] theorem State.modMoor_coll (f : MoorSt → MoorSt) : (s.modMoor f).coll = s.coll := rfl
@[simp] theorem State.modMoor_host (f : MoorSt → MoorSt) : (s.modMoor f).host = s.host := rfl
@[simp] theorem State.modMoor_mem (f : MoorSt → MoorSt) : (s.modMoor f).mem = s.mem := rfl
@[simp] theorem State.modMoor_moor (f : MoorSt → MoorSt) : (s.modMoor f).moor = f s.moor := rfl
@[simp] theorem State.modMoor_cs (f : MoorSt → MoorSt) : (s.modMoor f).cs = s.cs := rfl
@[simp] theorem State.modMoor_dock (f : MoorSt → MoorSt) : (s.modMoor f).dock = s.dock := rfl
@[simp] theorem State.modMoor_access (f : MoorSt → MoorSt) : (s.modMoor f).access = s.access := rfl
@[simp] theorem State.modMoor_free (f : MoorSt → MoorSt) : (s.modMoor f).free = s.free := rfl
@[simp] theorem State.modMoor_pending (f : MoorSt → MoorSt) : (s.modMoor f).pending = s.pending := rfl

/-! ### `modCs` -/

@[simp] theorem State.modCs_regs (f : CsSt → CsSt) : (s.modCs f).regs = s.regs := rfl
@[simp] theorem State.modCs_prot (f : CsSt → CsSt) : (s.modCs f).prot = s.prot := rfl
@[simp] theorem State.modCs_key (f : CsSt → CsSt) : (s.modCs f).key = s.key := rfl
@[simp] theorem State.modCs_dev (f : CsSt → CsSt) : (s.modCs f).dev = s.dev := rfl
@[simp] theorem State.modCs_load (f : CsSt → CsSt) : (s.modCs f).load = s.load := rfl
@[simp] theorem State.modCs_tide (f : CsSt → CsSt) : (s.modCs f).tide = s.tide := rfl
@[simp] theorem State.modCs_berths (f : CsSt → CsSt) : (s.modCs f).berths = s.berths := rfl
@[simp] theorem State.modCs_north (f : CsSt → CsSt) : (s.modCs f).north = s.north := rfl
@[simp] theorem State.modCs_south (f : CsSt → CsSt) : (s.modCs f).south = s.south := rfl
@[simp] theorem State.modCs_tenders (f : CsSt → CsSt) : (s.modCs f).tenders = s.tenders := rfl
@[simp] theorem State.modCs_stripUv (f : CsSt → CsSt) : (s.modCs f).stripUv = s.stripUv := rfl
@[simp] theorem State.modCs_therm (f : CsSt → CsSt) : (s.modCs f).therm = s.therm := rfl
@[simp] theorem State.modCs_coll (f : CsSt → CsSt) : (s.modCs f).coll = s.coll := rfl
@[simp] theorem State.modCs_host (f : CsSt → CsSt) : (s.modCs f).host = s.host := rfl
@[simp] theorem State.modCs_mem (f : CsSt → CsSt) : (s.modCs f).mem = s.mem := rfl
@[simp] theorem State.modCs_moor (f : CsSt → CsSt) : (s.modCs f).moor = s.moor := rfl
@[simp] theorem State.modCs_cs (f : CsSt → CsSt) : (s.modCs f).cs = f s.cs := rfl
@[simp] theorem State.modCs_dock (f : CsSt → CsSt) : (s.modCs f).dock = s.dock := rfl
@[simp] theorem State.modCs_access (f : CsSt → CsSt) : (s.modCs f).access = s.access := rfl
@[simp] theorem State.modCs_free (f : CsSt → CsSt) : (s.modCs f).free = s.free := rfl
@[simp] theorem State.modCs_pending (f : CsSt → CsSt) : (s.modCs f).pending = s.pending := rfl

/-! ### `modDock` -/

@[simp] theorem State.modDock_regs (f : DockSt → DockSt) : (s.modDock f).regs = s.regs := rfl
@[simp] theorem State.modDock_prot (f : DockSt → DockSt) : (s.modDock f).prot = s.prot := rfl
@[simp] theorem State.modDock_key (f : DockSt → DockSt) : (s.modDock f).key = s.key := rfl
@[simp] theorem State.modDock_dev (f : DockSt → DockSt) : (s.modDock f).dev = s.dev := rfl
@[simp] theorem State.modDock_load (f : DockSt → DockSt) : (s.modDock f).load = s.load := rfl
@[simp] theorem State.modDock_tide (f : DockSt → DockSt) : (s.modDock f).tide = s.tide := rfl
@[simp] theorem State.modDock_berths (f : DockSt → DockSt) : (s.modDock f).berths = s.berths := rfl
@[simp] theorem State.modDock_north (f : DockSt → DockSt) : (s.modDock f).north = s.north := rfl
@[simp] theorem State.modDock_south (f : DockSt → DockSt) : (s.modDock f).south = s.south := rfl
@[simp] theorem State.modDock_tenders (f : DockSt → DockSt) : (s.modDock f).tenders = s.tenders := rfl
@[simp] theorem State.modDock_stripUv (f : DockSt → DockSt) : (s.modDock f).stripUv = s.stripUv := rfl
@[simp] theorem State.modDock_therm (f : DockSt → DockSt) : (s.modDock f).therm = s.therm := rfl
@[simp] theorem State.modDock_coll (f : DockSt → DockSt) : (s.modDock f).coll = s.coll := rfl
@[simp] theorem State.modDock_host (f : DockSt → DockSt) : (s.modDock f).host = s.host := rfl
@[simp] theorem State.modDock_mem (f : DockSt → DockSt) : (s.modDock f).mem = s.mem := rfl
@[simp] theorem State.modDock_moor (f : DockSt → DockSt) : (s.modDock f).moor = s.moor := rfl
@[simp] theorem State.modDock_cs (f : DockSt → DockSt) : (s.modDock f).cs = s.cs := rfl
@[simp] theorem State.modDock_dock (f : DockSt → DockSt) : (s.modDock f).dock = f s.dock := rfl
@[simp] theorem State.modDock_access (f : DockSt → DockSt) : (s.modDock f).access = s.access := rfl
@[simp] theorem State.modDock_free (f : DockSt → DockSt) : (s.modDock f).free = s.free := rfl
@[simp] theorem State.modDock_pending (f : DockSt → DockSt) : (s.modDock f).pending = s.pending := rfl

/-! ### `modTherm` -/

@[simp] theorem State.modTherm_regs (f : ThermSt → ThermSt) : (s.modTherm f).regs = s.regs := rfl
@[simp] theorem State.modTherm_prot (f : ThermSt → ThermSt) : (s.modTherm f).prot = s.prot := rfl
@[simp] theorem State.modTherm_key (f : ThermSt → ThermSt) : (s.modTherm f).key = s.key := rfl
@[simp] theorem State.modTherm_dev (f : ThermSt → ThermSt) : (s.modTherm f).dev = s.dev := rfl
@[simp] theorem State.modTherm_load (f : ThermSt → ThermSt) : (s.modTherm f).load = s.load := rfl
@[simp] theorem State.modTherm_tide (f : ThermSt → ThermSt) : (s.modTherm f).tide = s.tide := rfl
@[simp] theorem State.modTherm_berths (f : ThermSt → ThermSt) : (s.modTherm f).berths = s.berths := rfl
@[simp] theorem State.modTherm_north (f : ThermSt → ThermSt) : (s.modTherm f).north = s.north := rfl
@[simp] theorem State.modTherm_south (f : ThermSt → ThermSt) : (s.modTherm f).south = s.south := rfl
@[simp] theorem State.modTherm_tenders (f : ThermSt → ThermSt) : (s.modTherm f).tenders = s.tenders := rfl
@[simp] theorem State.modTherm_stripUv (f : ThermSt → ThermSt) : (s.modTherm f).stripUv = s.stripUv := rfl
@[simp] theorem State.modTherm_therm (f : ThermSt → ThermSt) : (s.modTherm f).therm = f s.therm := rfl
@[simp] theorem State.modTherm_coll (f : ThermSt → ThermSt) : (s.modTherm f).coll = s.coll := rfl
@[simp] theorem State.modTherm_host (f : ThermSt → ThermSt) : (s.modTherm f).host = s.host := rfl
@[simp] theorem State.modTherm_mem (f : ThermSt → ThermSt) : (s.modTherm f).mem = s.mem := rfl
@[simp] theorem State.modTherm_moor (f : ThermSt → ThermSt) : (s.modTherm f).moor = s.moor := rfl
@[simp] theorem State.modTherm_cs (f : ThermSt → ThermSt) : (s.modTherm f).cs = s.cs := rfl
@[simp] theorem State.modTherm_dock (f : ThermSt → ThermSt) : (s.modTherm f).dock = s.dock := rfl
@[simp] theorem State.modTherm_access (f : ThermSt → ThermSt) : (s.modTherm f).access = s.access := rfl
@[simp] theorem State.modTherm_free (f : ThermSt → ThermSt) : (s.modTherm f).free = s.free := rfl
@[simp] theorem State.modTherm_pending (f : ThermSt → ThermSt) : (s.modTherm f).pending = s.pending := rfl

/-! ### `modLoad` -/

@[simp] theorem State.modLoad_regs (f : LoadSt → LoadSt) : (s.modLoad f).regs = s.regs := rfl
@[simp] theorem State.modLoad_prot (f : LoadSt → LoadSt) : (s.modLoad f).prot = s.prot := rfl
@[simp] theorem State.modLoad_key (f : LoadSt → LoadSt) : (s.modLoad f).key = s.key := rfl
@[simp] theorem State.modLoad_dev (f : LoadSt → LoadSt) : (s.modLoad f).dev = s.dev := rfl
@[simp] theorem State.modLoad_load (f : LoadSt → LoadSt) : (s.modLoad f).load = f s.load := rfl
@[simp] theorem State.modLoad_tide (f : LoadSt → LoadSt) : (s.modLoad f).tide = s.tide := rfl
@[simp] theorem State.modLoad_berths (f : LoadSt → LoadSt) : (s.modLoad f).berths = s.berths := rfl
@[simp] theorem State.modLoad_north (f : LoadSt → LoadSt) : (s.modLoad f).north = s.north := rfl
@[simp] theorem State.modLoad_south (f : LoadSt → LoadSt) : (s.modLoad f).south = s.south := rfl
@[simp] theorem State.modLoad_tenders (f : LoadSt → LoadSt) : (s.modLoad f).tenders = s.tenders := rfl
@[simp] theorem State.modLoad_stripUv (f : LoadSt → LoadSt) : (s.modLoad f).stripUv = s.stripUv := rfl
@[simp] theorem State.modLoad_therm (f : LoadSt → LoadSt) : (s.modLoad f).therm = s.therm := rfl
@[simp] theorem State.modLoad_coll (f : LoadSt → LoadSt) : (s.modLoad f).coll = s.coll := rfl
@[simp] theorem State.modLoad_host (f : LoadSt → LoadSt) : (s.modLoad f).host = s.host := rfl
@[simp] theorem State.modLoad_mem (f : LoadSt → LoadSt) : (s.modLoad f).mem = s.mem := rfl
@[simp] theorem State.modLoad_moor (f : LoadSt → LoadSt) : (s.modLoad f).moor = s.moor := rfl
@[simp] theorem State.modLoad_cs (f : LoadSt → LoadSt) : (s.modLoad f).cs = s.cs := rfl
@[simp] theorem State.modLoad_dock (f : LoadSt → LoadSt) : (s.modLoad f).dock = s.dock := rfl
@[simp] theorem State.modLoad_access (f : LoadSt → LoadSt) : (s.modLoad f).access = s.access := rfl
@[simp] theorem State.modLoad_free (f : LoadSt → LoadSt) : (s.modLoad f).free = s.free := rfl
@[simp] theorem State.modLoad_pending (f : LoadSt → LoadSt) : (s.modLoad f).pending = s.pending := rfl

/-! ### `useFree` -/

@[simp] theorem State.useFree_regs (k : Nat) : (s.useFree k).regs = s.regs := rfl
@[simp] theorem State.useFree_prot (k : Nat) : (s.useFree k).prot = s.prot := rfl
@[simp] theorem State.useFree_key (k : Nat) : (s.useFree k).key = s.key := rfl
@[simp] theorem State.useFree_dev (k : Nat) : (s.useFree k).dev = s.dev := rfl
@[simp] theorem State.useFree_load (k : Nat) : (s.useFree k).load = s.load := rfl
@[simp] theorem State.useFree_tide (k : Nat) : (s.useFree k).tide = s.tide := rfl
@[simp] theorem State.useFree_berths (k : Nat) : (s.useFree k).berths = s.berths := rfl
@[simp] theorem State.useFree_north (k : Nat) : (s.useFree k).north = s.north := rfl
@[simp] theorem State.useFree_south (k : Nat) : (s.useFree k).south = s.south := rfl
@[simp] theorem State.useFree_tenders (k : Nat) : (s.useFree k).tenders = s.tenders := rfl
@[simp] theorem State.useFree_stripUv (k : Nat) : (s.useFree k).stripUv = s.stripUv := rfl
@[simp] theorem State.useFree_therm (k : Nat) : (s.useFree k).therm = s.therm := rfl
@[simp] theorem State.useFree_coll (k : Nat) : (s.useFree k).coll = s.coll := rfl
@[simp] theorem State.useFree_host (k : Nat) : (s.useFree k).host = s.host := rfl
@[simp] theorem State.useFree_mem (k : Nat) : (s.useFree k).mem = s.mem := rfl
@[simp] theorem State.useFree_moor (k : Nat) : (s.useFree k).moor = s.moor := rfl
@[simp] theorem State.useFree_cs (k : Nat) : (s.useFree k).cs = s.cs := rfl
@[simp] theorem State.useFree_dock (k : Nat) : (s.useFree k).dock = s.dock := rfl
@[simp] theorem State.useFree_access (k : Nat) : (s.useFree k).access = s.access := rfl
@[simp] theorem State.useFree_free (k : Nat) : (s.useFree k).free = s.free + k := rfl
@[simp] theorem State.useFree_pending (k : Nat) : (s.useFree k).pending = s.pending := rfl

/-! ### `modQuay` -/

@[simp] theorem State.modQuay_regs (q : Quay) (f : QuaySt → QuaySt) : (s.modQuay q f).regs = s.regs := by cases q <;> rfl
@[simp] theorem State.modQuay_prot (q : Quay) (f : QuaySt → QuaySt) : (s.modQuay q f).prot = s.prot := by cases q <;> rfl
@[simp] theorem State.modQuay_key (q : Quay) (f : QuaySt → QuaySt) : (s.modQuay q f).key = s.key := by cases q <;> rfl
@[simp] theorem State.modQuay_dev (q : Quay) (f : QuaySt → QuaySt) : (s.modQuay q f).dev = s.dev := by cases q <;> rfl
@[simp] theorem State.modQuay_load (q : Quay) (f : QuaySt → QuaySt) : (s.modQuay q f).load = s.load := by cases q <;> rfl
@[simp] theorem State.modQuay_tide (q : Quay) (f : QuaySt → QuaySt) : (s.modQuay q f).tide = s.tide := by cases q <;> rfl
@[simp] theorem State.modQuay_berths (q : Quay) (f : QuaySt → QuaySt) : (s.modQuay q f).berths = s.berths := by cases q <;> rfl
@[simp] theorem State.modQuay_tenders (q : Quay) (f : QuaySt → QuaySt) : (s.modQuay q f).tenders = s.tenders := by cases q <;> rfl
@[simp] theorem State.modQuay_stripUv (q : Quay) (f : QuaySt → QuaySt) : (s.modQuay q f).stripUv = s.stripUv := by cases q <;> rfl
@[simp] theorem State.modQuay_therm (q : Quay) (f : QuaySt → QuaySt) : (s.modQuay q f).therm = s.therm := by cases q <;> rfl
@[simp] theorem State.modQuay_coll (q : Quay) (f : QuaySt → QuaySt) : (s.modQuay q f).coll = s.coll := by cases q <;> rfl
@[simp] theorem State.modQuay_host (q : Quay) (f : QuaySt → QuaySt) : (s.modQuay q f).host = s.host := by cases q <;> rfl
@[simp] theorem State.modQuay_mem (q : Quay) (f : QuaySt → QuaySt) : (s.modQuay q f).mem = s.mem := by cases q <;> rfl
@[simp] theorem State.modQuay_moor (q : Quay) (f : QuaySt → QuaySt) : (s.modQuay q f).moor = s.moor := by cases q <;> rfl
@[simp] theorem State.modQuay_cs (q : Quay) (f : QuaySt → QuaySt) : (s.modQuay q f).cs = s.cs := by cases q <;> rfl
@[simp] theorem State.modQuay_dock (q : Quay) (f : QuaySt → QuaySt) : (s.modQuay q f).dock = s.dock := by cases q <;> rfl
@[simp] theorem State.modQuay_access (q : Quay) (f : QuaySt → QuaySt) : (s.modQuay q f).access = s.access := by cases q <;> rfl
@[simp] theorem State.modQuay_free (q : Quay) (f : QuaySt → QuaySt) : (s.modQuay q f).free = s.free := by cases q <;> rfl
@[simp] theorem State.modQuay_pending (q : Quay) (f : QuaySt → QuaySt) : (s.modQuay q f).pending = s.pending := by cases q <;> rfl

end Sys2Proof.Machine
end

