-- ==== Sys2Proof/Laws/Access.lean ====
section
/-! SUPPORT. Reading registers, fields and sub-states back after an update: what was written reads as written, and every
other register, field, berth, phase and tender reads as before. -/

namespace Sys2Proof.Machine

/-! ### Addresses (R33) -/

theorem ba_inj (n m : Berth) (o p : Nat) (ho : o < 0x400) (hp : p < 0x400) : ba n o = ba m p ↔ n = m ∧ o = p := by
  unfold ba
  constructor
  · intro h
    have : n.val = m.val := by omega
    exact ⟨Fin.ext this, by omega⟩
  · rintro ⟨rfl, rfl⟩; rfl

theorem ta_inj (t u : Tender) (o p : Nat) (ho : o < 0x40) (hp : p < 0x40) : ta t o = ta u p ↔ t = u ∧ o = p := by
  unfold ta
  constructor
  · intro h
    have : t.val = u.val := by omega
    exact ⟨Fin.ext this, by omega⟩
  · rintro ⟨rfl, rfl⟩; rfl

theorem ba_same (n : Berth) (o p : Nat) : ba n o = ba n p ↔ o = p := by unfold ba; omega
theorem ba_ne_page (n : Berth) (o c : Nat) (h : c < 0x4000) : ba n o ≠ c := by unfold ba; omega
theorem page_ne_ba (n : Berth) (o c : Nat) (h : c < 0x4000) : c ≠ ba n o := by unfold ba; omega
theorem ta_ne_page (t : Tender) (o c : Nat) (h : c < 0xF00) : ta t o ≠ c := by unfold ta; omega
theorem page_ne_ta (t : Tender) (o c : Nat) (h : c < 0xF00) : c ≠ ta t o := by unfold ta; omega
theorem ba_ne_ta (n : Berth) (t : Tender) (o p : Nat) (h : p < 0x40) : ba n o ≠ ta t p := by unfold ba ta; omega
theorem ta_ne_ba (n : Berth) (t : Tender) (o p : Nat) (h : p < 0x40) : ta t p ≠ ba n o := by unfold ba ta; omega

/-! ### Registers -/

/-- A read after a write. -/
theorem State.rd_wr (s : State) (a b : Nat) (w : Word) : (s.wr a w).rd b = if b = a then w else s.rd b :=
  look_store _ _ _ _
/-- A read after a field write. -/
theorem State.rd_put (s : State) (a b hi lo v : Nat) :
    (s.put a hi lo v).rd b = if b = a then putBits (s.rd a) hi lo v else s.rd b := look_store _ _ _ _
/-- The field that was written. -/
theorem State.get_put_same (s : State) (a hi lo v : Nat) (h : hi < 18) (hl : lo ≤ hi) :
    (s.put a hi lo v).get a hi lo = v % 2 ^ (hi + 1 - lo) := by
  rw [State.get, State.rd_put, if_pos rfl, bits_putBits_same _ _ _ _ h hl]
/-- A field of the same register, apart from the written one. -/
theorem State.get_put_apart (s : State) (a hi lo v h l : Nat) (hh : hi < 18) (hl : lo ≤ hi) (hd : h < lo ∨ hi < l) :
    (s.put a hi lo v).get a h l = s.get a h l := by
  rw [State.get, State.rd_put, if_pos rfl, bits_putBits_ne _ _ _ _ _ _ hh hl hd, State.get]
/-- A field of another register. -/
theorem State.get_put_other (s : State) (a hi lo v b h l : Nat) (hb : b ≠ a) :
    (s.put a hi lo v).get b h l = s.get b h l := by rw [State.get, State.rd_put, if_neg hb, State.get]
/-- A field after a whole write. -/
theorem State.get_wr (s : State) (a b h l : Nat) (w : Word) :
    (s.wr a w).get b h l = if b = a then bits w h l else s.get b h l := by
  unfold State.get; rw [State.rd_wr]; split <;> rfl
/-- Protection-set registers are apart from register writes. -/
@[simp] theorem State.prd_wr (s : State) (a b : Nat) (w : Word) : (s.wr a w).prd b = s.prd b := rfl
@[simp] theorem State.prd_put (s : State) (a b hi lo v : Nat) : (s.put a hi lo v).prd b = s.prd b := rfl

@[simp] theorem State.rd_modBerth (s : State) (n : Berth) (f : BerthSt → BerthSt) (a : Nat) : (s.modBerth n f).rd a = s.rd a := rfl
@[simp] theorem State.rd_modPwm (s : State) (n : Berth) (f : PwmSt → PwmSt) (a : Nat) : (s.modPwm n f).rd a = s.rd a := rfl
@[simp] theorem State.rd_modLeg (s : State) (n : Berth) (p : Phase) (f : Leg → Leg) (a : Nat) : (s.modLeg n p f).rd a = s.rd a := rfl
@[simp] theorem State.rd_modSens (s : State) (n : Berth) (f : SensSt → SensSt) (a : Nat) : (s.modSens n f).rd a = s.rd a := rfl
@[simp] theorem State.rd_modCtl (s : State) (n : Berth) (f : Ctl → Ctl) (a : Nat) : (s.modCtl n f).rd a = s.rd a := rfl
@[simp] theorem State.rd_modStart (s : State) (n : Berth) (f : StartSt → StartSt) (a : Nat) : (s.modStart n f).rd a = s.rd a := rfl
@[simp] theorem State.rd_modDem (s : State) (n : Berth) (f : DemSt → DemSt) (a : Nat) : (s.modDem n f).rd a = s.rd a := rfl
@[simp] theorem State.rd_modTender (s : State) (t : Tender) (f : TenderSt → TenderSt) (a : Nat) : (s.modTender t f).rd a = s.rd a := rfl
@[simp] theorem State.rd_modQuay (s : State) (q : Quay) (f : QuaySt → QuaySt) (a : Nat) : (s.modQuay q f).rd a = s.rd a := by
  cases q <;> rfl
@[simp] theorem State.rd_modDev (s : State) (f : DevSt → DevSt) (a : Nat) : (s.modDev f).rd a = s.rd a := rfl
@[simp] theorem State.rd_modTide (s : State) (f : TideSt → TideSt) (a : Nat) : (s.modTide f).rd a = s.rd a := rfl
@[simp] theorem State.rd_modColl (s : State) (f : CollSt → CollSt) (a : Nat) : (s.modColl f).rd a = s.rd a := rfl
@[simp] theorem State.rd_modHost (s : State) (f : HostSt → HostSt) (a : Nat) : (s.modHost f).rd a = s.rd a := rfl
@[simp] theorem State.rd_modMem (s : State) (f : MemSt → MemSt) (a : Nat) : (s.modMem f).rd a = s.rd a := rfl
@[simp] theorem State.rd_modLog (s : State) (f : LogSt → LogSt) (a : Nat) : (s.modLog f).rd a = s.rd a := rfl
@[simp] theorem State.rd_modMoor (s : State) (f : MoorSt → MoorSt) (a : Nat) : (s.modMoor f).rd a = s.rd a := rfl
@[simp] theorem State.rd_modCs (s : State) (f : CsSt → CsSt) (a : Nat) : (s.modCs f).rd a = s.rd a := rfl
@[simp] theorem State.rd_modDock (s : State) (f : DockSt → DockSt) (a : Nat) : (s.modDock f).rd a = s.rd a := rfl
@[simp] theorem State.rd_modLoad (s : State) (f : LoadSt → LoadSt) (a : Nat) : (s.modLoad f).rd a = s.rd a := rfl
@[simp] theorem State.rd_modTherm (s : State) (f : ThermSt → ThermSt) (a : Nat) : (s.modTherm f).rd a = s.rd a := rfl
@[simp] theorem State.rd_useFree (s : State) (k a : Nat) : (s.useFree k).rd a = s.rd a := rfl

/-- Raising an event writes no register. -/
@[simp] theorem State.raise_regs (s : State) (e : Event) : (s.raise e).regs = s.regs := by
  unfold State.raise; split <;> rfl
@[simp] theorem State.rd_raise (s : State) (e : Event) (a : Nat) : (s.raise e).rd a = s.rd a := by
  unfold State.rd; rw [State.raise_regs]
@[simp] theorem State.rd_raiseAll (s : State) (k c a : Nat) : (s.raiseAll k c).rd a = s.rd a := State.rd_raise _ _ _
@[simp] theorem State.rd_raiseForced (s : State) (k c d a : Nat) : (s.raiseForced k c d).rd a = s.rd a := State.rd_raise _ _ _
@[simp] theorem State.rd_raiseQuay (s : State) (k c : Nat) (q : Quay) (a : Nat) : (s.raiseQuay k c q).rd a = s.rd a := State.rd_raise _ _ _
@[simp] theorem State.rd_raiseBerth (s : State) (n : Berth) (k d a : Nat) : (s.raiseBerth n k d).rd a = s.rd a := by
  unfold State.raiseBerth; split
  · rfl
  · exact State.rd_raise _ _ _

/-! ### Sub-states -/

@[simp] theorem State.berth_wr (s : State) (a : Nat) (w : Word) (n : Berth) : (s.wr a w).berth n = s.berth n := rfl
@[simp] theorem State.berth_put (s : State) (a hi lo v : Nat) (n : Berth) : (s.put a hi lo v).berth n = s.berth n := rfl
@[simp] theorem State.tender_wr (s : State) (a : Nat) (w : Word) (t : Tender) : (s.wr a w).tender t = s.tender t := rfl
@[simp] theorem State.tender_put (s : State) (a hi lo v : Nat) (t : Tender) : (s.put a hi lo v).tender t = s.tender t := rfl
@[simp] theorem State.tender_modBerth (s : State) (n : Berth) (f : BerthSt → BerthSt) (t : Tender) :
    (s.modBerth n f).tender t = s.tender t := rfl
@[simp] theorem State.berth_modTender (s : State) (t : Tender) (f : TenderSt → TenderSt) (n : Berth) :
    (s.modTender t f).berth n = s.berth n := rfl

/-- The berth that was changed, and the others. -/
theorem State.berth_modBerth (s : State) (n m : Berth) (f : BerthSt → BerthSt) :
    (s.modBerth n f).berth m = if m = n then f (s.berth n) else s.berth m := by
  by_cases h : m = n
  · subst h
    rw [if_pos rfl]
    exact Vector.getElem_set_self ..
  · rw [if_neg h]
    have hv : n.val ≠ m.val := fun e => h (Fin.ext e.symm)
    exact Vector.getElem_set_ne n.isLt m.isLt hv

/-- The tender that was changed, and the others. -/
theorem State.tender_modTender (s : State) (t u : Tender) (f : TenderSt → TenderSt) :
    (s.modTender t f).tender u = if u = t then f (s.tender t) else s.tender u := by
  by_cases h : u = t
  · subst h
    rw [if_pos rfl]
    exact Vector.getElem_set_self ..
  · rw [if_neg h]
    have hv : t.val ≠ u.val := fun e => h (Fin.ext e.symm)
    exact Vector.getElem_set_ne t.isLt u.isLt hv

theorem Tri.get_set {α : Type} (t : Tri α) (p q : Phase) (x : α) : (t.set p x).get q = if q = p then x else t.get q := by
  cases p <;> cases q <;> rfl
theorem Tri.get_mod {α : Type} (t : Tri α) (p q : Phase) (f : α → α) :
    (t.mod p f).get q = if q = p then f (t.get p) else t.get q := Tri.get_set _ _ _ _

/-- The half-bridge that was changed, and the others. -/
theorem State.leg_modLeg (s : State) (n m : Berth) (p q : Phase) (f : Leg → Leg) :
    (s.modLeg n p f).leg m q = if m = n ∧ q = p then f (s.leg n p) else s.leg m q := by
  unfold State.leg State.modLeg
  rw [State.berth_modBerth]
  by_cases h : m = n
  · subst h; simp [Tri.get_mod]
  · simp [h]

end Sys2Proof.Machine
end

