-- ==== Sys2Proof/Laws/Keeps.lean ====
section
/-! SUPPORT. What every operation but a commit, an application and a reset keeps: the protection set, the one-time key, the
queue of commands, the canonical form of the register list, and that no half-bridge has both switches on. One lemma per
operation, in the form that chains them. -/

namespace Sys2Proof.Machine

/-- `t` has the protection set, the one-time key and the queue of `s`, and its register list is canonical if that of `s`
is, and no half-bridge has both switches on if none in `s` has. -/
def State.Keeps (s t : State) : Prop :=
  t.prot = s.prot ∧ t.key = s.key ∧ t.pending = s.pending ∧ (regsWf s.regs = true → regsWf t.regs = true) ∧
    (s.NoShoot → t.NoShoot)

theorem State.Keeps.rfl {s : State} : s.Keeps s := ⟨Eq.refl _, Eq.refl _, Eq.refl _, id, id⟩

/-- Outputs of a state with the same berths and tenders. -/
theorem State.NoShoot.of_eq {s t : State} (h1 : t.berths = s.berths) (h2 : t.tenders = s.tenders) (h : s.NoShoot) :
    t.NoShoot := by
  refine ⟨fun n p => ?_, fun u => ?_⟩
  · have := h.1 n p
    unfold State.leg State.berth at *
    rwa [h1]
  · have := h.2 u
    unfold State.tender at *
    rwa [h2]

/-- A change outside the register lists, the key, the queue, the berths and the tenders. -/
theorem State.Keeps.upd {r s t : State} (h1 : t.prot = s.prot) (h2 : t.key = s.key) (h3 : t.pending = s.pending)
    (h4 : t.regs = s.regs) (h5 : t.berths = s.berths) (h6 : t.tenders = s.tenders) (h : r.Keeps s) : r.Keeps t :=
  ⟨h1.trans h.1, h2.trans h.2.1, h3.trans h.2.2.1, fun w => h4 ▸ h.2.2.2.1 w, fun w => (h.2.2.2.2 w).of_eq h5 h6⟩

theorem State.Keeps.forAll {α : Type} {r s : State} (l : List α) {f : State → α → State}
    (hf : ∀ t a, r.Keeps t → r.Keeps (f t a)) (h : r.Keeps s) : r.Keeps (s.forAll l f) := by
  unfold State.forAll
  induction l generalizing s with
  | nil => exact h
  | cons a l ih => exact ih (hf _ _ h)

theorem State.Keeps.foldl {α : Type} {r s : State} (l : List α) {f : State → α → State}
    (hf : ∀ t a, r.Keeps t → r.Keeps (f t a)) (h : r.Keeps s) : r.Keeps (l.foldl f s) := State.Keeps.forAll l hf h

theorem State.Keeps.ite {r : State} (c : Prop) [Decidable c] {a b : State} (ha : r.Keeps a) (hb : r.Keeps b) :
    r.Keeps (if c then a else b) := by split <;> assumption

theorem State.Keeps.wr {r s : State} (a : Nat) (w : Word) (h : r.Keeps s) : r.Keeps (s.wr a w) :=
  ⟨h.1, h.2.1, h.2.2.1, fun c => regsWf_store _ _ _ (h.2.2.2.1 c), fun c => (h.2.2.2.2 c).of_eq (Eq.refl _) (Eq.refl _)⟩

/-- A change of a berth that leaves its half-bridges. -/
theorem State.Keeps.modBerth {r s : State} (n : Berth) (f : BerthSt → BerthSt) (hf : ∀ b, (f b).legs = b.legs)
    (h : r.Keeps s) : r.Keeps (s.modBerth n f) := by
  refine ⟨h.1, h.2.1, h.2.2.1, h.2.2.2.1, fun c => ⟨fun m p => ?_, (h.2.2.2.2 c).2⟩⟩
  have := (h.2.2.2.2 c).1 m p
  unfold State.leg at *
  rw [State.berth_modBerth]
  split
  · rename_i e; rw [hf]; exact e ▸ this
  · exact this

/-- A change of a berth that does not put both switches of a half-bridge on. -/
theorem State.Keeps.modLegs {r s : State} (n : Berth) (f : BerthSt → BerthSt)
    (hf : ∀ p, (s.leg n p).Safe → ((f (s.berth n)).legs.get p).Safe) (h : r.Keeps s) : r.Keeps (s.modBerth n f) := by
  refine ⟨h.1, h.2.1, h.2.2.1, h.2.2.2.1, fun c => ⟨fun m p => ?_, (h.2.2.2.2 c).2⟩⟩
  have := (h.2.2.2.2 c).1 m p
  unfold State.leg at *
  rw [State.berth_modBerth]
  split
  · rename_i e; exact hf p (e ▸ this)
  · exact this

/-- A change of every half-bridge of a berth. -/
theorem Tri.get_map {α : Type} (t : Tri α) (f : α → α) (p : Phase) : (t.map f).get p = f (t.get p) := by cases p <;> rfl

/-- A change of a half-bridge that does not put both its switches on. -/
theorem State.Keeps.modLeg {r s : State} (n : Berth) (p : Phase) (f : Leg → Leg) (hf : (s.leg n p).Safe → (f (s.leg n p)).Safe)
    (h : r.Keeps s) : r.Keeps (s.modLeg n p f) := by
  refine ⟨h.1, h.2.1, h.2.2.1, h.2.2.2.1, fun c => ⟨fun m q => ?_, (h.2.2.2.2 c).2⟩⟩
  rw [State.leg_modLeg]
  split
  · exact hf ((h.2.2.2.2 c).1 n p)
  · exact (h.2.2.2.2 c).1 m q

/-- A change of a tender that does not put both its switches on. -/
theorem State.Keeps.modTender {r s : State} (t : Tender) (f : TenderSt → TenderSt)
    (hf : (s.tender t).Safe → (f (s.tender t)).Safe) (h : r.Keeps s) : r.Keeps (s.modTender t f) := by
  refine ⟨h.1, h.2.1, h.2.2.1, h.2.2.2.1, fun c => ⟨(h.2.2.2.2 c).1, fun u => ?_⟩⟩
  rw [State.tender_modTender]
  split
  · exact hf ((h.2.2.2.2 c).2 t)
  · exact (h.2.2.2.2 c).2 u

theorem State.Keeps.wrs {r s : State} (l : List (Nat × Word)) (h : r.Keeps s) : r.Keeps (s.wrs l) :=
  .foldl l (fun _ _ h => h.wr _ _) h

theorem State.Keeps.putWide {r s : State} (a v k : Nat) (h : r.Keeps s) : r.Keeps (s.putWide a v k) := by
  induction k with
  | zero => exact h
  | succ k ih => exact ih.wr _ _

theorem State.tender_lo_off (s : State) (t : Tender) (f : TenderSt → TenderSt) (hf : ∀ x, (f x).lo = false)
    (a b : Nat) (c : Bool) (a' b' : Nat) (c' : Bool) :
    ((((s.modTender t f).tputb t a b c).tputb t a' b' c').tender t).lo = false := by
  have e := State.tender_modTender s t t f
  rw [if_pos (Eq.refl t)] at e
  exact (congrArg TenderSt.lo e).trans (hf _)
theorem State.tdClamp_tender (s : State) (t u : Tender) (hi lo : Nat) : (s.tdClamp t hi lo).tender u = s.tender u := by
  unfold State.tdClamp; split <;> rfl
/-- Turning switches off keeps a half-bridge safe. -/
theorem Leg.cut_safe (l : Leg) (hi lo : Bool) (t w : Nat) : l.Safe → (l.cut hi lo t w).Safe := by
  rintro h ⟨a, b⟩
  simp only [Leg.cut, Bool.and_eq_true] at a b
  exact h ⟨a.1, b.1⟩
/-- A half-bridge that settles has at most one switch on (R197). -/
theorem Leg.settle_safe (l : Leg) (row : GateRow) (cmd : Bool × Bool) (uv : Bool) (t dt width : Nat) :
    l.Safe → (l.settle row cmd uv t dt width).Safe := by
  intro h
  have hc := l.cut_safe (!(cmd.1 && !l.blockHi uv)) (!(cmd.2 && !l.blockLo uv)) t width h
  unfold Leg.settle
  dsimp only
  generalize Leg.cut _ _ _ _ _ = m at hc ⊢
  split
  · rename_i c
    have hm : m.lo = false := by simp only [Bool.and_eq_true, Bool.not_eq_true'] at c; exact c.1.2
    split
    · exact fun g => by simp [hm] at g
    · exact hc
  · split
    · rename_i c
      have hm : m.hi = false := by simp only [Bool.and_eq_true, Bool.not_eq_true'] at c; exact c.1.2
      exact fun g => by simp [hm] at g
    · exact hc

/-! ### Cards -/

/-! ### State -/

/-! ### Regs -/

/-! ### Bits -/
theorem State.Keeps.put {r0 : State} {s : State} (a hi lo v : Nat) (h0 : r0.Keeps s) :
    r0.Keeps (State.put s a hi lo v) := by
  unfold State.put
  repeat' with_reducible first
    | assumption | apply State.Keeps.ite | apply State.Keeps.wr
theorem State.Keeps.setb {r0 : State} {s : State} (a b : Nat) (h0 : r0.Keeps s) :
    r0.Keeps (State.setb s a b) := by
  unfold State.setb
  repeat' with_reducible first
    | assumption | apply State.Keeps.ite | apply State.Keeps.put
theorem State.Keeps.clrb {r0 : State} {s : State} (a b : Nat) (h0 : r0.Keeps s) :
    r0.Keeps (State.clrb s a b) := by
  unfold State.clrb
  repeat' with_reducible first
    | assumption | apply State.Keeps.ite | apply State.Keeps.put
theorem State.Keeps.putb {r0 : State} {s : State} (a b : Nat) (v : Bool) (h0 : r0.Keeps s) :
    r0.Keeps (State.putb s a b v) := by
  unfold State.putb
  repeat' with_reducible first
    | assumption | apply State.Keeps.ite | apply State.Keeps.put
theorem State.Keeps.bput {r0 : State} {s : State} (n : Berth) (o hi lo v : Nat) (h0 : r0.Keeps s) :
    r0.Keeps (State.bput s n o hi lo v) := by
  unfold State.bput
  repeat' with_reducible first
    | assumption | apply State.Keeps.ite | apply State.Keeps.put
theorem State.Keeps.bset {r0 : State} {s : State} (n : Berth) (o b : Nat) (h0 : r0.Keeps s) :
    r0.Keeps (State.bset s n o b) := by
  unfold State.bset
  repeat' with_reducible first
    | assumption | apply State.Keeps.ite | apply State.Keeps.setb
theorem State.Keeps.bclr {r0 : State} {s : State} (n : Berth) (o b : Nat) (h0 : r0.Keeps s) :
    r0.Keeps (State.bclr s n o b) := by
  unfold State.bclr
  repeat' with_reducible first
    | assumption | apply State.Keeps.ite | apply State.Keeps.clrb
theorem State.Keeps.bputb {r0 : State} {s : State} (n : Berth) (o b : Nat) (v : Bool) (h0 : r0.Keeps s) :
    r0.Keeps (State.bputb s n o b v) := by
  unfold State.bputb
  repeat' with_reducible first
    | assumption | apply State.Keeps.ite | apply State.Keeps.putb
theorem State.Keeps.bwr {r0 : State} {s : State} (n : Berth) (o : Nat) (w : Word) (h0 : r0.Keeps s) :
    r0.Keeps (State.bwr s n o w) := by
  unfold State.bwr
  repeat' with_reducible first
    | assumption | apply State.Keeps.ite | apply State.Keeps.wr
theorem State.Keeps.tput {r0 : State} {s : State} (t : Tender) (o hi lo v : Nat) (h0 : r0.Keeps s) :
    r0.Keeps (State.tput s t o hi lo v) := by
  unfold State.tput
  repeat' with_reducible first
    | assumption | apply State.Keeps.ite | apply State.Keeps.put
theorem State.Keeps.tputb {r0 : State} {s : State} (t : Tender) (o b : Nat) (v : Bool) (h0 : r0.Keeps s) :
    r0.Keeps (State.tputb s t o b v) := by
  unfold State.tputb
  repeat' with_reducible first
    | assumption | apply State.Keeps.ite | apply State.Keeps.putb
theorem State.Keeps.twr {r0 : State} {s : State} (t : Tender) (o : Nat) (w : Word) (h0 : r0.Keeps s) :
    r0.Keeps (State.twr s t o w) := by
  unfold State.twr
  repeat' with_reducible first
    | assumption | apply State.Keeps.ite | apply State.Keeps.wr
theorem State.Keeps.modPwm {r0 : State} {s : State} (n : Berth) (f : PwmSt → PwmSt) (h0 : r0.Keeps s) :
    r0.Keeps (State.modPwm s n f) := by
  unfold State.modPwm
  repeat' with_reducible first
    | assumption | apply State.Keeps.ite | apply State.Keeps.modBerth | exact fun _ => Eq.refl _
theorem State.Keeps.modSens {r0 : State} {s : State} (n : Berth) (f : SensSt → SensSt) (h0 : r0.Keeps s) :
    r0.Keeps (State.modSens s n f) := by
  unfold State.modSens
  repeat' with_reducible first
    | assumption | apply State.Keeps.ite | apply State.Keeps.modBerth | exact fun _ => Eq.refl _
theorem State.Keeps.modCtl {r0 : State} {s : State} (n : Berth) (f : Ctl → Ctl) (h0 : r0.Keeps s) :
    r0.Keeps (State.modCtl s n f) := by
  unfold State.modCtl
  repeat' with_reducible first
    | assumption | apply State.Keeps.ite | apply State.Keeps.modBerth | exact fun _ => Eq.refl _
theorem State.Keeps.modStart {r0 : State} {s : State} (n : Berth) (f : StartSt → StartSt) (h0 : r0.Keeps s) :
    r0.Keeps (State.modStart s n f) := by
  unfold State.modStart
  repeat' with_reducible first
    | assumption | apply State.Keeps.ite | apply State.Keeps.modBerth | exact fun _ => Eq.refl _
theorem State.Keeps.modDem {r0 : State} {s : State} (n : Berth) (f : DemSt → DemSt) (h0 : r0.Keeps s) :
    r0.Keeps (State.modDem s n f) := by
  unfold State.modDem
  repeat' with_reducible first
    | assumption | apply State.Keeps.ite | apply State.Keeps.modBerth | exact fun _ => Eq.refl _
theorem State.Keeps.modQuay {r0 : State} {s : State} (q : Quay) (f : QuaySt → QuaySt) (h0 : r0.Keeps s) :
    r0.Keeps (State.modQuay s q f) := by cases q <;> exact h0.upd (Eq.refl _) (Eq.refl _) (Eq.refl _) (Eq.refl _) (Eq.refl _) (Eq.refl _)
theorem State.Keeps.modDev {r0 : State} {s : State} (f : DevSt → DevSt) (h0 : r0.Keeps s) :
    r0.Keeps (State.modDev s f) := h0.upd (Eq.refl _) (Eq.refl _) (Eq.refl _) (Eq.refl _) (Eq.refl _) (Eq.refl _)
theorem State.Keeps.modLoad {r0 : State} {s : State} (f : LoadSt → LoadSt) (h0 : r0.Keeps s) :
    r0.Keeps (State.modLoad s f) := h0.upd (Eq.refl _) (Eq.refl _) (Eq.refl _) (Eq.refl _) (Eq.refl _) (Eq.refl _)
theorem State.Keeps.modTide {r0 : State} {s : State} (f : TideSt → TideSt) (h0 : r0.Keeps s) :
    r0.Keeps (State.modTide s f) := h0.upd (Eq.refl _) (Eq.refl _) (Eq.refl _) (Eq.refl _) (Eq.refl _) (Eq.refl _)
theorem State.Keeps.modTherm {r0 : State} {s : State} (f : ThermSt → ThermSt) (h0 : r0.Keeps s) :
    r0.Keeps (State.modTherm s f) := h0.upd (Eq.refl _) (Eq.refl _) (Eq.refl _) (Eq.refl _) (Eq.refl _) (Eq.refl _)
theorem State.Keeps.modColl {r0 : State} {s : State} (f : CollSt → CollSt) (h0 : r0.Keeps s) :
    r0.Keeps (State.modColl s f) := h0.upd (Eq.refl _) (Eq.refl _) (Eq.refl _) (Eq.refl _) (Eq.refl _) (Eq.refl _)
theorem State.Keeps.modHost {r0 : State} {s : State} (f : HostSt → HostSt) (h0 : r0.Keeps s) :
    r0.Keeps (State.modHost s f) := h0.upd (Eq.refl _) (Eq.refl _) (Eq.refl _) (Eq.refl _) (Eq.refl _) (Eq.refl _)
theorem State.Keeps.modMem {r0 : State} {s : State} (f : MemSt → MemSt) (h0 : r0.Keeps s) :
    r0.Keeps (State.modMem s f) := h0.upd (Eq.refl _) (Eq.refl _) (Eq.refl _) (Eq.refl _) (Eq.refl _) (Eq.refl _)
theorem State.Keeps.modLog {r0 : State} {s : State} (f : LogSt → LogSt) (h0 : r0.Keeps s) :
    r0.Keeps (State.modLog s f) := by
  unfold State.modLog
  repeat' with_reducible first
    | assumption | apply State.Keeps.ite | apply State.Keeps.modMem
theorem State.Keeps.modMoor {r0 : State} {s : State} (f : MoorSt → MoorSt) (h0 : r0.Keeps s) :
    r0.Keeps (State.modMoor s f) := h0.upd (Eq.refl _) (Eq.refl _) (Eq.refl _) (Eq.refl _) (Eq.refl _) (Eq.refl _)
theorem State.Keeps.modCs {r0 : State} {s : State} (f : CsSt → CsSt) (h0 : r0.Keeps s) :
    r0.Keeps (State.modCs s f) := h0.upd (Eq.refl _) (Eq.refl _) (Eq.refl _) (Eq.refl _) (Eq.refl _) (Eq.refl _)
theorem State.Keeps.modDock {r0 : State} {s : State} (f : DockSt → DockSt) (h0 : r0.Keeps s) :
    r0.Keeps (State.modDock s f) := h0.upd (Eq.refl _) (Eq.refl _) (Eq.refl _) (Eq.refl _) (Eq.refl _) (Eq.refl _)
theorem State.Keeps.useFree {r0 : State} {s : State} (k : Nat) (h0 : r0.Keeps s) :
    r0.Keeps (State.useFree s k) := h0.upd (Eq.refl _) (Eq.refl _) (Eq.refl _) (Eq.refl _) (Eq.refl _) (Eq.refl _)

/-! ### Ops -/
theorem State.Keeps.raise {r0 : State} {s : State} (e : Event) (h0 : r0.Keeps s) :
    r0.Keeps (State.raise s e) := by
  unfold State.raise
  repeat' with_reducible first
    | assumption | apply State.Keeps.ite | apply State.Keeps.modColl
theorem State.Keeps.raiseAll {r0 : State} {s : State} (src adr : Nat) (h0 : r0.Keeps s) :
    r0.Keeps (State.raiseAll s src adr) := by
  unfold State.raiseAll
  repeat' with_reducible first
    | assumption | apply State.Keeps.ite | apply State.Keeps.raise
theorem State.Keeps.raiseForced {r0 : State} {s : State} (src adr forced : Nat) (h0 : r0.Keeps s) :
    r0.Keeps (State.raiseForced s src adr forced) := by
  unfold State.raiseForced
  repeat' with_reducible first
    | assumption | apply State.Keeps.ite | apply State.Keeps.raise
theorem State.Keeps.raiseQuay {r0 : State} {s : State} (src adr : Nat) (q : Quay) (h0 : r0.Keeps s) :
    r0.Keeps (State.raiseQuay s src adr q) := by
  unfold State.raiseQuay
  repeat' with_reducible first
    | assumption | apply State.Keeps.ite | apply State.Keeps.raise
theorem State.Keeps.raiseBerth {r0 : State} {s : State} (n : Berth) (k : Nat) (forced : Nat := 0) (h0 : r0.Keeps s) :
    r0.Keeps (State.raiseBerth s n k forced) := by
  unfold State.raiseBerth
  repeat' with_reducible first
    | assumption | apply State.Keeps.ite | apply State.Keeps.raise
theorem State.Keeps.incSat {r0 : State} {s : State} (a : Nat) (h0 : r0.Keeps s) :
    r0.Keeps (State.incSat s a) := by
  unfold State.incSat
  repeat' with_reducible first
    | assumption | apply State.Keeps.ite | apply State.Keeps.wr
theorem State.Keeps.ddProgress {r0 : State} {s : State} (action part code : Nat) (h0 : r0.Keeps s) :
    r0.Keeps (State.ddProgress s action part code) := by
  unfold State.ddProgress
  repeat' with_reducible first
    | assumption | apply State.Keeps.ite | apply State.Keeps.put

/-! ### Gates -/
theorem State.Keeps.clampCode {r0 : State} {s : State} (n : Berth) (p : Phase) (o : Nat) (h0 : r0.Keeps s) :
    r0.Keeps (State.clampCode s n p o) := by
  unfold State.clampCode
  repeat' with_reducible first
    | assumption | apply State.Keeps.ite | apply State.Keeps.bput
theorem State.Keeps.settlePhase {r0 : State} {s : State} (n : Berth) (t : Nat) (p : Phase) (h0 : r0.Keeps s) :
    r0.Keeps (State.settlePhase s n t p) := by
  unfold State.settlePhase
  repeat' with_reducible first
    | assumption | apply State.Keeps.ite | apply State.Keeps.settle | apply State.Keeps.modLeg
    | apply State.Keeps.bput | apply State.Keeps.clampCode | apply State.Keeps.modPwm
  all_goals exact Leg.settle_safe _ _ _ _ _ _ _
theorem State.Keeps.startCal {r0 : State} {s : State} (n : Berth) (h0 : r0.Keeps s) :
    r0.Keeps (State.startCal s n) := by
  unfold State.startCal
  repeat' with_reducible first
    | assumption | apply State.Keeps.ite | apply State.Keeps.put | apply State.Keeps.bset
    | apply State.Keeps.modSens
theorem State.Keeps.dockCal {r0 : State} {s : State} (n : Berth) (h0 : r0.Keeps s) :
    r0.Keeps (State.dockCal s n) := by
  unfold State.dockCal
  repeat' with_reducible first
    | assumption | apply State.Keeps.ite | apply State.Keeps.modDock | apply State.Keeps.startCal
theorem State.Keeps.settleAt {r0 : State} {s : State} (n : Berth) (t : Nat) (h0 : r0.Keeps s) :
    r0.Keeps (State.settleAt s n t) := by
  unfold State.settleAt
  repeat' with_reducible first
    | assumption | apply State.Keeps.ite | apply State.Keeps.modPwm | apply State.Keeps.settlePhase
    | apply State.Keeps.dockCal | apply State.Keeps.forAll | intro _ _ _
theorem State.Keeps.settle {r0 : State} {s : State} (n : Berth) (h0 : r0.Keeps s) :
    r0.Keeps (State.settle s n) := by
  unfold State.settle
  repeat' with_reducible first
    | assumption | apply State.Keeps.ite | apply State.Keeps.settleAt
theorem State.Keeps.bsCount {r0 : State} {s : State} (n : Berth) (p : Phase) (h0 : r0.Keeps s) :
    r0.Keeps (State.bsCount s n p) := by
  unfold State.bsCount
  repeat' with_reducible first
    | assumption | apply State.Keeps.ite | apply State.Keeps.bput | apply State.Keeps.raiseBerth
theorem State.Keeps.reEnable {r0 : State} {s : State} (n : Berth) (p : Phase) (sd : Side) (h0 : r0.Keeps s) :
    r0.Keeps (State.reEnable s n p sd) := by
  unfold State.reEnable
  repeat' with_reducible first
    | assumption | apply State.Keeps.ite | apply State.Keeps.modLeg | apply State.Keeps.bsCount | split
  all_goals first
    | exact fun h => h
theorem State.Keeps.reEnableAll {r0 : State} {s : State} (n : Berth) (h0 : r0.Keeps s) :
    r0.Keeps (State.reEnableAll s n) := by
  unfold State.reEnableAll
  repeat' with_reducible first
    | assumption | apply State.Keeps.ite | apply State.Keeps.reEnable | apply State.Keeps.forAll | intro _ _ _
theorem State.Keeps.reEnableDis {r0 : State} {s : State} (n : Berth) (h0 : r0.Keeps s) :
    r0.Keeps (State.reEnableDis s n) := by
  unfold State.reEnableDis
  repeat' with_reducible first
    | assumption | apply State.Keeps.ite | apply State.Keeps.reEnable | apply State.Keeps.forAll | intro _ _ _
theorem State.Keeps.loadShadow {r0 : State} {s : State} (n : Berth) (i : Nat) (h0 : r0.Keeps s) :
    r0.Keeps (State.loadShadow s n i) := by
  unfold State.loadShadow
  repeat' with_reducible first
    | assumption | apply State.Keeps.ite | apply State.Keeps.bput | apply State.Keeps.bset | apply State.Keeps.bwr
theorem State.Keeps.load_ {r0 : State} {s : State} (n : Berth) (h0 : r0.Keeps s) :
    r0.Keeps (State.load_ s n) := by
  unfold State.load_
  repeat' with_reducible first
    | assumption | apply State.Keeps.ite | apply State.Keeps.bset | apply State.Keeps.bclr
    | apply State.Keeps.modPwm | apply State.Keeps.loadShadow | apply State.Keeps.forAll | intro _ _ _
theorem State.Keeps.strobe {r0 : State} {s : State} (n : Berth) (h0 : r0.Keeps s) :
    r0.Keeps (State.strobe s n) := by
  unfold State.strobe
  repeat' with_reducible first
    | assumption | apply State.Keeps.ite | apply State.Keeps.bset | apply State.Keeps.load_
theorem State.Keeps.pwmStop {r0 : State} {s : State} (n : Berth) (h0 : r0.Keeps s) :
    r0.Keeps (State.pwmStop s n) := by
  unfold State.pwmStop
  repeat' with_reducible first
    | assumption | apply State.Keeps.ite | apply State.Keeps.bclr | apply State.Keeps.modLegs
    | apply State.Keeps.load_
  all_goals
    intro q hq
    rw [Tri.get_map]
    exact hq
theorem State.Keeps.disableEn {r0 : State} {s : State} (n : Berth) (h0 : r0.Keeps s) :
    r0.Keeps (State.disableEn s n) := by
  unfold State.disableEn
  repeat' with_reducible first
    | assumption | apply State.Keeps.ite | apply State.Keeps.settle | apply State.Keeps.pwmStop
    | apply State.Keeps.reEnableDis
theorem State.Keeps.enableEn {r0 : State} {s : State} (n : Berth) (h0 : r0.Keeps s) :
    r0.Keeps (State.enableEn s n) := by
  unfold State.enableEn
  repeat' with_reducible first
    | assumption | apply State.Keeps.ite | apply State.Keeps.bset | apply State.Keeps.modPwm
    | apply State.Keeps.reEnableDis | apply State.Keeps.settle
theorem State.Keeps.setState {r0 : State} {s : State} (n : Berth) (v : Nat) (h0 : r0.Keeps s) :
    r0.Keeps (State.setState s n v) := by
  unfold State.setState
  repeat' with_reducible first
    | assumption | apply State.Keeps.ite | apply State.Keeps.bput | apply State.Keeps.bclr | apply State.Keeps.bwr
    | apply State.Keeps.modBerth | apply State.Keeps.modStart | exact fun _ => Eq.refl _
theorem State.Keeps.stopNow {r0 : State} {s : State} (n : Berth) (v : Nat) (h0 : r0.Keeps s) :
    r0.Keeps (State.stopNow s n v) := by
  unfold State.stopNow
  repeat' with_reducible first
    | assumption | apply State.Keeps.ite | apply State.Keeps.bclr | apply State.Keeps.disableEn
    | apply State.Keeps.setState
theorem State.Keeps.endTrialStart {r0 : State} {s : State} (n : Berth) (h0 : r0.Keeps s) :
    r0.Keeps (State.endTrialStart s n) := by
  unfold State.endTrialStart
  repeat' with_reducible first
    | assumption | apply State.Keeps.ite | apply State.Keeps.bclr | apply State.Keeps.bput
    | apply State.Keeps.modStart | apply State.Keeps.disableEn
theorem State.Keeps.beginStop {r0 : State} {s : State} (n : Berth) (v : Nat) (h0 : r0.Keeps s) :
    r0.Keeps (State.beginStop s n v) := by
  unfold State.beginStop
  repeat' with_reducible first
    | assumption | apply State.Keeps.ite | apply State.Keeps.modBerth | apply State.Keeps.setState
    | exact fun _ => Eq.refl _
theorem State.Keeps.stopRequest {r0 : State} {s : State} (n : Berth) (h0 : r0.Keeps s) :
    r0.Keeps (State.stopRequest s n) := by
  unfold State.stopRequest
  repeat' with_reducible first
    | assumption | apply State.Keeps.ite | apply State.Keeps.stopNow | apply State.Keeps.beginStop
    | apply State.Keeps.modStart | apply State.Keeps.endTrialStart
theorem State.Keeps.trip {r0 : State} {s : State} (n : Berth) (cause : Nat) (h0 : r0.Keeps s) :
    r0.Keeps (State.trip s n cause) := by
  unfold State.trip
  repeat' with_reducible first
    | assumption | apply State.Keeps.ite | apply State.Keeps.bset | apply State.Keeps.bputb
    | apply State.Keeps.modLegs | apply State.Keeps.setState | apply State.Keeps.settle
  all_goals
    intro q hq
    rw [Tri.get_map]
    exact hq

/-! ### Pwm -/
theorem State.Keeps.refreshCheck {r0 : State} {s : State} (n : Berth) (t : Nat) (h0 : r0.Keeps s) :
    r0.Keeps (State.refreshCheck s n t) := by
  unfold State.refreshCheck
  repeat' with_reducible first
    | assumption | apply State.Keeps.ite | apply State.Keeps.modLeg | apply State.Keeps.forAll | intro _ _ _
  all_goals first
    | exact fun h => h
theorem State.Keeps.countTargets {r0 : State} {s : State} (n : Berth) (h0 : r0.Keeps s) :
    r0.Keeps (State.countTargets s n) := by
  unfold State.countTargets
  repeat' with_reducible first
    | assumption | apply State.Keeps.ite | apply State.Keeps.modBerth | exact fun _ => Eq.refl _
theorem State.Keeps.countEvent {r0 : State} {s : State} (n : Berth) (c : Nat) (h0 : r0.Keeps s) :
    r0.Keeps (State.countEvent s n c) := by
  unfold State.countEvent
  repeat' with_reducible first
    | assumption | apply State.Keeps.ite | apply State.Keeps.modPwm | apply State.Keeps.modLeg
    | apply State.Keeps.settleAt | apply State.Keeps.reEnable | apply State.Keeps.forAll | intro _ _ _ | split
  all_goals first
    | exact fun h => h
theorem State.Keeps.boundary {r0 : State} {s : State} (n : Berth) (h0 : r0.Keeps s) :
    r0.Keeps (State.boundary s n) := by
  unfold State.boundary
  repeat' with_reducible first
    | assumption | apply State.Keeps.ite | apply State.Keeps.modPwm | apply State.Keeps.countEvent
theorem State.Keeps.raiseTripn {r0 : State} {s : State} (q : Quay) (l : List Berth) (h0 : r0.Keeps s) :
    r0.Keeps (State.raiseTripn s q l) := by
  unfold State.raiseTripn
  repeat' with_reducible first
    | assumption | apply State.Keeps.ite | apply State.Keeps.raiseQuay | split
theorem State.Keeps.tripPin {r0 : State} {s : State} (q : Quay) (h0 : r0.Keeps s) :
    r0.Keeps (State.tripPin s q) := by
  unfold State.tripPin
  repeat' with_reducible first
    | assumption | apply State.Keeps.ite | apply State.Keeps.trip | apply State.Keeps.raiseTripn
    | apply State.Keeps.forAll | intro _ _ _
theorem State.Keeps.tripClear {r0 : State} {s : State} (n : Berth) (h0 : r0.Keeps s) :
    r0.Keeps (State.tripClear s n) := by
  unfold State.tripClear
  repeat' with_reducible first
    | assumption | apply State.Keeps.ite | apply State.Keeps.bset | apply State.Keeps.bput
    | apply State.Keeps.setState | apply State.Keeps.pwmStop | apply State.Keeps.reEnableAll
    | apply State.Keeps.settle
theorem State.Keeps.writeShadow {r0 : State} {s : State} (n : Berth) (i : Nat) (v : Word) (h0 : r0.Keeps s) :
    r0.Keeps (State.writeShadow s n i v) := by
  unfold State.writeShadow
  repeat' with_reducible first
    | assumption | apply State.Keeps.ite | apply State.Keeps.bwr | apply State.Keeps.modPwm
theorem State.Keeps.loadAll {r0 : State} {s : State} (v : Word) (h0 : r0.Keeps s) :
    r0.Keeps (State.loadAll s v) := by
  unfold State.loadAll
  repeat' with_reducible first
    | assumption | apply State.Keeps.ite | apply State.Keeps.strobe | apply State.Keeps.forAll
theorem State.Keeps.forceWrite {r0 : State} {s : State} (n : Berth) (v : Word) (h0 : r0.Keeps s) :
    r0.Keeps (State.forceWrite s n v) := by
  unfold State.forceWrite
  repeat' with_reducible first
    | assumption | apply State.Keeps.ite | apply State.Keeps.bput | apply State.Keeps.settle
    | apply State.Keeps.reEnable | apply State.Keeps.forAll | intro _ _ _
theorem State.Keeps.forceSelf {r0 : State} {s : State} (n : Berth) (codes : Option (Nat × Nat × Nat)) (h0 : r0.Keeps s) :
    r0.Keeps (State.forceSelf s n codes) := by
  unfold State.forceSelf
  repeat' with_reducible first
    | assumption | apply State.Keeps.ite | apply State.Keeps.forceWrite | split
theorem State.Keeps.haltOn {r0 : State} {s : State} (h0 : r0.Keeps s) :
    r0.Keeps (State.haltOn s) := by
  unfold State.haltOn
  repeat' with_reducible first
    | assumption | apply State.Keeps.ite | apply State.Keeps.setb | apply State.Keeps.bclr
    | apply State.Keeps.modLegs | apply State.Keeps.forAll | intro _ _ _
  all_goals
    intro q hq
    rw [Tri.get_map]
    exact hq
theorem State.Keeps.haltResume {r0 : State} {s : State} (n : Berth) (h0 : r0.Keeps s) :
    r0.Keeps (State.haltResume s n) := by
  unfold State.haltResume
  repeat' with_reducible first
    | assumption | apply State.Keeps.ite | apply State.Keeps.modLegs
  all_goals
    intro q hq
    rw [Tri.get_map]
    exact hq
theorem State.Keeps.haltOff {r0 : State} {s : State} (h0 : r0.Keeps s) :
    r0.Keeps (State.haltOff s) := by
  unfold State.haltOff
  repeat' with_reducible first
    | assumption | apply State.Keeps.ite | apply State.Keeps.clrb | apply State.Keeps.haltResume
    | apply State.Keeps.settle | apply State.Keeps.forAll | intro _ _ _

/-! ### GateDrive -/
theorem State.Keeps.cutLeg {r0 : State} {s : State} (n : Berth) (p : Phase) (hi lo : Bool) (f : Leg → Leg) (hf : ∀ l, l.Safe → (f l).Safe)
    (h0 : r0.Keeps s) :
    r0.Keeps (State.cutLeg s n p hi lo f) := by
  unfold State.cutLeg
  repeat' with_reducible first
    | assumption | apply State.Keeps.ite | apply State.Keeps.modLeg
  all_goals first
    | exact fun h => hf _ (Leg.cut_safe _ _ _ _ _ h)
theorem State.Keeps.recordEdge {r0 : State} {s : State} (n : Berth) (p : Phase) (sd : Side) (soft : Bool) (t : Nat) (vb : Int) (h0 : r0.Keeps s) :
    r0.Keeps (State.recordEdge s n p sd soft t vb) := by
  unfold State.recordEdge
  repeat' with_reducible first
    | assumption | apply State.Keeps.ite | apply State.Keeps.bput | apply State.Keeps.bset | apply State.Keeps.bputb
theorem State.Keeps.interlockBerth {r0 : State} {s : State} (n : Berth) (p : Phase) (h0 : r0.Keeps s) :
    r0.Keeps (State.interlockBerth s n p) := by
  unfold State.interlockBerth
  repeat' with_reducible first
    | assumption | apply State.Keeps.ite | apply State.Keeps.cutLeg | apply State.Keeps.bset
    | apply State.Keeps.raiseBerth | apply State.Keeps.dockCal
  all_goals first
    | exact fun _ h => h
theorem State.Keeps.noteDetect {r0 : State} {s : State} (n : Berth) (p : Phase) (h0 : r0.Keeps s) :
    r0.Keeps (State.noteDetect s n p) := by
  unfold State.noteDetect
  repeat' with_reducible first
    | assumption | apply State.Keeps.ite | apply State.Keeps.modLeg | apply State.Keeps.modSens
  all_goals first
    | exact fun h => h
theorem State.Keeps.scDetect {r0 : State} {s : State} (n : Berth) (p : Phase) (h0 : r0.Keeps s) :
    r0.Keeps (State.scDetect s n p) := by
  unfold State.scDetect
  repeat' with_reducible first
    | assumption | apply State.Keeps.ite | apply State.Keeps.noteDetect | apply State.Keeps.bset
    | apply State.Keeps.cutLeg | apply State.Keeps.dockCal | apply State.Keeps.bput | apply State.Keeps.raiseBerth
    | split
  all_goals first
    | exact fun _ h => h
theorem State.Keeps.chopApply {r0 : State} {s : State} (q : Quay) (h0 : r0.Keeps s) :
    r0.Keeps (State.chopApply s q) := by
  unfold State.chopApply
  repeat' with_reducible first
    | assumption | apply State.Keeps.ite | apply State.Keeps.clrb | apply State.Keeps.putb
    | apply State.Keeps.modQuay

/-! ### Operands -/

/-! ### Sensing -/
theorem State.Keeps.miss {r0 : State} {s : State} (n : Berth) (h0 : r0.Keeps s) :
    r0.Keeps (State.miss s n) := by
  unfold State.miss
  repeat' with_reducible first
    | assumption | apply State.Keeps.ite | apply State.Keeps.bput | apply State.Keeps.bset | apply State.Keeps.bputb
    | apply State.Keeps.modBerth | apply State.Keeps.modPwm | apply State.Keeps.raiseBerth
    | apply State.Keeps.incSat | apply State.Keeps.stopRequest | exact fun _ => Eq.refl _
theorem State.Keeps.handOver {r0 : State} {s : State} (n : Berth) (ws : List Word) (h0 : r0.Keeps s) :
    r0.Keeps (State.handOver s n ws) := by
  unfold State.handOver
  repeat' with_reducible first
    | assumption | apply State.Keeps.ite | apply State.Keeps.miss | apply State.Keeps.modBerth
    | exact fun _ => Eq.refl _
theorem State.Keeps.failCurrent {r0 : State} {s : State} (n : Berth) (p : Phase) (h0 : r0.Keeps s) :
    r0.Keeps (State.failCurrent s n p) := by
  unfold State.failCurrent
  repeat' with_reducible first
    | assumption | apply State.Keeps.ite | apply State.Keeps.bset | apply State.Keeps.raiseBerth
theorem State.Keeps.failVoltage {r0 : State} {s : State} (n : Berth) (p : Phase) (h0 : r0.Keeps s) :
    r0.Keeps (State.failVoltage s n p) := by
  unfold State.failVoltage
  repeat' with_reducible first
    | assumption | apply State.Keeps.ite | apply State.Keeps.bset | apply State.Keeps.raiseBerth
theorem State.Keeps.restoreChannels {r0 : State} {s : State} (n : Berth) (h0 : r0.Keeps s) :
    r0.Keeps (State.restoreChannels s n) := by
  unfold State.restoreChannels
  repeat' with_reducible first
    | assumption | apply State.Keeps.ite | apply State.Keeps.bput | apply State.Keeps.bclr
theorem State.Keeps.sumCheck {r0 : State} {s : State} (n : Berth) (i : Tri Int) (h0 : r0.Keeps s) :
    r0.Keeps (State.sumCheck s n i) := by
  unfold State.sumCheck
  dsimp only
  repeat' with_reducible first
    | assumption | split | apply State.Keeps.modSens | apply State.Keeps.raiseBerth | apply State.Keeps.failCurrent | apply State.Keeps.bset
theorem State.Keeps.openPhase {r0 : State} {s : State} (n : Berth) (p : Phase) (h0 : r0.Keeps s) :
    r0.Keeps (State.openPhase s n p) := by
  unfold State.openPhase
  repeat' with_reducible first
    | assumption | apply State.Keeps.ite | apply State.Keeps.bput | apply State.Keeps.bset
    | apply State.Keeps.raiseBerth | apply State.Keeps.stopRequest
theorem State.Keeps.openCheck {r0 : State} {s : State} (n : Berth) (i : Tri Int) (err : Bool) (h0 : r0.Keeps s) :
    r0.Keeps (State.openCheck s n i err) := by
  unfold State.openCheck
  repeat' with_reducible first
    | assumption | apply State.Keeps.ite | apply State.Keeps.modSens | apply State.Keeps.openPhase
    | apply State.Keeps.forAll | intro _ _ _
theorem State.Keeps.limitCheck {r0 : State} {s : State} (n : Berth) (raw : Tri Int) (h0 : r0.Keeps s) :
    r0.Keeps (State.limitCheck s n raw) := by
  unfold State.limitCheck
  repeat' with_reducible first
    | assumption | apply State.Keeps.ite | apply State.Keeps.modLeg | apply State.Keeps.modSens
    | apply State.Keeps.failCurrent | apply State.Keeps.forAll | intro _ _ _
theorem State.Keeps.voltageCheck {r0 : State} {s : State} (n : Berth) (v : Tri Int) (vbus : Int) (h0 : r0.Keeps s) :
    r0.Keeps (State.voltageCheck s n v vbus) := by
  unfold State.voltageCheck
  repeat' with_reducible first
    | assumption | apply State.Keeps.ite | apply State.Keeps.modSens | apply State.Keeps.failVoltage
    | apply State.Keeps.forAll | intro _ _ _
theorem State.Keeps.resultSet {r0 : State} {s : State} (n : Berth) (raw : RawSet) (late : Channels) (h0 : r0.Keeps s) :
    r0.Keeps (State.resultSet s n raw late) := by
  unfold State.resultSet
  repeat' with_reducible first
    | assumption | apply State.Keeps.ite | apply State.Keeps.bset | apply State.Keeps.failCurrent
    | apply State.Keeps.failVoltage | apply State.Keeps.limitCheck | apply State.Keeps.voltageCheck
    | apply State.Keeps.sumCheck | apply State.Keeps.openCheck | apply State.Keeps.wrs | apply State.Keeps.modSens
    | apply State.Keeps.handOver | apply State.Keeps.forAll | intro _ _ _
theorem State.Keeps.hold {r0 : State} {s : State} (n : Berth) (B p d : Nat) (h0 : r0.Keeps s) :
    r0.Keeps (State.hold s n B p d) := by
  unfold State.hold
  repeat' with_reducible first
    | assumption | apply State.Keeps.ite | apply State.Keeps.modPwm | apply State.Keeps.modSens
theorem State.Keeps.calChannel {r0 : State} {s : State} (n : Berth) (off : Nat) (sum : Int) (timeout : Bool) (fail : State → State) (hf : ∀ t, r0.Keeps t → r0.Keeps (fail t)) (h0 : r0.Keeps s) :
    r0.Keeps (State.calChannel s n off sum timeout fail) := by
  unfold State.calChannel
  repeat' with_reducible first
    | assumption | apply State.Keeps.ite | apply hf | apply State.Keeps.bset | apply State.Keeps.bwr
theorem State.Keeps.calDone {r0 : State} {s : State} (n : Berth) (c : CalSums) (h0 : r0.Keeps s) :
    r0.Keeps (State.calDone s n c) := by
  unfold State.calDone
  repeat' with_reducible first
    | assumption | apply State.Keeps.ite | apply State.Keeps.modSens | apply State.Keeps.bput | apply State.Keeps.bclr
    | apply State.Keeps.put | apply State.Keeps.forAll | apply State.Keeps.calChannel | apply State.Keeps.failCurrent
    | apply State.Keeps.failVoltage | intro _ _ _ | intro _ _

/-! ### Engine -/

/-! ### Tenders -/
theorem State.Keeps.tdEvt {r0 : State} {s : State} (t : Tender) (b : Nat) (h0 : r0.Keeps s) :
    r0.Keeps (State.tdEvt s t b) := by
  unfold State.tdEvt
  repeat' with_reducible first
    | assumption | apply State.Keeps.ite | apply State.Keeps.tputb
theorem State.Keeps.raiseTender {r0 : State} {s : State} (t : Tender) (src : Nat) (h0 : r0.Keeps s) :
    r0.Keeps (State.raiseTender s t src) := by
  unfold State.raiseTender
  repeat' with_reducible first
    | assumption | apply State.Keeps.ite | apply State.Keeps.raiseAll
theorem State.Keeps.tdCut {r0 : State} {s : State} (t : Tender) (h0 : r0.Keeps s) :
    r0.Keeps (State.tdCut s t) := by
  unfold State.tdCut
  repeat' with_reducible first
    | assumption | apply State.Keeps.ite | apply State.Keeps.modTender
  all_goals first
    | exact fun _ h => Bool.noConfusion h.1
theorem State.Keeps.setTd {r0 : State} {s : State} (t : Tender) (v : Nat) (h0 : r0.Keeps s) :
    r0.Keeps (State.setTd s t v) := by
  unfold State.setTd
  repeat' with_reducible first
    | assumption | apply State.Keeps.ite | apply State.Keeps.modTender | apply State.Keeps.ddProgress
    | apply State.Keeps.tput | apply State.Keeps.tputb | apply State.Keeps.tdCut
  all_goals first
    | exact fun h => h
theorem State.Keeps.enterRamp {r0 : State} {s : State} (t : Tender) (v : Nat) (h0 : r0.Keeps s) :
    r0.Keeps (State.enterRamp s t v) := by
  unfold State.enterRamp
  repeat' with_reducible first
    | assumption | apply State.Keeps.ite | apply State.Keeps.modTender | apply State.Keeps.setTd
  all_goals first
    | exact fun h => h
theorem State.Keeps.enterTdOff {r0 : State} {s : State} (t : Tender) (h0 : r0.Keeps s) :
    r0.Keeps (State.enterTdOff s t) := by
  unfold State.enterTdOff
  repeat' with_reducible first
    | assumption | apply State.Keeps.ite | apply State.Keeps.modTender | apply State.Keeps.setTd
  all_goals first
    | exact fun h => h
theorem State.Keeps.enterHiccup {r0 : State} {s : State} (t : Tender) (h0 : r0.Keeps s) :
    r0.Keeps (State.enterHiccup s t) := by
  unfold State.enterHiccup
  repeat' with_reducible first
    | assumption | apply State.Keeps.ite | apply State.Keeps.tput | apply State.Keeps.tdEvt
    | apply State.Keeps.raiseTender | apply State.Keeps.setTd
theorem State.Keeps.tenderStop {r0 : State} {s : State} (t : Tender) (h0 : r0.Keeps s) :
    r0.Keeps (State.tenderStop s t) := by
  unfold State.tenderStop
  repeat' with_reducible first
    | assumption | apply State.Keeps.ite | apply State.Keeps.setTd | apply State.Keeps.enterTdOff
theorem State.Keeps.tenderStopHeld {r0 : State} {s : State} (t : Tender) (h0 : r0.Keeps s) :
    r0.Keeps (State.tenderStopHeld s t) := by
  unfold State.tenderStopHeld
  repeat' with_reducible first
    | assumption | apply State.Keeps.ite | apply State.Keeps.modTender | apply State.Keeps.tenderStop
  all_goals first
    | exact fun h => h
theorem State.Keeps.tenderHoldEnd {r0 : State} {s : State} (t : Tender) (h0 : r0.Keeps s) :
    r0.Keeps (State.tenderHoldEnd s t) := by
  unfold State.tenderHoldEnd
  repeat' with_reducible first
    | assumption | apply State.Keeps.ite | apply State.Keeps.tputb | apply State.Keeps.modTender
    | apply State.Keeps.tenderStop
  all_goals first
    | exact fun h => h
theorem State.Keeps.tenderStart {r0 : State} {s : State} (t : Tender) (h0 : r0.Keeps s) :
    r0.Keeps (State.tenderStart s t) := by
  unfold State.tenderStart
  repeat' with_reducible first
    | assumption | apply State.Keeps.ite | apply State.Keeps.modTender | apply State.Keeps.setTd
    | apply State.Keeps.enterRamp
  all_goals first
    | exact fun h => h
theorem State.Keeps.tenderCoast {r0 : State} {s : State} (t : Tender) (h0 : r0.Keeps s) :
    r0.Keeps (State.tenderCoast s t) := by
  unfold State.tenderCoast
  repeat' with_reducible first
    | assumption | apply State.Keeps.ite | apply State.Keeps.setTd
theorem State.Keeps.sleepStop {r0 : State} {s : State} (t : Tender) (h0 : r0.Keeps s) :
    r0.Keeps (State.sleepStop s t) := by
  unfold State.sleepStop
  repeat' with_reducible first
    | assumption | apply State.Keeps.ite | apply State.Keeps.modTender | apply State.Keeps.tenderStop
  all_goals first
    | exact fun h => h
theorem State.Keeps.sleepUndo {r0 : State} {s : State} (t : Tender) (h0 : r0.Keeps s) :
    r0.Keeps (State.sleepUndo s t) := by
  unfold State.sleepUndo
  repeat' with_reducible first
    | assumption | apply State.Keeps.ite | apply State.Keeps.modTender | apply State.Keeps.tenderStart
  all_goals first
    | exact fun h => h
theorem State.Keeps.tdClamp {r0 : State} {s : State} (t : Tender) (hi lo : Nat) (h0 : r0.Keeps s) :
    r0.Keeps (State.tdClamp s t hi lo) := by
  unfold State.tdClamp
  repeat' with_reducible first
    | assumption | apply State.Keeps.ite | apply State.Keeps.tdEvt
theorem State.Keeps.tdPeriodStart {r0 : State} {s : State} (t : Tender) (bootOk : Bool) (h0 : r0.Keeps s) :
    r0.Keeps (State.tdPeriodStart s t bootOk) := by
  unfold State.tdPeriodStart
  dsimp only
  have h1 := ((h0.modTender t (fun x =>
      { x with
        cur := x.next1, next1 := x.next2, at0 := s.tdBoundary t, due := none, hi := false, lo := false, hiT := 0, lowT := 0, zc := false
        ilk := x.ilkBusy
        clean := if s.tflag t TD_STAT 6 = true then 0 else (s.tender t).clean + 1
        limAt := if (if s.tflag t TD_STAT 6 = true then 0 else (s.tender t).clean + 1) ≥ 10 then none else x.limAt })
      fun _ h => Bool.noConfusion h.1).tputb t TD_STAT 6 false).tputb t TD_STAT 7 false
  refine .ite _ h1 (.ite _ (h1.tdEvt _ _) (h1.modTender t _ fun _ h => ?_))
  exact Bool.noConfusion (h.2.symm.trans (State.tender_lo_off s t _ (fun _ => Eq.refl _) _ _ _ _ _ _))
theorem State.Keeps.tdLowOn {r0 : State} {s : State} (t : Tender) (h0 : r0.Keeps s) :
    r0.Keeps (State.tdLowOn s t) := by
  unfold State.tdLowOn
  dsimp only
  split
  · rename_i c
    refine (((h0.tdClamp t 6 0).tdClamp t 17 11)).modTender t _ fun _ h => ?_
    have e : (s.tender t).hi = true := by
      have := h.1
      rwa [State.tdClamp_tender, State.tdClamp_tender] at this
    simp [e] at c
  · exact (h0.tdClamp t 6 0).tdClamp t 17 11
theorem State.Keeps.tdLoss {r0 : State} {s : State} (t : Tender) (h0 : r0.Keeps s) :
    r0.Keeps (State.tdLoss s t) := by
  unfold State.tdLoss
  exact (h0.upd (Eq.refl _) (Eq.refl _) (Eq.refl _) (Eq.refl _) (Eq.refl _) (Eq.refl _)).useFree 1
theorem State.Keeps.tdRecord {r0 : State} {s : State} (t : Tender) (m : TenderMeas) (h0 : r0.Keeps s) :
    r0.Keeps (State.tdRecord s t m) := by
  unfold State.tdRecord
  repeat' with_reducible first
    | assumption | apply State.Keeps.ite | apply State.Keeps.tdLoss | apply State.Keeps.tput | apply State.Keeps.twr
    | apply State.Keeps.useFree | apply State.Keeps.modTender | apply State.Keeps.tdCut
  all_goals exact fun h => h
theorem State.Keeps.thermalStopTender {r0 : State} {s : State} (t : Tender) (orderly : Bool) (h0 : r0.Keeps s) :
    r0.Keeps (State.thermalStopTender s t orderly) := by
  unfold State.thermalStopTender
  repeat' with_reducible first
    | assumption | apply State.Keeps.ite | apply State.Keeps.tputb | apply State.Keeps.modTender
    | apply State.Keeps.tenderStopHeld | apply State.Keeps.tenderCoast
  all_goals first
    | exact fun h => h
theorem State.Keeps.waitingStop {r0 : State} {s : State} (h0 : r0.Keeps s) :
    r0.Keeps (State.waitingStop s) := by
  unfold State.waitingStop
  repeat' with_reducible first
    | assumption | apply State.Keeps.ite | apply State.Keeps.modTherm | apply State.Keeps.thermalStopTender

/-! ### Tokens -/
theorem State.Keeps.putLane {r0 : State} {s : State} (l : Fin 5) (v : Nat) (h0 : r0.Keeps s) :
    r0.Keeps (State.putLane s l v) := by
  unfold State.putLane
  repeat' with_reducible first
    | assumption | apply State.Keeps.ite | apply State.Keeps.put
theorem State.Keeps.swapLane {r0 : State} {s : State} (l : Fin 5) (v : Nat) (h0 : r0.Keeps s) :
    r0.Keeps (s.swapLane l v).1 := by
  unfold State.swapLane
  dsimp only
  split
  · exact ((h0.putLane _ _).setb _ _).putLane _ _
  · exact (h0.putLane _ _).setb _ _
theorem State.Keeps.laneShortage {r0 : State} {s : State} (h0 : r0.Keeps s) :
    r0.Keeps (State.laneShortage s) := by
  unfold State.laneShortage
  repeat' with_reducible first
    | assumption | apply State.Keeps.ite | apply State.Keeps.stopRequest | apply State.Keeps.forAll
theorem State.Keeps.raiseLane {r0 : State} {s : State} (src : Nat) (l : Fin 5) (h0 : r0.Keeps s) :
    r0.Keeps (State.raiseLane s src l) := by
  unfold State.raiseLane
  repeat' with_reducible first
    | assumption | apply State.Keeps.ite | apply State.Keeps.raise
theorem State.Keeps.returnToken {r0 : State} {s : State} (l : Fin 5) (h0 : r0.Keeps s) :
    r0.Keeps (State.returnToken s l) := by
  unfold State.returnToken
  repeat' with_reducible first
    | assumption | apply State.Keeps.ite | apply State.Keeps.miss | apply State.Keeps.modBerth | split
    | exact fun _ => Eq.refl _
theorem State.Keeps.dropSwap {r0 : State} {s : State} (l : Fin 5) (h0 : r0.Keeps s) :
    r0.Keeps (State.dropSwap s l) := by
  unfold State.dropSwap
  repeat' with_reducible first
    | assumption | apply State.Keeps.ite | apply State.Keeps.modDock
theorem State.Keeps.swapOut {r0 : State} {s : State} (l : Fin 5) (h0 : r0.Keeps s) :
    r0.Keeps (State.swapOut s l) := by
  unfold State.swapOut
  repeat' with_reducible first
    | assumption | apply State.Keeps.ite | apply State.Keeps.dropSwap | apply State.Keeps.laneShortage | apply State.Keeps.swapLane
theorem State.Keeps.addWide {r0 : State} {s : State} (n : Berth) (o k : Nat) (h0 : r0.Keeps s) :
    r0.Keeps (State.addWide s n o k) := by
  unfold State.addWide
  repeat' with_reducible first
    | assumption | apply State.Keeps.ite | apply State.Keeps.putWide
theorem State.Keeps.ledger {r0 : State} {s : State} (n : Berth) (pin : Int) (fet : Nat) (pout2 : Int) (d : Nat) (wrapped : Bool) (h0 : r0.Keeps s) :
    r0.Keeps (State.ledger s n pin fet pout2 d wrapped) := by
  unfold State.ledger
  repeat' with_reducible first
    | assumption | apply State.Keeps.ite | apply State.Keeps.modCtl | apply State.Keeps.addWide
theorem State.Keeps.lossUpdate {r0 : State} {s : State} (v : State) (n : Berth) (o : TokOut) (fet : Nat) (h0 : r0.Keeps s) :
    r0.Keeps (State.lossUpdate s v n o fet) := by
  unfold State.lossUpdate
  repeat' with_reducible first
    | assumption | apply State.Keeps.ite | apply State.Keeps.modBerth | apply State.Keeps.bclr
    | apply State.Keeps.bset | exact fun _ => Eq.refl _
theorem State.Keeps.acceptPkg {r0 : State} {s : State} (n : Berth) (p : Pkg) (t : Token) (restore : Bool) (h0 : r0.Keeps s) :
    r0.Keeps (State.acceptPkg s n p t restore) := by
  unfold State.acceptPkg
  repeat' with_reducible first
    | assumption | apply State.Keeps.ite | apply State.Keeps.writeShadow | apply State.Keeps.modSens
    | apply State.Keeps.strobe | apply State.Keeps.wrs | apply State.Keeps.bput | apply State.Keeps.modBerth | split
    | exact fun _ => Eq.refl _
theorem State.Keeps.positionCheck {r0 : State} {s : State} (v : State) (n : Berth) (h0 : r0.Keeps s) :
    r0.Keeps (State.positionCheck s v n) := by
  unfold State.positionCheck
  repeat' with_reducible first
    | assumption | apply State.Keeps.ite | apply State.Keeps.stopNow | apply State.Keeps.setState
theorem State.Keeps.traceSample {r0 : State} {s : State} (v : State) (n : Berth) (h0 : r0.Keeps s) :
    r0.Keeps (State.traceSample s v n) := by
  unfold State.traceSample
  repeat' with_reducible first
    | assumption | apply State.Keeps.ite | apply State.Keeps.modLog
theorem State.Keeps.laneDone {r0 : State} {s : State} (l : Fin 5) (h0 : r0.Keeps s) :
    r0.Keeps (State.laneDone s l) := by
  unfold State.laneDone
  repeat' with_reducible first
    | assumption | apply State.Keeps.ite | apply State.Keeps.swapOut
theorem State.Keeps.clearLedger {r0 : State} {s : State} (n : Berth) (h0 : r0.Keeps s) :
    r0.Keeps (State.clearLedger s n) := by
  unfold State.clearLedger
  repeat' with_reducible first
    | assumption | apply State.Keeps.ite | apply State.Keeps.modCtl | apply State.Keeps.wrs

/-! ### Rotor -/
theorem State.Keeps.toPhase {r0 : State} {s : State} (n : Berth) (k : Nat) (h0 : r0.Keeps s) :
    r0.Keeps (State.toPhase s n k) := by
  unfold State.toPhase
  repeat' with_reducible first
    | assumption | apply State.Keeps.ite | apply State.Keeps.bput | apply State.Keeps.modStart
theorem State.Keeps.toRunning {r0 : State} {s : State} (n : Berth) (h0 : r0.Keeps s) :
    r0.Keeps (State.toRunning s n) := by
  unfold State.toRunning
  repeat' with_reducible first
    | assumption | apply State.Keeps.ite | apply State.Keeps.bput | apply State.Keeps.bclr | apply State.Keeps.bwr
    | apply State.Keeps.modBerth | apply State.Keeps.setState | exact fun _ => Eq.refl _
theorem State.Keeps.reachLoop {r0 : State} {s : State} (n : Berth) (h0 : r0.Keeps s) :
    r0.Keeps (State.reachLoop s n) := by
  unfold State.reachLoop
  repeat' with_reducible first
    | assumption | apply State.Keeps.ite | apply State.Keeps.bput | apply State.Keeps.toRunning
theorem State.Keeps.beginListen {r0 : State} {s : State} (n : Berth) (phase : Nat) (h0 : r0.Keeps s) :
    r0.Keeps (State.beginListen s n phase) := by
  unfold State.beginListen
  repeat' with_reducible first
    | assumption | apply State.Keeps.ite | apply State.Keeps.modStart | apply State.Keeps.disableEn
    | apply State.Keeps.forceSelf | apply State.Keeps.toPhase
theorem State.Keeps.beginShortBrake {r0 : State} {s : State} (n : Berth) (h0 : r0.Keeps s) :
    r0.Keeps (State.beginShortBrake s n) := by
  unfold State.beginShortBrake
  repeat' with_reducible first
    | assumption | apply State.Keeps.ite | apply State.Keeps.modStart | apply State.Keeps.forceSelf
    | apply State.Keeps.toPhase
theorem State.Keeps.beginBurst {r0 : State} {s : State} (n : Berth) (h0 : r0.Keeps s) :
    r0.Keeps (State.beginBurst s n) := by
  unfold State.beginBurst
  repeat' with_reducible first
    | assumption | apply State.Keeps.ite | apply State.Keeps.modStart | apply State.Keeps.forceSelf
    | apply State.Keeps.toPhase
theorem State.Keeps.brakePulse {r0 : State} {s : State} (n : Berth) (h0 : r0.Keeps s) :
    r0.Keeps (State.brakePulse s n) := by
  unfold State.brakePulse
  repeat' with_reducible first
    | assumption | apply State.Keeps.ite | apply State.Keeps.modPwm | apply State.Keeps.forceSelf
theorem State.Keeps.beginReverseBrake {r0 : State} {s : State} (n : Berth) (h0 : r0.Keeps s) :
    r0.Keeps (State.beginReverseBrake s n) := by
  unfold State.beginReverseBrake
  repeat' with_reducible first
    | assumption | apply State.Keeps.ite | apply State.Keeps.modStart | apply State.Keeps.beginBurst
theorem State.Keeps.probePulse {r0 : State} {s : State} (n : Berth) (k : Nat) (h0 : r0.Keeps s) :
    r0.Keeps (State.probePulse s n k) := by
  unfold State.probePulse
  repeat' with_reducible first
    | assumption | apply State.Keeps.ite | apply State.Keeps.modStart | apply State.Keeps.forceSelf
theorem State.Keeps.beginProbe {r0 : State} {s : State} (n : Berth) (h0 : r0.Keeps s) :
    r0.Keeps (State.beginProbe s n) := by
  unfold State.beginProbe
  repeat' with_reducible first
    | assumption | apply State.Keeps.ite | apply State.Keeps.modStart | apply State.Keeps.disableEn
    | apply State.Keeps.toPhase | apply State.Keeps.probePulse
theorem State.Keeps.beginOpenLoop {r0 : State} {s : State} (n : Berth) (th : Nat) (w : Int) (h0 : r0.Keeps s) :
    r0.Keeps (State.beginOpenLoop s n th w) := by
  unfold State.beginOpenLoop
  repeat' with_reducible first
    | assumption | apply State.Keeps.ite | apply State.Keeps.bset | apply State.Keeps.modBerth
    | apply State.Keeps.enableEn | apply State.Keeps.forceSelf | apply State.Keeps.toPhase
    | exact fun _ => Eq.refl _
theorem State.Keeps.beginAlign {r0 : State} {s : State} (n : Berth) (h0 : r0.Keeps s) :
    r0.Keeps (State.beginAlign s n) := by
  unfold State.beginAlign
  repeat' with_reducible first
    | assumption | apply State.Keeps.ite | apply State.Keeps.enableEn | apply State.Keeps.forceSelf
    | apply State.Keeps.toPhase
theorem State.Keeps.beginScan {r0 : State} {s : State} (n : Berth) (h0 : r0.Keeps s) :
    r0.Keeps (State.beginScan s n) := by
  unfold State.beginScan
  repeat' with_reducible first
    | assumption | apply State.Keeps.ite | apply State.Keeps.modBerth | apply State.Keeps.enableEn
    | apply State.Keeps.forceSelf | apply State.Keeps.toPhase | exact fun _ => Eq.refl _
theorem State.Keeps.atRest {r0 : State} {s : State} (n : Berth) (h0 : r0.Keeps s) :
    r0.Keeps (State.atRest s n) := by
  unfold State.atRest
  repeat' with_reducible first
    | assumption | apply State.Keeps.ite | apply State.Keeps.beginProbe | apply State.Keeps.beginScan
theorem State.Keeps.afterCal {r0 : State} {s : State} (n : Berth) (h0 : r0.Keeps s) :
    r0.Keeps (State.afterCal s n) := by
  unfold State.afterCal
  repeat' with_reducible first
    | assumption | apply State.Keeps.ite | apply State.Keeps.beginListen | apply State.Keeps.atRest
theorem State.Keeps.beginStart {r0 : State} {s : State} (n : Berth) (homing : Bool) (h0 : r0.Keeps s) :
    r0.Keeps (State.beginStart s n homing) := by
  unfold State.beginStart
  repeat' with_reducible first
    | assumption | apply State.Keeps.ite | apply State.Keeps.bclr | apply State.Keeps.bputb
    | apply State.Keeps.modStart | apply State.Keeps.startCal | apply State.Keeps.disableEn
    | apply State.Keeps.setState | apply State.Keeps.toPhase | apply State.Keeps.afterCal
theorem State.Keeps.sync {r0 : State} {s : State} (n : Berth) (w : Int) (th : Nat) (h0 : r0.Keeps s) :
    r0.Keeps (State.sync s n w th) := by
  unfold State.sync
  repeat' with_reducible first
    | assumption | apply State.Keeps.ite | apply State.Keeps.bwr | apply State.Keeps.modCtl
    | apply State.Keeps.enableEn
theorem State.Keeps.catchForward {r0 : State} {s : State} (n : Berth) (w : Int) (th : Nat) (run : State → State) (hf : ∀ t, r0.Keeps t → r0.Keeps (run t)) (h0 : r0.Keeps s) :
    r0.Keeps (State.catchForward s n w th run) := by
  unfold State.catchForward
  repeat' with_reducible first
    | assumption | apply State.Keeps.ite | apply State.Keeps.setState | apply State.Keeps.beginOpenLoop
    | apply hf | apply State.Keeps.sync
theorem State.Keeps.catchRest {r0 : State} {s : State} (n : Berth) (known : Bool) (w : Int) (h0 : r0.Keeps s) :
    r0.Keeps (State.catchRest s n known w) := by
  unfold State.catchRest
  repeat' with_reducible first
    | assumption | apply State.Keeps.ite | apply State.Keeps.beginShortBrake | apply State.Keeps.beginReverseBrake
theorem State.Keeps.startFails {r0 : State} {s : State} (n : Berth) (h0 : r0.Keeps s) :
    r0.Keeps (State.startFails s n) := by
  unfold State.startFails
  repeat' with_reducible first
    | assumption | apply State.Keeps.ite | apply State.Keeps.endTrialStart | apply State.Keeps.stopNow
    | apply State.Keeps.bset | apply State.Keeps.raiseBerth | apply State.Keeps.modStart
theorem State.Keeps.homeDone {r0 : State} {s : State} (n : Berth) (th : Nat) (h0 : r0.Keeps s) :
    r0.Keeps (State.homeDone s n th) := by
  unfold State.homeDone
  repeat' with_reducible first
    | assumption | apply State.Keeps.ite | apply State.Keeps.bset | apply State.Keeps.bwr
    | apply State.Keeps.modBerth | apply State.Keeps.stopNow | exact fun _ => Eq.refl _
theorem State.Keeps.probeDecide {r0 : State} {s : State} (n : Berth) (peaks : List Nat) (h0 : r0.Keeps s) :
    r0.Keeps (State.probeDecide s n peaks) := by
  unfold State.probeDecide
  repeat' with_reducible first
    | assumption | apply State.Keeps.ite | apply State.Keeps.bset | apply State.Keeps.bwr | apply State.Keeps.modCtl
    | apply State.Keeps.forceSelf | apply State.Keeps.beginOpenLoop | apply State.Keeps.beginAlign
    | apply State.Keeps.homeDone
theorem State.Keeps.restart {r0 : State} {s : State} (n : Berth) (h0 : r0.Keeps s) :
    r0.Keeps (State.restart s n) := by
  unfold State.restart
  repeat' with_reducible first
    | assumption | apply State.Keeps.ite | apply State.Keeps.bclr | apply State.Keeps.modStart
theorem State.Keeps.giveUp {r0 : State} {s : State} (n : Berth) (h0 : r0.Keeps s) :
    r0.Keeps (State.giveUp s n) := by
  unfold State.giveUp
  repeat' with_reducible first
    | assumption | apply State.Keeps.ite | apply State.Keeps.bset | apply State.Keeps.bclr
    | apply State.Keeps.modStart | apply State.Keeps.raiseBerth | apply State.Keeps.setState
    | apply State.Keeps.stopNow | apply State.Keeps.beginListen
theorem State.Keeps.home {r0 : State} {s : State} (n : Berth) (h0 : r0.Keeps s) :
    r0.Keeps (State.home s n) := by
  unfold State.home
  repeat' with_reducible first
    | assumption | apply State.Keeps.ite | apply State.Keeps.beginStart

/-! ### Thermal -/
theorem State.Keeps.thEvt {r0 : State} {s : State} (b : Nat) (h0 : r0.Keeps s) :
    r0.Keeps (State.thEvt s b) := by
  unfold State.thEvt
  repeat' with_reducible first
    | assumption | apply State.Keeps.ite | apply State.Keeps.setb
theorem State.Keeps.startRound {r0 : State} {s : State} (h0 : r0.Keeps s) :
    r0.Keeps (State.startRound s) := by
  unfold State.startRound
  repeat' with_reducible first
    | assumption | apply State.Keeps.ite | apply State.Keeps.modTherm
theorem State.Keeps.requestRound {r0 : State} {s : State} (m : BitVec 10) (h0 : r0.Keeps s) :
    r0.Keeps (State.requestRound s m) := by
  unfold State.requestRound
  repeat' with_reducible first
    | assumption | apply State.Keeps.ite | apply State.Keeps.modTherm | apply State.Keeps.startRound
theorem State.Keeps.thConv {r0 : State} {s : State} (v : Word) (h0 : r0.Keeps s) :
    r0.Keeps (State.thConv s v) := by
  unfold State.thConv
  repeat' with_reducible first
    | assumption | apply State.Keeps.ite | apply State.Keeps.requestRound
theorem State.Keeps.thReadmit {r0 : State} {s : State} (v : Word) (h0 : r0.Keeps s) :
    r0.Keeps (State.thReadmit s v) := by
  unfold State.thReadmit
  repeat' with_reducible first
    | assumption | apply State.Keeps.ite | apply State.Keeps.put | apply State.Keeps.modTherm
theorem State.Keeps.dropUnc {r0 : State} {s : State} (k : Nat) (h0 : r0.Keeps s) :
    r0.Keeps (State.dropUnc s k) := by
  unfold State.dropUnc
  repeat' with_reducible first
    | assumption | apply State.Keeps.ite | apply State.Keeps.modTherm | apply State.Keeps.wr
theorem State.Keeps.excludeSensor {r0 : State} {s : State} (k bit src : Nat) (h0 : r0.Keeps s) :
    r0.Keeps (State.excludeSensor s k bit src) := by
  unfold State.excludeSensor
  repeat' with_reducible first
    | assumption | apply State.Keeps.ite | apply State.Keeps.setb | apply State.Keeps.thEvt
    | apply State.Keeps.raiseAll | apply State.Keeps.raiseQuay | apply State.Keeps.modTherm
    | apply State.Keeps.dropUnc
theorem State.Keeps.noteThCtl {r0 : State} {s : State} (old : State) (h0 : r0.Keeps s) :
    r0.Keeps (State.noteThCtl s old) := by
  unfold State.noteThCtl
  repeat' with_reducible first
    | assumption | apply State.Keeps.ite | apply State.Keeps.dropUnc | apply State.Keeps.raiseQuay
    | apply State.Keeps.forAll | intro _ _ _
theorem State.Keeps.advanceNodes {r0 : State} {s : State} (h0 : r0.Keeps s) :
    r0.Keeps (State.advanceNodes s) := by
  unfold State.advanceNodes
  repeat' with_reducible first
    | assumption | apply State.Keeps.ite | apply State.Keeps.useFree | apply State.Keeps.modTherm
theorem State.Keeps.modNode {r0 : State} {s : State} (j : Nat) (f : Node → Node) (h0 : r0.Keeps s) :
    r0.Keeps (State.modNode s j f) := by
  unfold State.modNode
  repeat' with_reducible first
    | assumption | apply State.Keeps.ite | apply State.Keeps.modTherm
theorem State.Keeps.noteResult {r0 : State} {s : State} (k : Nat) (code e : Int) (h0 : r0.Keeps s) :
    r0.Keeps (State.noteResult s k code e) := by
  unfold State.noteResult
  repeat' with_reducible first
    | assumption | apply State.Keeps.ite | apply State.Keeps.wr | apply State.Keeps.raiseAll
    | apply State.Keeps.modTherm | apply State.Keeps.thEvt
theorem State.Keeps.setBoardRef {r0 : State} {s : State} (q : Quay) (used : List UsedRes) (h0 : r0.Keeps s) :
    r0.Keeps (State.setBoardRef s q used) := by
  unfold State.setBoardRef
  repeat' with_reducible first
    | assumption | apply State.Keeps.ite | apply State.Keeps.modTherm | apply State.Keeps.useFree
theorem State.Keeps.useResults {r0 : State} {s : State} (h0 : r0.Keeps s) :
    r0.Keeps (State.useResults s) := by
  unfold State.useResults
  repeat' with_reducible first
    | assumption | apply State.Keeps.ite | apply State.Keeps.modNode | apply State.Keeps.useFree
    | apply State.Keeps.noteResult | apply State.Keeps.setBoardRef | apply State.Keeps.forAll | intro _ _ _
theorem State.Keeps.startModel {r0 : State} {s : State} (h0 : r0.Keeps s) :
    r0.Keeps (State.startModel s) := by
  unfold State.startModel
  repeat' with_reducible first
    | assumption | apply State.Keeps.useFree | apply State.Keeps.ite | apply State.Keeps.wr | apply State.Keeps.setb
    | apply State.Keeps.modTherm | apply State.Keeps.modNode | apply State.Keeps.setBoardRef
    | apply State.Keeps.forAll | intro _ _ _ | split
theorem State.Keeps.growUnc {r0 : State} {s : State} (old : List Node) (h0 : r0.Keeps s) :
    r0.Keeps (State.growUnc s old) := by
  unfold State.growUnc
  repeat' with_reducible first
    | assumption | apply State.Keeps.ite | apply State.Keeps.modTherm
theorem State.Keeps.nodeLevels {r0 : State} {s : State} (j : Nat) (was : Bool) (h0 : r0.Keeps s) :
    r0.Keeps (State.nodeLevels s j was) := by
  unfold State.nodeLevels
  repeat' with_reducible first
    | assumption | apply State.Keeps.ite | apply State.Keeps.raise | apply State.Keeps.thEvt
    | apply State.Keeps.modNode
theorem State.Keeps.modUnit {r0 : State} {s : State} (u : Nat) (f : UnitTh → UnitTh) (h0 : r0.Keeps s) :
    r0.Keeps (State.modUnit s u f) := by
  unfold State.modUnit
  repeat' with_reducible first
    | assumption | apply State.Keeps.ite | apply State.Keeps.modTherm
theorem State.Keeps.unitUpdate {r0 : State} {s : State} (u : Nat) (h0 : r0.Keeps s) :
    r0.Keeps (State.unitUpdate s u) := by
  unfold State.unitUpdate
  repeat' with_reducible first
    | assumption | apply State.Keeps.ite | apply State.Keeps.raise | apply State.Keeps.thEvt
    | apply State.Keeps.requestRound | apply State.Keeps.modUnit
theorem State.Keeps.markStop {r0 : State} {s : State} (u : Nat) (h0 : r0.Keeps s) :
    r0.Keeps (State.markStop s u) := by
  unfold State.markStop
  repeat' with_reducible first
    | assumption | apply State.Keeps.ite | apply State.Keeps.setb | apply State.Keeps.raise
    | apply State.Keeps.thEvt
theorem State.Keeps.thermalStopBerth {r0 : State} {s : State} (n : Berth) (orderly : Bool) (h0 : r0.Keeps s) :
    r0.Keeps (State.thermalStopBerth s n orderly) := by
  unfold State.thermalStopBerth
  repeat' with_reducible first
    | assumption | apply State.Keeps.ite | apply State.Keeps.bput | apply State.Keeps.bclr
    | apply State.Keeps.modStart | apply State.Keeps.disableEn | apply State.Keeps.stopNow
    | apply State.Keeps.stopRequest | apply State.Keeps.markStop
theorem State.Keeps.thermalStop {r0 : State} {s : State} (u : Nat) (h0 : r0.Keeps s) :
    r0.Keeps (State.thermalStop s u) := by
  unfold State.thermalStop
  repeat' with_reducible first
    | assumption | apply State.Keeps.ite | apply State.Keeps.modTherm | apply State.Keeps.markStop
    | apply State.Keeps.thermalStopBerth | apply State.Keeps.thermalStopTender | apply State.Keeps.forAll
    | intro _ _ _ | split
theorem State.Keeps.clearStop {r0 : State} {s : State} (u : Nat) (h0 : r0.Keeps s) :
    r0.Keeps (State.clearStop s u) := by
  unfold State.clearStop
  repeat' with_reducible first
    | assumption | apply State.Keeps.ite | apply State.Keeps.clrb | apply State.Keeps.modTender
    | apply State.Keeps.setTd | split
  all_goals first
    | exact fun h => h
theorem State.Keeps.showUnits {r0 : State} {s : State} (h0 : r0.Keeps s) :
    r0.Keeps (State.showUnits s) := by
  unfold State.showUnits
  repeat' with_reducible first
    | assumption | apply State.Keeps.ite | apply State.Keeps.put | apply State.Keeps.putb | apply State.Keeps.forAll
    | intro _ _ _
theorem State.Keeps.skewSet {r0 : State} {s : State} (b : Nat) (exceeds : Bool) (h0 : r0.Keeps s) :
    r0.Keeps (State.skewSet s b exceeds) := by
  unfold State.skewSet
  repeat' with_reducible first
    | assumption | apply State.Keeps.ite | apply State.Keeps.setb | apply State.Keeps.putb
    | apply State.Keeps.raiseAll
theorem State.Keeps.thermCommit {r0 : State} {s : State} (saved : Option ThermalCopy) (h0 : r0.Keeps s) :
    r0.Keeps (State.thermCommit s saved) := by
  unfold State.thermCommit
  repeat' with_reducible first
    | assumption | apply State.Keeps.ite | apply State.Keeps.modTherm | apply State.Keeps.requestRound

/-! ### Crc -/

/-! ### Memory -/
theorem State.Keeps.enqueue {r0 : State} {s : State} (l : List MemEntry) (h0 : r0.Keeps s) :
    r0.Keeps (State.enqueue s l) := by
  unfold State.enqueue
  repeat' with_reducible first
    | assumption | apply State.Keeps.ite | apply State.Keeps.modMem
theorem State.Keeps.enqueueHost {r0 : State} {s : State} (e : MemEntry) (h0 : r0.Keeps s) :
    r0.Keeps (State.enqueueHost s e) := by
  unfold State.enqueueHost
  repeat' with_reducible first
    | assumption | apply State.Keeps.ite | apply State.Keeps.modMem
theorem State.Keeps.dropEntry {r0 : State} {s : State} (e : MemEntry) (h0 : r0.Keeps s) :
    r0.Keeps (State.dropEntry s e) := by
  unfold State.dropEntry
  repeat' with_reducible first
    | assumption | apply State.Keeps.ite | apply State.Keeps.modMem
theorem State.Keeps.endJobs {r0 : State} {s : State} (p : MemJob → Bool) (h0 : r0.Keeps s) :
    r0.Keeps (State.endJobs s p) := by
  unfold State.endJobs
  repeat' with_reducible first
    | assumption | apply State.Keeps.ite | apply State.Keeps.modMem
theorem State.Keeps.endJob {r0 : State} {s : State} (j : MemJob) (h0 : r0.Keeps s) :
    r0.Keeps (State.endJob s j) := by
  unfold State.endJob
  repeat' with_reducible first
    | assumption | apply State.Keeps.ite | apply State.Keeps.endJobs
theorem State.Keeps.startReads {r0 : State} {s : State} (l : List MemEntry) (h0 : r0.Keeps s) :
    r0.Keeps (State.startReads s l) := by
  unfold State.startReads
  repeat' with_reducible first
    | assumption | apply State.Keeps.ite | apply State.Keeps.modLoad | apply State.Keeps.enqueue
theorem State.Keeps.readHeaders {r0 : State} {s : State} (h0 : r0.Keeps s) :
    r0.Keeps (State.readHeaders s) := by
  unfold State.readHeaders
  repeat' with_reducible first
    | assumption | apply State.Keeps.ite | apply State.Keeps.startReads
theorem State.Keeps.readSlot {r0 : State} {s : State} (k : Nat) (h0 : r0.Keeps s) :
    r0.Keeps (State.readSlot s k) := by
  unfold State.readSlot
  repeat' with_reducible first
    | assumption | apply State.Keeps.ite | apply State.Keeps.startReads
theorem State.Keeps.takeRead {r0 : State} {s : State} (job : MemJob) (k : Nat) (b : List Nat) (h0 : r0.Keeps s) :
    r0.Keeps (State.takeRead s job k b) := by
  unfold State.takeRead
  repeat' with_reducible first
    | assumption | apply State.Keeps.ite | apply State.Keeps.modLoad | apply State.Keeps.enqueue
theorem State.Keeps.loaderResume {r0 : State} {s : State} (h0 : r0.Keeps s) :
    r0.Keeps (State.loaderResume s) := by
  unfold State.loaderResume
  repeat' with_reducible first
    | assumption | apply State.Keeps.ite | apply State.Keeps.readHeaders | apply State.Keeps.readSlot | split

/-! ### Flags -/
theorem State.Keeps.clearRc {r0 : State} {s : State} (a : Nat) (h0 : r0.Keeps s) :
    r0.Keeps (State.clearRc s a) := by
  unfold State.clearRc
  repeat' with_reducible first
    | assumption | apply State.Keeps.ite | apply State.Keeps.wr | apply State.Keeps.foldl | intro _ _ _ | split
theorem State.Keeps.readReg {r0 : State} {s : State} (m a : Nat) (h0 : r0.Keeps s) : r0.Keeps (s.readReg m a).2 := by
  unfold State.readReg
  dsimp only
  repeat' with_reducible first
    | split
    | assumption
    | apply State.Keeps.clearRc
    | apply State.Keeps.setb
  exact h0.upd (Eq.refl _) (Eq.refl _) (Eq.refl _) (Eq.refl _) (Eq.refl _) (Eq.refl _)

/-! ### Tide -/
theorem State.Keeps.putMfState {r0 : State} {s : State} (v : Nat) (h0 : r0.Keeps s) :
    r0.Keeps (State.putMfState s v) := by
  unfold State.putMfState
  repeat' with_reducible first
    | assumption | apply State.Keeps.ite | apply State.Keeps.put
theorem State.Keeps.showWait {r0 : State} {s : State} (h0 : r0.Keeps s) :
    r0.Keeps (State.showWait s) := by
  unfold State.showWait
  repeat' with_reducible first
    | assumption | apply State.Keeps.ite | apply State.Keeps.putMfState
theorem State.Keeps.toReference {r0 : State} {s : State} (h0 : r0.Keeps s) :
    r0.Keeps (State.toReference s) := by
  unfold State.toReference
  repeat' with_reducible first
    | assumption | apply State.Keeps.ite | apply State.Keeps.clrb | apply State.Keeps.modTide
theorem State.Keeps.calNext {r0 : State} {s : State} (h0 : r0.Keeps s) :
    r0.Keeps (State.calNext s) := by
  unfold State.calNext
  repeat' with_reducible first
    | assumption | apply State.Keeps.ite | apply State.Keeps.modTide | apply State.Keeps.put | apply State.Keeps.wr
    | apply State.Keeps.setb | apply State.Keeps.clrb | apply State.Keeps.putMfState | apply State.Keeps.readHeaders
theorem State.Keeps.modWt {r0 : State} {s : State} (k : Nat) (f : WtSt → WtSt) (h0 : r0.Keeps s) :
    r0.Keeps (State.modWt s k f) := by
  unfold State.modWt
  repeat' with_reducible first
    | assumption | apply State.Keeps.ite | apply State.Keeps.modTide
theorem State.Keeps.wtCommand {r0 : State} {s : State} (v : Word) (h0 : r0.Keeps s) :
    r0.Keeps (State.wtCommand s v) := by
  unfold State.wtCommand
  repeat' with_reducible first
    | assumption | apply State.Keeps.ite | apply State.Keeps.modWt
theorem State.Keeps.wtReconfigured {r0 : State} {s : State} (k mode : Nat) (h0 : r0.Keeps s) :
    r0.Keeps (State.wtReconfigured s k mode) := by
  unfold State.wtReconfigured
  repeat' with_reducible first
    | assumption | apply State.Keeps.ite | apply State.Keeps.modWt

/-! ### Manifest -/
theorem State.Keeps.loadRecord {r0 : State} {s : State} (r : MRec) (h0 : r0.Keeps s) :
    r0.Keeps (State.loadRecord s r) := by
  unfold State.loadRecord
  repeat' with_reducible first
    | assumption | apply State.Keeps.ite | apply State.Keeps.wr
theorem State.Keeps.stageImage {r0 : State} {s : State} (b : List Nat) (h0 : r0.Keeps s) :
    r0.Keeps (State.stageImage s b) := by
  unfold State.stageImage
  repeat' with_reducible first
    | assumption | apply State.Keeps.ite | apply State.Keeps.loadRecord | apply State.Keeps.foldl

/-! ### Log -/
theorem State.Keeps.putLogState {r0 : State} {s : State} (v : Nat) (h0 : r0.Keeps s) :
    r0.Keeps (State.putLogState s v) := by
  unfold State.putLogState
  repeat' with_reducible first
    | assumption | apply State.Keeps.ite | apply State.Keeps.put | apply State.Keeps.modLog
theorem State.Keeps.logEvt {r0 : State} {s : State} (b : Nat) (h0 : r0.Keeps s) :
    r0.Keeps (State.logEvt s b) := by
  unfold State.logEvt
  repeat' with_reducible first
    | assumption | apply State.Keeps.ite | apply State.Keeps.setb
theorem State.Keeps.logWfail {r0 : State} {s : State} (h0 : r0.Keeps s) :
    r0.Keeps (State.logWfail s) := by
  unfold State.logWfail
  repeat' with_reducible first
    | assumption | apply State.Keeps.ite | apply State.Keeps.raiseAll | apply State.Keeps.logEvt
theorem State.Keeps.showLog {r0 : State} {s : State} (rseq : Nat) (h0 : r0.Keeps s) :
    r0.Keeps (State.showLog s rseq) := by
  unfold State.showLog
  repeat' with_reducible first
    | assumption | apply State.Keeps.ite | apply State.Keeps.wr
theorem State.Keeps.logProgram {r0 : State} {s : State} (n : Nat) (h0 : r0.Keeps s) :
    r0.Keeps (State.logProgram s n) := by
  unfold State.logProgram
  repeat' with_reducible first
    | assumption | apply State.Keeps.ite | apply State.Keeps.take | apply State.Keeps.modLog
    | apply State.Keeps.enqueue | apply State.Keeps.useFree
theorem State.Keeps.logPump {r0 : State} {s : State} (lazy : Bool := false) (h0 : r0.Keeps s) :
    r0.Keeps (State.logPump s lazy) := by
  unfold State.logPump
  repeat' with_reducible first
    | assumption | apply State.Keeps.ite | apply State.Keeps.modLog | apply State.Keeps.logProgram
theorem State.Keeps.logPush {r0 : State} {s : State} (r : LogRec) (h0 : r0.Keeps s) :
    r0.Keeps (State.logPush s r) := by
  unfold State.logPush
  repeat' with_reducible first
    | assumption | apply State.Keeps.ite | apply State.Keeps.modLog | apply State.Keeps.incSat
    | apply State.Keeps.logEvt | apply State.Keeps.logPump
theorem State.Keeps.logSettleOff {r0 : State} {s : State} (h0 : r0.Keeps s) :
    r0.Keeps (State.logSettleOff s) := by
  unfold State.logSettleOff
  repeat' with_reducible first
    | assumption | apply State.Keeps.ite | apply State.Keeps.modLog | apply State.Keeps.putLogState
theorem State.Keeps.eraseTarget {r0 : State} {s : State} (h0 : r0.Keeps s) :
    r0.Keeps (State.eraseTarget s) := by
  unfold State.eraseTarget
  repeat' with_reducible first
    | assumption | apply State.Keeps.ite | apply State.Keeps.modLog | apply State.Keeps.enqueue
    | apply State.Keeps.useFree
theorem State.Keeps.sectorSeen {r0 : State} {s : State} (b : List Nat) (h0 : r0.Keeps s) :
    r0.Keeps (State.sectorSeen s b) := by
  unfold State.sectorSeen
  repeat' with_reducible first
    | assumption | apply State.Keeps.ite | apply State.Keeps.modLog | apply State.Keeps.useFree
    | apply State.Keeps.setb | apply State.Keeps.wr | apply State.Keeps.eraseTarget
theorem State.Keeps.skipSector {r0 : State} {s : State} (h0 : r0.Keeps s) :
    r0.Keeps (State.skipSector s) := by
  unfold State.skipSector
  repeat' with_reducible first
    | assumption | apply State.Keeps.ite | apply State.Keeps.modLog | apply State.Keeps.logWfail
theorem State.Keeps.logFlush {r0 : State} {s : State} (h0 : r0.Keeps s) :
    r0.Keeps (State.logFlush s) := by
  unfold State.logFlush
  repeat' with_reducible first
    | assumption | apply State.Keeps.ite | apply State.Keeps.modLog | apply State.Keeps.logPump
theorem State.Keeps.mountReads {r0 : State} {s : State} (h0 : r0.Keeps s) :
    r0.Keeps (State.mountReads s) := by
  unfold State.mountReads
  repeat' with_reducible first
    | assumption | apply State.Keeps.ite | apply State.Keeps.modLog | apply State.Keeps.enqueue
    | apply State.Keeps.clrb | apply State.Keeps.putLogState
theorem State.Keeps.logMount {r0 : State} {s : State} (h0 : r0.Keeps s) :
    r0.Keeps (State.logMount s) := by
  unfold State.logMount
  repeat' with_reducible first
    | assumption | apply State.Keeps.ite | apply State.Keeps.modLog | apply State.Keeps.mountReads
theorem State.Keeps.hostFlush {r0 : State} {s : State} (h0 : r0.Keeps s) :
    r0.Keeps (State.hostFlush s) := by
  unfold State.hostFlush
  repeat' with_reducible first
    | assumption | apply State.Keeps.ite | apply State.Keeps.mountReads | apply State.Keeps.logFlush
theorem State.Keeps.logDisable {r0 : State} {s : State} (h0 : r0.Keeps s) :
    r0.Keeps (State.logDisable s) := by
  unfold State.logDisable
  repeat' with_reducible first
    | assumption | apply State.Keeps.ite | apply State.Keeps.modLog | apply State.Keeps.logSettleOff
theorem State.Keeps.seedLoss {r0 : State} {s : State} (l : List (Option (Word × Word))) (h0 : r0.Keeps s) :
    r0.Keeps (State.seedLoss s l) := by
  unfold State.seedLoss
  repeat' with_reducible first
    | assumption | apply State.Keeps.ite | apply State.Keeps.bwr | apply State.Keeps.modCtl
    | apply State.Keeps.forAll | intro _ _ _ | split
theorem State.Keeps.noteStart {r0 : State} {s : State} (seeded : Bool) (h0 : r0.Keeps s) :
    r0.Keeps (State.noteStart s seeded) := by
  unfold State.noteStart
  repeat' with_reducible first
    | assumption | apply State.Keeps.ite | apply State.Keeps.modLog
theorem State.Keeps.eraseThermal {r0 : State} {s : State} (h0 : r0.Keeps s) :
    r0.Keeps (State.eraseThermal s) := by
  unfold State.eraseThermal
  repeat' with_reducible first
    | assumption | apply State.Keeps.ite | apply State.Keeps.useFree | apply State.Keeps.enqueue
theorem State.Keeps.prepareAreas {r0 : State} {s : State} (h0 : r0.Keeps s) :
    r0.Keeps (State.prepareAreas s) := by
  unfold State.prepareAreas
  repeat' with_reducible first
    | assumption | apply State.Keeps.ite | apply State.Keeps.useFree | apply State.Keeps.enqueue
    | apply State.Keeps.eraseThermal
theorem State.Keeps.mountAreas {r0 : State} {s : State} (h0 : r0.Keeps s) :
    r0.Keeps (State.mountAreas s) := by
  unfold State.mountAreas
  repeat' with_reducible first
    | assumption | apply State.Keeps.ite | apply State.Keeps.enqueue
theorem State.Keeps.mountRead {r0 : State} {s : State} (job : MemJob) (b : List Nat) (h0 : r0.Keeps s) :
    r0.Keeps (State.mountRead s job b) := by
  unfold State.mountRead
  repeat' with_reducible first
    | assumption | apply State.Keeps.ite | apply State.Keeps.modLog | apply State.Keeps.mountAreas | split
theorem State.Keeps.mountPlace {r0 : State} {s : State} (h0 : r0.Keeps s) :
    r0.Keeps (State.mountPlace s) := by
  unfold State.mountPlace
  repeat' with_reducible first
    | assumption | apply State.Keeps.ite | apply State.Keeps.modLog | apply State.Keeps.wr
theorem State.Keeps.logSaveTh {r0 : State} {s : State} (h0 : r0.Keeps s) :
    r0.Keeps (State.logSaveTh s) := by
  unfold State.logSaveTh
  repeat' with_reducible first
    | assumption | apply State.Keeps.ite | apply State.Keeps.modDev | apply State.Keeps.logEvt
    | apply State.Keeps.take | apply State.Keeps.modLog | apply State.Keeps.enqueue | apply State.Keeps.useFree
theorem State.Keeps.parProgram {r0 : State} {s : State} (n : Berth) (h0 : r0.Keeps s) :
    r0.Keeps (State.parProgram s n) := by
  unfold State.parProgram
  repeat' with_reducible first
    | assumption | apply State.Keeps.ite | apply State.Keeps.modLog | apply State.Keeps.useFree
    | apply State.Keeps.enqueue
theorem State.Keeps.logSavePar {r0 : State} {s : State} (h0 : r0.Keeps s) :
    r0.Keeps (State.logSavePar s) := by
  unfold State.logSavePar
  repeat' with_reducible first
    | assumption | apply State.Keeps.ite | apply State.Keeps.parProgram | apply State.Keeps.forAll
theorem State.Keeps.logTrig {r0 : State} {s : State} (src : Nat) (h0 : r0.Keeps s) :
    r0.Keeps (State.logTrig s src) := by
  unfold State.logTrig
  repeat' with_reducible first
    | assumption | apply State.Keeps.ite | apply State.Keeps.modLog | apply State.Keeps.logEvt
theorem State.Keeps.failEntry {r0 : State} {s : State} (e : MemEntry) (why : Nat) (h0 : r0.Keeps s) :
    r0.Keeps (State.failEntry s e why) := by
  unfold State.failEntry
  repeat' with_reducible first
    | assumption | apply State.Keeps.ite | apply State.Keeps.dropEntry | apply State.Keeps.setb
    | apply State.Keeps.raise | apply State.Keeps.put | apply State.Keeps.endJob | apply State.Keeps.modLog
    | apply State.Keeps.showLog | apply State.Keeps.logWfail | apply State.Keeps.logPump
    | apply State.Keeps.logSettleOff | apply State.Keeps.logEvt | apply State.Keeps.modLoad
    | apply State.Keeps.endJobs | split
theorem State.Keeps.failAllVio {r0 : State} {s : State} (h0 : r0.Keeps s) :
    r0.Keeps (State.failAllVio s) := by
  unfold State.failAllVio
  repeat' with_reducible first
    | assumption | apply State.Keeps.ite | apply State.Keeps.failEntry | apply State.Keeps.foldl | intro _ _ _
theorem State.Keeps.hostWords {r0 : State} {s : State} (e : MemEntry) (incoming : List Nat) (h0 : r0.Keeps s) :
    r0.Keeps (State.hostWords s e incoming) := by
  unfold State.hostWords
  repeat' with_reducible first
    | assumption | apply State.Keeps.ite | apply State.Keeps.wrs
theorem State.Keeps.completeEntry {r0 : State} {s : State} (e : MemEntry) (incoming : List Nat) (h0 : r0.Keeps s) :
    r0.Keeps (State.completeEntry s e incoming) := by
  unfold State.completeEntry
  repeat' with_reducible first
    | assumption | apply State.Keeps.ite | apply State.Keeps.dropEntry | apply State.Keeps.hostWords
    | apply State.Keeps.put | apply State.Keeps.eraseThermal | apply State.Keeps.logSettleOff
    | apply State.Keeps.takeRead | apply State.Keeps.stageImage | apply State.Keeps.sectorSeen
    | apply State.Keeps.mountRead | split
theorem State.Keeps.hostGo {r0 : State} {s : State} (h0 : r0.Keeps s) :
    r0.Keeps (State.hostGo s) := by
  unfold State.hostGo
  repeat' with_reducible first
    | assumption | apply State.Keeps.ite | apply State.Keeps.enqueueHost

/-! ### Demand -/
theorem State.Keeps.deliver {r0 : State} {s : State} (n : Berth) (d : Nat) (h0 : r0.Keeps s) :
    r0.Keeps (State.deliver s n d) := by
  unfold State.deliver
  repeat' with_reducible first
    | assumption | apply State.Keeps.ite | apply State.Keeps.modDem
theorem State.Keeps.demandEvt {r0 : State} {s : State} (n : Berth) (bit : Nat) (h0 : r0.Keeps s) :
    r0.Keeps (State.demandEvt s n bit) := by
  unfold State.demandEvt
  repeat' with_reducible first
    | assumption | apply State.Keeps.ite | apply State.Keeps.bset | apply State.Keeps.modDem
theorem State.Keeps.demSource {r0 : State} {s : State} (n : Berth) (h0 : r0.Keeps s) :
    r0.Keeps (State.demSource s n) := by
  unfold State.demSource
  repeat' with_reducible first
    | assumption | apply State.Keeps.ite | apply State.Keeps.modDem | apply State.Keeps.deliver | split
theorem State.Keeps.demCapture {r0 : State} {s : State} (n : Berth) (h0 : r0.Keeps s) :
    r0.Keeps (State.demCapture s n) := by
  unfold State.demCapture
  repeat' with_reducible first
    | assumption | apply State.Keeps.ite | apply State.Keeps.bwr | apply State.Keeps.modDem
    | apply State.Keeps.useFree | apply State.Keeps.deliver | apply State.Keeps.demandEvt
theorem State.Keeps.demLoss {r0 : State} {s : State} (n : Berth) (h0 : r0.Keeps s) :
    r0.Keeps (State.demLoss s n) := by
  unfold State.demLoss
  dsimp only
  repeat' with_reducible first
    | assumption | split | apply State.Keeps.modDem | apply State.Keeps.raiseBerth | apply State.Keeps.bwr
    | apply State.Keeps.bset | apply State.Keeps.bclr
theorem State.Keeps.demHyst {r0 : State} {s : State} (n : Berth) (h0 : r0.Keeps s) :
    r0.Keeps (State.demHyst s n) := by
  unfold State.demHyst
  repeat' with_reducible first
    | assumption | apply State.Keeps.ite | apply State.Keeps.bset | apply State.Keeps.bclr
    | apply State.Keeps.stopRequest | apply State.Keeps.restart
theorem State.Keeps.demRamp {r0 : State} {s : State} (n : Berth) (y : Int) (h0 : r0.Keeps s) :
    r0.Keeps (State.demRamp s n y) := by
  unfold State.demRamp
  repeat' with_reducible first
    | assumption | apply State.Keeps.ite | apply State.Keeps.bset | apply State.Keeps.bwr | apply State.Keeps.modDem
    | apply State.Keeps.stopRequest
theorem State.Keeps.demPosition {r0 : State} {s : State} (n : Berth) (y : Int) (h0 : r0.Keeps s) :
    r0.Keeps (State.demPosition s n y) := by
  unfold State.demPosition
  repeat' with_reducible first
    | assumption | apply State.Keeps.ite | apply State.Keeps.bwr | apply State.Keeps.modDem
theorem State.Keeps.demRelay {r0 : State} {s : State} (n : Berth) (h0 : r0.Keeps s) :
    r0.Keeps (State.demRelay s n) := by
  unfold State.demRelay
  repeat' with_reducible first
    | assumption | apply State.Keeps.ite | apply State.Keeps.put
theorem State.Keeps.demandSource {r0 : State} {s : State} (n : Berth) (v : Word) (h0 : r0.Keeps s) :
    r0.Keeps (State.demandSource s n v) := by
  unfold State.demandSource
  repeat' with_reducible first
    | assumption | apply State.Keeps.ite | apply State.Keeps.bclr | apply State.Keeps.bwr | apply State.Keeps.modDem
theorem State.Keeps.hostDemand {r0 : State} {s : State} (n : Berth) (v : Word) (h0 : r0.Keeps s) :
    r0.Keeps (State.hostDemand s n v) := by
  unfold State.hostDemand
  repeat' with_reducible first
    | assumption | apply State.Keeps.ite | apply State.Keeps.bwr | apply State.Keeps.modDem
    | apply State.Keeps.deliver
theorem State.Keeps.applyCurve {r0 : State} {s : State} (n : Berth) (h0 : r0.Keeps s) :
    r0.Keeps (State.applyCurve s n) := by
  unfold State.applyCurve
  repeat' with_reducible first
    | assumption | apply State.Keeps.ite | apply State.Keeps.bput | apply State.Keeps.bputb | apply State.Keeps.wrs

/-! ### Mooring -/
theorem State.Keeps.putMlMode {r0 : State} {s : State} (v : Nat) (h0 : r0.Keeps s) :
    r0.Keeps (State.putMlMode s v) := by
  unfold State.putMlMode
  repeat' with_reducible first
    | assumption | apply State.Keeps.ite | apply State.Keeps.put
theorem State.Keeps.mlEvt {r0 : State} {s : State} (b : Nat) (h0 : r0.Keeps s) :
    r0.Keeps (State.mlEvt s b) := by
  unfold State.mlEvt
  repeat' with_reducible first
    | assumption | apply State.Keeps.ite | apply State.Keeps.setb
theorem State.Keeps.originate {r0 : State} {s : State} (typ dst : Nat) (pay : List Word) (h0 : r0.Keeps s) :
    r0.Keeps (State.originate s typ dst pay) := by
  unfold State.originate
  repeat' with_reducible first
    | assumption | apply State.Keeps.ite | apply State.Keeps.modMoor
theorem State.Keeps.checkError {r0 : State} {s : State} (h0 : r0.Keeps s) :
    r0.Keeps (State.checkError s) := by
  unfold State.checkError
  repeat' with_reducible first
    | assumption | apply State.Keeps.ite | apply State.Keeps.modMoor | apply State.Keeps.raiseAll
    | apply State.Keeps.incSat | apply State.Keeps.mlEvt
theorem State.Keeps.announceSelf {r0 : State} {s : State} (h0 : r0.Keeps s) :
    r0.Keeps (State.announceSelf s) := by
  unfold State.announceSelf
  repeat' with_reducible first
    | assumption | apply State.Keeps.ite | apply State.Keeps.originate
theorem State.Keeps.fillSlot {r0 : State} {s : State} (e : Bool) (h0 : r0.Keeps s) :
    r0.Keeps (State.fillSlot s e) := by
  unfold State.fillSlot
  repeat' with_reducible first
    | assumption | apply State.Keeps.ite | apply State.Keeps.modMoor | split
theorem State.Keeps.echoBurst {r0 : State} {s : State} (e : Bool) (h0 : r0.Keeps s) :
    r0.Keeps (State.echoBurst s e) := by
  unfold State.echoBurst
  repeat' with_reducible first
    | assumption | apply State.Keeps.ite | apply State.Keeps.modMoor
theorem State.Keeps.sendSlot {r0 : State} {s : State} (f : Option MFrame) (h0 : r0.Keeps s) :
    r0.Keeps (State.sendSlot s f) := by
  unfold State.sendSlot
  repeat' with_reducible first
    | assumption | apply State.Keeps.ite | apply State.Keeps.modMoor
theorem State.Keeps.joined {r0 : State} {s : State} (h0 : r0.Keeps s) :
    r0.Keeps (State.joined s) := by
  unfold State.joined
  repeat' with_reducible first
    | assumption | apply State.Keeps.ite | apply State.Keeps.announceSelf
theorem State.Keeps.noSlots {r0 : State} {s : State} (h0 : r0.Keeps s) :
    r0.Keeps (State.noSlots s) := by
  unfold State.noSlots
  repeat' with_reducible first
    | assumption | apply State.Keeps.ite | apply State.Keeps.modMoor | apply State.Keeps.putMlMode
    | apply State.Keeps.joined
theorem State.Keeps.enterChain {r0 : State} {s : State} (h0 : r0.Keeps s) :
    r0.Keeps (State.enterChain s) := by
  unfold State.enterChain
  repeat' with_reducible first
    | assumption | apply State.Keeps.ite | apply State.Keeps.modMoor | apply State.Keeps.putMlMode
    | apply State.Keeps.mlEvt | apply State.Keeps.joined
theorem State.Keeps.sendHeal {r0 : State} {s : State} (h0 : r0.Keeps s) :
    r0.Keeps (State.sendHeal s) := by
  unfold State.sendHeal
  repeat' with_reducible first
    | assumption | apply State.Keeps.ite | apply State.Keeps.modMoor
theorem State.Keeps.sendTurn {r0 : State} {s : State} (p : MPort) (h0 : r0.Keeps s) :
    r0.Keeps (State.sendTurn s p) := by
  unfold State.sendTurn
  repeat' with_reducible first
    | assumption | apply State.Keeps.ite | apply State.Keeps.modMoor | split
theorem State.Keeps.relay {r0 : State} {s : State} (p : MPort) (f : MFrame) (h0 : r0.Keeps s) :
    r0.Keeps (State.relay s p f) := by
  unfold State.relay
  repeat' with_reducible first
    | assumption | apply State.Keeps.ite | apply State.Keeps.modMoor | apply State.Keeps.useFree | split
theorem State.Keeps.ringSwitch {r0 : State} {s : State} (h0 : r0.Keeps s) :
    r0.Keeps (State.ringSwitch s) := by
  unfold State.ringSwitch
  repeat' with_reducible first
    | assumption | apply State.Keeps.ite | apply State.Keeps.put | apply State.Keeps.modMoor
    | apply State.Keeps.putMlMode | apply State.Keeps.mlEvt
theorem State.Keeps.putTaken {r0 : State} {s : State} (k : Nat) (v : Bool) (h0 : r0.Keeps s) :
    r0.Keeps (State.putTaken s k v) := by
  unfold State.putTaken
  repeat' with_reducible first
    | assumption | apply State.Keeps.ite | apply State.Keeps.putb
theorem State.Keeps.takeNode {r0 : State} {s : State} (k : Nat) (h0 : r0.Keeps s) :
    r0.Keeps (State.takeNode s k) := by
  unfold State.takeNode
  repeat' with_reducible first
    | assumption | apply State.Keeps.ite | apply State.Keeps.put
theorem State.Keeps.rollCall {r0 : State} {s : State} (h0 : r0.Keeps s) :
    r0.Keeps (State.rollCall s) := by
  unfold State.rollCall
  repeat' with_reducible first
    | assumption | apply State.Keeps.ite | apply State.Keeps.setb | apply State.Keeps.raiseAll
    | apply State.Keeps.mlEvt | apply State.Keeps.originate | apply State.Keeps.announceSelf
    | apply State.Keeps.takeNode | split
theorem State.Keeps.alignState {r0 : State} {s : State} (ofs : Int) (h0 : r0.Keeps s) :
    r0.Keeps (State.alignState s ofs) := by
  unfold State.alignState
  repeat' with_reducible first
    | assumption | apply State.Keeps.ite | apply State.Keeps.clrb | apply State.Keeps.putb
    | apply State.Keeps.modMoor | apply State.Keeps.raiseAll
theorem State.Keeps.demandChannel {r0 : State} {s : State} (ch d : Nat) (h0 : r0.Keeps s) :
    r0.Keeps (State.demandChannel s ch d) := by
  unfold State.demandChannel
  repeat' with_reducible first
    | assumption | apply State.Keeps.ite | apply State.Keeps.bput | apply State.Keeps.deliver
    | apply State.Keeps.forAll | intro _ _ _
theorem State.Keeps.sendDemand {r0 : State} {s : State} (h0 : r0.Keeps s) :
    r0.Keeps (State.sendDemand s) := by
  unfold State.sendDemand
  repeat' with_reducible first
    | assumption | apply State.Keeps.ite | apply State.Keeps.originate | apply State.Keeps.demandChannel
    | apply State.Keeps.forAll | intro _ _ _
theorem State.Keeps.sendFault {r0 : State} {s : State} (e : Event) (sev react : Nat) (h0 : r0.Keeps s) :
    r0.Keeps (State.sendFault s e sev react) := by
  unfold State.sendFault
  repeat' with_reducible first
    | assumption | apply State.Keeps.ite | apply State.Keeps.modMoor | apply State.Keeps.originate
theorem State.Keeps.sendLedger {r0 : State} {s : State} (h0 : r0.Keeps s) :
    r0.Keeps (State.sendLedger s) := by
  unfold State.sendLedger
  repeat' with_reducible first
    | assumption | apply State.Keeps.ite | apply State.Keeps.modMoor | apply State.Keeps.originate
theorem State.Keeps.mlCommand {r0 : State} {s : State} (v : Word) (h0 : r0.Keeps s) :
    r0.Keeps (State.mlCommand s v) := by
  unfold State.mlCommand
  repeat' with_reducible first
    | assumption | apply State.Keeps.ite | apply State.Keeps.modMoor | apply State.Keeps.originate
    | apply State.Keeps.rollCall | apply State.Keeps.sendDemand | apply State.Keeps.sendLedger

/-! ### Collector -/
theorem State.Keeps.countBerth {r0 : State} {s : State} (src : Nat) (h0 : r0.Keeps s) :
    r0.Keeps (State.countBerth s src) := by
  unfold State.countBerth
  repeat' with_reducible first
    | assumption | apply State.Keeps.ite | apply State.Keeps.bput | split
theorem State.Keeps.report {r0 : State} {s : State} (e : Event) (was : Option FirstErr) (h0 : r0.Keeps s) :
    r0.Keeps (State.report s e was) := by
  unfold State.report
  repeat' with_reducible first
    | assumption | apply State.Keeps.ite | apply State.Keeps.countBerth | apply State.Keeps.logPush
    | apply State.Keeps.sendFault
theorem State.Keeps.stopAll {r0 : State} {s : State} (l : List Event) (h0 : r0.Keeps s) :
    r0.Keeps (State.stopAll s l) := by
  unfold State.stopAll
  repeat' with_reducible first
    | assumption | apply State.Keeps.ite | apply State.Keeps.stopRequest | apply State.Keeps.forAll | intro _ _ _
theorem State.Keeps.take {r0 : State} {s : State} (l : List Event) (h0 : r0.Keeps s) :
    r0.Keeps (State.take s l) := by
  unfold State.take
  repeat' with_reducible first
    | assumption | apply State.Keeps.ite | apply State.Keeps.modColl
theorem State.Keeps.breakPair {r0 : State} {s : State} (src : Nat) (h0 : r0.Keeps s) :
    r0.Keeps (State.breakPair s src) := by
  unfold State.breakPair
  repeat' with_reducible first
    | assumption | apply State.Keeps.ite | apply State.Keeps.modColl | apply State.Keeps.raise
theorem State.Keeps.breakLine {r0 : State} {s : State} (n : Berth) (h0 : r0.Keeps s) :
    r0.Keeps (State.breakLine s n) := by
  unfold State.breakLine
  repeat' with_reducible first
    | assumption | apply State.Keeps.ite | apply State.Keeps.modColl | apply State.Keeps.raise
    | apply State.Keeps.trip
theorem State.Keeps.reraise {r0 : State} {s : State} (src : Nat) (h0 : r0.Keeps s) :
    r0.Keeps (State.reraise s src) := by
  unfold State.reraise
  repeat' with_reducible first
    | assumption | apply State.Keeps.ite | apply State.Keeps.raiseAll | apply State.Keeps.raiseForced
    | apply State.Keeps.raiseQuay | apply State.Keeps.foldl | intro _ _ _ | split
theorem State.Keeps.clearPending {r0 : State} {s : State} (a : Nat) (v : Word) (h0 : r0.Keeps s) :
    r0.Keeps (State.clearPending s a v) := by
  unfold State.clearPending
  repeat' with_reducible first
    | assumption | apply State.Keeps.ite | apply State.Keeps.modColl | apply State.Keeps.reraise
    | apply State.Keeps.forAll
theorem State.Keeps.clearRecord {r0 : State} {s : State} (h0 : r0.Keeps s) :
    r0.Keeps (State.clearRecord s) := by
  unfold State.clearRecord
  repeat' with_reducible first
    | assumption | apply State.Keeps.ite | apply State.Keeps.modColl
theorem State.Keeps.drivePair {r0 : State} {s : State} (k : Nat) (p q : Bool) (h0 : r0.Keeps s) :
    r0.Keeps (State.drivePair s k p q) := by
  unfold State.drivePair
  repeat' with_reducible first
    | assumption | apply State.Keeps.ite | apply State.Keeps.breakPair | apply State.Keeps.modColl
    | apply State.Keeps.raise
theorem State.Keeps.driveLine {r0 : State} {s : State} (n : Berth) (p q : Bool) (h0 : r0.Keeps s) :
    r0.Keeps (State.driveLine s n p q) := by
  unfold State.driveLine
  repeat' with_reducible first
    | assumption | apply State.Keeps.ite | apply State.Keeps.breakLine | apply State.Keeps.modColl
    | apply State.Keeps.trip

/-! ### Countersign -/
theorem State.Keeps.csRefuse {r0 : State} {s : State} (code : Nat) (h0 : r0.Keeps s) :
    r0.Keeps (State.csRefuse s code) := by
  unfold State.csRefuse
  repeat' with_reducible first
    | assumption | apply State.Keeps.ite | apply State.Keeps.put | apply State.Keeps.raiseAll
theorem State.Keeps.csAccept {r0 : State} {s : State} (who way : Nat) (h0 : r0.Keeps s) :
    r0.Keeps (State.csAccept s who way) := by
  unfold State.csAccept
  repeat' with_reducible first
    | assumption | apply State.Keeps.ite | apply State.Keeps.put | apply State.Keeps.modCs
theorem State.Keeps.csToIdle {r0 : State} {s : State} (h0 : r0.Keeps s) :
    r0.Keeps (State.csToIdle s) := by
  unfold State.csToIdle
  repeat' with_reducible first
    | assumption | apply State.Keeps.ite | apply State.Keeps.put
theorem State.Keeps.csEnd {r0 : State} {s : State} (code : Nat) (h0 : r0.Keeps s) :
    r0.Keeps (State.csEnd s code) := by
  unfold State.csEnd
  repeat' with_reducible first
    | assumption | apply State.Keeps.ite | apply State.Keeps.put | apply State.Keeps.logPush
    | apply State.Keeps.csToIdle
theorem State.Keeps.csEndRaised {r0 : State} {s : State} (code : Nat) (h0 : r0.Keeps s) :
    r0.Keeps (State.csEndRaised s code) := by
  unfold State.csEndRaised
  repeat' with_reducible first
    | assumption | apply State.Keeps.ite | apply State.Keeps.raiseAll | apply State.Keeps.csEnd
theorem State.Keeps.hostPropose {r0 : State} {s : State} (way : Nat) (h0 : r0.Keeps s) :
    r0.Keeps (State.hostPropose s way) := by
  unfold State.hostPropose
  repeat' with_reducible first
    | assumption | apply State.Keeps.ite | apply State.Keeps.csRefuse | apply State.Keeps.csAccept | split
theorem State.Keeps.confirmation {r0 : State} {s : State} (value required : Nat) (h0 : r0.Keeps s) :
    r0.Keeps (State.confirmation s value required) := by
  unfold State.confirmation
  repeat' with_reducible first
    | assumption | apply State.Keeps.ite | apply State.Keeps.put | apply State.Keeps.modCs
    | apply State.Keeps.csEndRaised
theorem State.Keeps.hostConfirm {r0 : State} {s : State} (h0 : r0.Keeps s) :
    r0.Keeps (State.hostConfirm s) := by
  unfold State.hostConfirm
  repeat' with_reducible first
    | assumption | apply State.Keeps.ite | apply State.Keeps.confirmation
theorem State.Keeps.pilotConfirm {r0 : State} {s : State} (h0 : r0.Keeps s) :
    r0.Keeps (State.pilotConfirm s) := by
  unfold State.pilotConfirm
  repeat' with_reducible first
    | assumption | apply State.Keeps.ite | apply State.Keeps.put | apply State.Keeps.setb
    | apply State.Keeps.raiseAll | apply State.Keeps.confirmation
theorem State.Keeps.hostWithdraw {r0 : State} {s : State} (h0 : r0.Keeps s) :
    r0.Keeps (State.hostWithdraw s) := by
  unfold State.hostWithdraw
  repeat' with_reducible first
    | assumption | apply State.Keeps.ite | apply State.Keeps.csEnd
theorem State.Keeps.csCommand {r0 : State} {s : State} (v : Word) (h0 : r0.Keeps s) :
    r0.Keeps (State.csCommand s v) := by
  unfold State.csCommand
  repeat' with_reducible first
    | assumption | apply State.Keeps.ite | apply State.Keeps.hostPropose | apply State.Keeps.hostConfirm
    | apply State.Keeps.pilotConfirm | apply State.Keeps.hostWithdraw
theorem State.Keeps.brakeRelease {r0 : State} {s : State} (q : Quay) (h0 : r0.Keeps s) :
    r0.Keeps (State.brakeRelease s q) := by
  unfold State.brakeRelease
  repeat' with_reducible first
    | assumption | apply State.Keeps.ite | apply State.Keeps.clrb
theorem State.Keeps.csStage {r0 : State} {s : State} (l : List (Nat × Word)) (node pid : Nat) (h0 : r0.Keeps s) :
    r0.Keeps (State.csStage s l node pid) := by
  unfold State.csStage
  repeat' with_reducible first
    | assumption | apply State.Keeps.ite | apply State.Keeps.wr | apply State.Keeps.wrs
theorem State.Keeps.csAnswer {r0 : State} {s : State} (f : MFrame) (code : Nat) (h0 : r0.Keeps s) :
    r0.Keeps (State.csAnswer s f code) := by
  unfold State.csAnswer
  repeat' with_reducible first
    | assumption | apply State.Keeps.ite | apply State.Keeps.originate
theorem State.Keeps.sendProposal {r0 : State} {s : State} (h0 : r0.Keeps s) :
    r0.Keeps (State.sendProposal s) := by
  unfold State.sendProposal
  repeat' with_reducible first
    | assumption | apply State.Keeps.ite | apply State.Keeps.modCs | apply State.Keeps.take
    | apply State.Keeps.originate | apply State.Keeps.forAll | intro _ _ _
theorem State.Keeps.sendConfirm {r0 : State} {s : State} (h0 : r0.Keeps s) :
    r0.Keeps (State.sendConfirm s) := by
  unfold State.sendConfirm
  repeat' with_reducible first
    | assumption | apply State.Keeps.ite | apply State.Keeps.originate
theorem State.Keeps.sendWithdraw {r0 : State} {s : State} (h0 : r0.Keeps s) :
    r0.Keeps (State.sendWithdraw s) := by
  unfold State.sendWithdraw
  repeat' with_reducible first
    | assumption | apply State.Keeps.ite | apply State.Keeps.originate
theorem State.Keeps.csTransmit {r0 : State} {s : State} (v : Word) (h0 : r0.Keeps s) :
    r0.Keeps (State.csTransmit s v) := by
  unfold State.csTransmit
  repeat' with_reducible first
    | assumption | apply State.Keeps.ite | apply State.Keeps.sendProposal | apply State.Keeps.sendConfirm
    | apply State.Keeps.sendWithdraw

/-! ### Supply -/
theorem State.Keeps.monitorOn {r0 : State} {s : State} (b src : Nat) (h0 : r0.Keeps s) :
    r0.Keeps (State.monitorOn s b src) := by
  unfold State.monitorOn
  repeat' with_reducible first
    | assumption | apply State.Keeps.ite | apply State.Keeps.setb | apply State.Keeps.raiseAll
theorem State.Keeps.sagTenders {r0 : State} {s : State} (h0 : r0.Keeps s) :
    r0.Keeps (State.sagTenders s) := by
  unfold State.sagTenders
  repeat' with_reducible first
    | assumption | apply State.Keeps.ite | apply State.Keeps.tputb | apply State.Keeps.tenderStop
    | apply State.Keeps.forAll | intro _ _ _
theorem State.Keeps.sagPolicy {r0 : State} {s : State} (h0 : r0.Keeps s) :
    r0.Keeps (State.sagPolicy s) := by
  unfold State.sagPolicy
  repeat' with_reducible first
    | assumption | apply State.Keeps.ite | apply State.Keeps.clrb | apply State.Keeps.modDev
    | apply State.Keeps.stopRequest | apply State.Keeps.logFlush | apply State.Keeps.sagTenders
    | apply State.Keeps.forAll | intro _ _ _
theorem State.Keeps.sagRelease {r0 : State} {s : State} (h0 : r0.Keeps s) :
    r0.Keeps (State.sagRelease s) := by
  unfold State.sagRelease
  repeat' with_reducible first
    | assumption | apply State.Keeps.ite | apply State.Keeps.clrb | apply State.Keeps.modDev
theorem State.Keeps.sleepEntry {r0 : State} {s : State} (h0 : r0.Keeps s) :
    r0.Keeps (State.sleepEntry s) := by
  unfold State.sleepEntry
  repeat' with_reducible first
    | assumption | apply State.Keeps.ite | apply State.Keeps.modDev | apply State.Keeps.stopRequest
    | apply State.Keeps.forAll
theorem State.Keeps.enterService {r0 : State} {s : State} (h0 : r0.Keeps s) :
    r0.Keeps (State.enterService s) := by
  unfold State.enterService
  repeat' with_reducible first
    | assumption | apply State.Keeps.ite | apply State.Keeps.modCtl | apply State.Keeps.modDem
    | apply State.Keeps.modDev | apply State.Keeps.modMoor | apply State.Keeps.raise | apply State.Keeps.settle
    | apply State.Keeps.trip | apply State.Keeps.tripPin | apply State.Keeps.chopApply
    | apply State.Keeps.putMfState | apply State.Keeps.sagPolicy | apply State.Keeps.forAll
    | apply State.Keeps.foldl | intro _ _ _

/-! ### Loader -/
theorem State.Keeps.unloadBerth {r0 : State} {s : State} (n : Berth) (h0 : r0.Keeps s) :
    r0.Keeps (State.unloadBerth s n) := by
  unfold State.unloadBerth
  repeat' with_reducible first
    | assumption | apply State.Keeps.ite | apply State.Keeps.wr | apply State.Keeps.bput | apply State.Keeps.wrs
    | apply State.Keeps.forAll | intro _ _ _
theorem State.Keeps.activate {r0 : State} {s : State} (n : Berth) (h0 : r0.Keeps s) :
    r0.Keeps (State.activate s n) := by
  unfold State.activate
  repeat' with_reducible first
    | assumption | apply State.Keeps.ite | apply State.Keeps.bput | apply State.Keeps.bset
    | apply State.Keeps.modBerth | apply State.Keeps.modPwm | apply State.Keeps.wrs | exact fun _ => Eq.refl _
theorem State.Keeps.loadCurve {r0 : State} {s : State} (n : Berth) (e : CurveEntry) (h0 : r0.Keeps s) :
    r0.Keeps (State.loadCurve s n e) := by
  unfold State.loadCurve
  repeat' with_reducible first
    | assumption | apply State.Keeps.ite | apply State.Keeps.bput | apply State.Keeps.applyCurve
    | apply State.Keeps.wrs
theorem State.Keeps.loadBerth {r0 : State} {s : State} (n : Berth) (m : Image) (h0 : r0.Keeps s) :
    r0.Keeps (State.loadBerth s n m) := by
  unfold State.loadBerth
  repeat' with_reducible first
    | assumption | apply State.Keeps.ite | apply State.Keeps.loadRecord | apply State.Keeps.unloadBerth
    | apply State.Keeps.activate | apply State.Keeps.loadCurve | apply State.Keeps.foldl | intro _ _ _ | split
theorem State.Keeps.unloadTender {r0 : State} {s : State} (t : Tender) (h0 : r0.Keeps s) :
    r0.Keeps (State.unloadTender s t) := by
  unfold State.unloadTender
  repeat' with_reducible first
    | assumption | apply State.Keeps.ite | apply State.Keeps.wrs
theorem State.Keeps.loadTender {r0 : State} {s : State} (t : Tender) (m : Image) (h0 : r0.Keeps s) :
    r0.Keeps (State.loadTender s t m) := by
  unfold State.loadTender
  repeat' with_reducible first
    | assumption | apply State.Keeps.ite | apply State.Keeps.tput | apply State.Keeps.loadRecord
    | apply State.Keeps.unloadTender | apply State.Keeps.foldl
theorem State.Keeps.commitRegs {r0 : State} {s : State} (slot : Nat) (m : Image) (h0 : r0.Keeps s) :
    r0.Keeps (State.commitRegs s slot m) := by
  unfold State.commitRegs
  dsimp only
  repeat' with_reducible first
    | assumption | split | apply State.Keeps.put | apply State.Keeps.wr | apply State.Keeps.putb | apply State.Keeps.putWide
theorem State.Keeps.commitReference {r0 : State} {s : State} (h0 : r0.Keeps s) :
    r0.Keeps (State.commitReference s) := by
  unfold State.commitReference
  repeat' with_reducible first
    | assumption | apply State.Keeps.ite | apply State.Keeps.setb | apply State.Keeps.clrb
    | apply State.Keeps.raiseAll | apply State.Keeps.putMfState
theorem State.Keeps.commitLanes {r0 : State} {s : State} (h0 : r0.Keeps s) :
    r0.Keeps (State.commitLanes s) := by
  unfold State.commitLanes
  repeat' with_reducible first
    | assumption | apply State.Keeps.ite | apply State.Keeps.putLane | apply State.Keeps.forAll | intro _ _ _
theorem State.Keeps.mfCmd {r0 : State} {s : State} (h0 : r0.Keeps s) :
    r0.Keeps (State.mfCmd s) := by
  unfold State.mfCmd
  repeat' with_reducible first
    | assumption | apply State.Keeps.ite | apply State.Keeps.wrs | apply State.Keeps.putMfState
    | apply State.Keeps.readHeaders
theorem State.Keeps.keyCmd {r0 : State} {s : State} (h0 : r0.Keeps s) :
    r0.Keeps (State.keyCmd s) := by
  unfold State.keyCmd
  repeat' with_reducible first
    | assumption | apply State.Keeps.ite | apply State.Keeps.putMfState

/-! ### Drydock -/
theorem State.Keeps.ddPhase {r0 : State} {s : State} (n : Berth) (v : Nat) (h0 : r0.Keeps s) :
    r0.Keeps (State.ddPhase s n v) := by
  unfold State.ddPhase
  repeat' with_reducible first
    | assumption | apply State.Keeps.ite | apply State.Keeps.put
theorem State.Keeps.partPhase {r0 : State} {s : State} (p : Part) (v : Nat) (h0 : r0.Keeps s) :
    r0.Keeps (State.partPhase s p v) := by
  unfold State.partPhase
  repeat' with_reducible first
    | assumption | apply State.Keeps.ite | apply State.Keeps.ddPhase | split
theorem State.Keeps.dockEnd {r0 : State} {s : State} (p : Part) (h0 : r0.Keeps s) :
    r0.Keeps (State.dockEnd s p) := by
  unfold State.dockEnd
  repeat' with_reducible first
    | assumption | apply State.Keeps.ite | apply State.Keeps.logPush
theorem State.Keeps.raiseDock {r0 : State} {s : State} (src adr : Nat) (p : Part) (h0 : r0.Keeps s) :
    r0.Keeps (State.raiseDock s src adr p) := by
  unfold State.raiseDock
  repeat' with_reducible first
    | assumption | apply State.Keeps.ite | apply State.Keeps.raise
theorem State.Keeps.dockBerth {r0 : State} {s : State} (n : Berth) (h0 : r0.Keeps s) :
    r0.Keeps (State.dockBerth s n) := by
  unfold State.dockBerth
  repeat' with_reducible first
    | assumption | apply State.Keeps.ite | apply State.Keeps.modHost | apply State.Keeps.setState
    | apply State.Keeps.stopNow | apply State.Keeps.beginStop | apply State.Keeps.ddPhase
theorem State.Keeps.dockLane {r0 : State} {s : State} (l : Fin 5) (h0 : r0.Keeps s) :
    r0.Keeps (State.dockLane s l) := by
  unfold State.dockLane
  repeat' with_reducible first
    | assumption | apply State.Keeps.ite | apply State.Keeps.modDock | apply State.Keeps.ddProgress
    | apply State.Keeps.putLane | apply State.Keeps.swapLane
theorem State.Keeps.dockTender {r0 : State} {s : State} (t : Tender) (h0 : r0.Keeps s) :
    r0.Keeps (State.dockTender s t) := by
  unfold State.dockTender
  repeat' with_reducible first
    | assumption | apply State.Keeps.ite | apply State.Keeps.modTender | apply State.Keeps.ddProgress
    | apply State.Keeps.setTd
  all_goals first
    | exact fun h => h
theorem State.Keeps.dockMemory {r0 : State} {s : State} (h0 : r0.Keeps s) :
    r0.Keeps (State.dockMemory s) := by
  unfold State.dockMemory
  repeat' with_reducible first
    | assumption | apply State.Keeps.ite | apply State.Keeps.put | apply State.Keeps.modMem
    | apply State.Keeps.modLog | apply State.Keeps.ddProgress
theorem State.Keeps.dockPart {r0 : State} {s : State} (p : Part) (h0 : r0.Keeps s) :
    r0.Keeps (State.dockPart s p) := by
  unfold State.dockPart
  repeat' with_reducible first
    | assumption | apply State.Keeps.ite | apply State.Keeps.modMoor | apply State.Keeps.ddProgress
    | apply State.Keeps.dockBerth | apply State.Keeps.dockLane | apply State.Keeps.dockTender
    | apply State.Keeps.dockMemory | split
theorem State.Keeps.undockBerth {r0 : State} {s : State} (n : Berth) (h0 : r0.Keeps s) :
    r0.Keeps (State.undockBerth s n) := by
  unfold State.undockBerth
  repeat' with_reducible first
    | assumption | apply State.Keeps.ite | apply State.Keeps.modBerth | apply State.Keeps.modDock
    | apply State.Keeps.settle | apply State.Keeps.reEnableAll | apply State.Keeps.setState
    | apply State.Keeps.restoreChannels | apply State.Keeps.ddPhase | exact fun _ => Eq.refl _
theorem State.Keeps.undockTender {r0 : State} {s : State} (t : Tender) (h0 : r0.Keeps s) :
    r0.Keeps (State.undockTender s t) := by
  unfold State.undockTender
  repeat' with_reducible first
    | assumption | apply State.Keeps.ite | apply State.Keeps.ddProgress | apply State.Keeps.setTd
    | apply State.Keeps.dockEnd
theorem State.Keeps.undockMemory {r0 : State} {s : State} (h0 : r0.Keeps s) :
    r0.Keeps (State.undockMemory s) := by
  unfold State.undockMemory
  repeat' with_reducible first
    | assumption | apply State.Keeps.ite | apply State.Keeps.put | apply State.Keeps.modMem
    | apply State.Keeps.ddProgress | apply State.Keeps.logPump | apply State.Keeps.logSettleOff
    | apply State.Keeps.logMount | apply State.Keeps.dockEnd
theorem State.Keeps.undockPart {r0 : State} {s : State} (p : Part) (h0 : r0.Keeps s) :
    r0.Keeps (State.undockPart s p) := by
  unfold State.undockPart
  repeat' with_reducible first
    | assumption | apply State.Keeps.ite | apply State.Keeps.modMoor | apply State.Keeps.modDock
    | apply State.Keeps.ddProgress | apply State.Keeps.putLane | apply State.Keeps.dockEnd
    | apply State.Keeps.undockBerth | apply State.Keeps.undockTender | apply State.Keeps.undockMemory | split
theorem State.Keeps.trialFails {r0 : State} {s : State} (n : Berth) (h0 : r0.Keeps s) :
    r0.Keeps (State.trialFails s n) := by
  unfold State.trialFails
  repeat' with_reducible first
    | assumption | apply State.Keeps.ite | apply State.Keeps.wr | apply State.Keeps.stopNow
    | apply State.Keeps.ddPhase | apply State.Keeps.dockEnd | apply State.Keeps.raiseDock
theorem State.Keeps.trialPasses {r0 : State} {s : State} (n : Berth) (h0 : r0.Keeps s) :
    r0.Keeps (State.trialPasses s n) := by
  unfold State.trialPasses
  repeat' with_reducible first
    | assumption | apply State.Keeps.ite | apply State.Keeps.modStart | apply State.Keeps.modHost
    | apply State.Keeps.ddProgress | apply State.Keeps.setState | apply State.Keeps.ddPhase
    | apply State.Keeps.dockEnd
theorem State.Keeps.selftestPart {r0 : State} {s : State} (p : Part) (h0 : r0.Keeps s) :
    r0.Keeps (State.selftestPart s p) := by
  unfold State.selftestPart
  repeat' with_reducible first
    | assumption | apply State.Keeps.ite | apply State.Keeps.modDock | apply State.Keeps.partPhase
theorem State.Keeps.retireLane {r0 : State} {s : State} (l : Fin 5) (h0 : r0.Keeps s) :
    r0.Keeps (State.retireLane s l) := by
  unfold State.retireLane
  repeat' with_reducible first
    | assumption | apply State.Keeps.ite | apply State.Keeps.setb | apply State.Keeps.putLane
    | apply State.Keeps.raiseLane
theorem State.Keeps.selftestResult {r0 : State} {s : State} (p : Part) (r : SelfTest) (h0 : r0.Keeps s) :
    r0.Keeps (State.selftestResult s p r) := by
  unfold State.selftestResult
  repeat' with_reducible first
    | assumption | apply State.Keeps.ite | apply State.Keeps.put | apply State.Keeps.setb
    | apply State.Keeps.retireLane | split
theorem State.Keeps.reloadPart {r0 : State} {s : State} (p : Part) (slot : Nat) (h0 : r0.Keeps s) :
    r0.Keeps (State.reloadPart s p slot) := by
  unfold State.reloadPart
  repeat' with_reducible first
    | assumption | apply State.Keeps.ite | apply State.Keeps.modDock | apply State.Keeps.partPhase
    | apply State.Keeps.startReads
theorem State.Keeps.applyReload {r0 : State} {s : State} (p : Part) (d : Decl) (m : Image) (h0 : r0.Keeps s) :
    r0.Keeps (State.applyReload s p d m) := by
  unfold State.applyReload
  have h1 : r0.Keeps ({ s with load := { s.load with decl := some d } } : State) :=
    h0.upd (Eq.refl _) (Eq.refl _) (Eq.refl _) (Eq.refl _) (Eq.refl _) (Eq.refl _)
  dsimp only
  split
  · exact ((h1.wr _ _).loadBerth _ _).modBerth _ _ fun _ => Eq.refl _
  · exact ((h1.wr _ _).loadTender _ _).modTender _ _ fun h => h
  · exact h1.wr _ _
theorem State.Keeps.cancelHold {r0 : State} {s : State} (n : Berth) (h0 : r0.Keeps s) :
    r0.Keeps (State.cancelHold s n) := by
  unfold State.cancelHold
  repeat' with_reducible first
    | assumption | apply State.Keeps.ite | apply State.Keeps.modHost | apply State.Keeps.ddProgress
theorem State.Keeps.ddCommand {r0 : State} {s : State} (v : Word) (h0 : r0.Keeps s) :
    r0.Keeps (State.ddCommand s v) := by
  unfold State.ddCommand
  repeat' with_reducible first
    | assumption | apply State.Keeps.ite | apply State.Keeps.wr | apply State.Keeps.logPush
    | apply State.Keeps.dockPart | apply State.Keeps.undockPart | apply State.Keeps.selftestPart
    | apply State.Keeps.reloadPart | apply State.Keeps.cancelHold | split

/-! ### Writes -/
theorem State.Keeps.putKeyw {r0 : State} {s : State} (k : Nat) (v : Word) (h0 : r0.Keeps s) :
    r0.Keeps (State.putKeyw s k v) := h0.upd (Eq.refl _) (Eq.refl _) (Eq.refl _) (Eq.refl _) (Eq.refl _) (Eq.refl _)
theorem State.Keeps.storeWord {r0 : State} {s : State} (a : Nat) (v : Word) (h0 : r0.Keeps s) :
    r0.Keeps (State.storeWord s a v) := by
  unfold State.storeWord
  repeat' with_reducible first
    | assumption | apply State.Keeps.ite | apply State.Keeps.wr | apply State.Keeps.putKeyw
theorem State.Keeps.storeAll {r0 : State} {s : State} (ws : List (Nat × Word)) (h0 : r0.Keeps s) :
    r0.Keeps (State.storeAll s ws) := by
  unfold State.storeAll
  repeat' with_reducible first
    | assumption | apply State.Keeps.ite | apply State.Keeps.storeWord | apply State.Keeps.foldl | intro _ _ _
theorem State.Keeps.writeValue {r0 : State} {s : State} (m : Master) (base k a : Nat) (w : Word) (h0 : r0.Keeps s) :
    r0.Keeps (State.writeValue s m base k a w) := by
  unfold State.writeValue
  dsimp only
  repeat' with_reducible first
    | assumption | split | apply State.Keeps.wr | apply State.Keeps.wrs
  all_goals first
    | exact ((h0.wrs _).wr _ _).upd (Eq.refl _) (Eq.refl _) (Eq.refl _) (Eq.refl _) (Eq.refl _) (Eq.refl _)
    | exact h0.upd (Eq.refl _) (Eq.refl _) (Eq.refl _) (Eq.refl _) (Eq.refl _) (Eq.refl _)
theorem State.Keeps.writePlain {r0 : State} {s : State} (m : Master) (a : Nat) (v : Word) (h0 : r0.Keeps s) :
    r0.Keeps (State.writePlain s m a v) := by
  unfold State.writePlain
  repeat' with_reducible first
    | assumption | apply State.Keeps.ite | apply State.Keeps.wr | apply State.Keeps.writeValue | split
theorem State.Keeps.writeLogCtl {r0 : State} {s : State} (v : Word) (h0 : r0.Keeps s) :
    r0.Keeps (State.writeLogCtl s v) := by
  unfold State.writeLogCtl
  repeat' with_reducible first
    | assumption | apply State.Keeps.ite | apply State.Keeps.wr | apply State.Keeps.endJobs
    | apply State.Keeps.modLog | apply State.Keeps.mountReads | apply State.Keeps.logMount
    | apply State.Keeps.logDisable
theorem State.Keeps.writeLogCmd {r0 : State} {s : State} (v : Word) (h0 : r0.Keeps s) :
    r0.Keeps (State.writeLogCmd s v) := by
  unfold State.writeLogCmd
  repeat' with_reducible first
    | assumption | apply State.Keeps.ite | apply State.Keeps.hostFlush | apply State.Keeps.logSaveTh
    | apply State.Keeps.logSavePar | apply State.Keeps.logTrig
theorem State.Keeps.writePage {r0 : State} {s : State} (m : Master) (a : Nat) (v : Word) (h0 : r0.Keeps s) :
    r0.Keeps (State.writePage s m a v) := by
  unfold State.writePage
  repeat' with_reducible first
    | assumption | apply State.Keeps.ite | apply State.Keeps.loadAll | apply State.Keeps.haltOn
    | apply State.Keeps.haltOff | apply State.Keeps.sagRelease | apply State.Keeps.sleepEntry
    | apply State.Keeps.wtCommand | apply State.Keeps.wtReconfigured | apply State.Keeps.writePlain
    | apply State.Keeps.clearRecord | apply State.Keeps.clearPending | apply State.Keeps.noteThCtl
    | apply State.Keeps.thConv | apply State.Keeps.thReadmit | apply State.Keeps.hostGo
    | apply State.Keeps.writeLogCtl | apply State.Keeps.writeLogCmd | apply State.Keeps.mlCommand
    | apply State.Keeps.wrs | apply State.Keeps.csCommand | apply State.Keeps.csTransmit
    | apply State.Keeps.ddCommand | apply State.Keeps.mfCmd | apply State.Keeps.putKeyw | apply State.Keeps.keyCmd
theorem State.Keeps.tenderClear {r0 : State} {s : State} (t : Tender) (h0 : r0.Keeps s) :
    r0.Keeps (State.tenderClear s t) := by
  unfold State.tenderClear
  repeat' with_reducible first
    | assumption | apply State.Keeps.ite | apply State.Keeps.tput | apply State.Keeps.tputb
    | apply State.Keeps.setTd
theorem State.Keeps.writeTender {r0 : State} {s : State} (m : Master) (t : Tender) (a : Nat) (v : Word) (h0 : r0.Keeps s) :
    r0.Keeps (State.writeTender s m t a v) := by
  unfold State.writeTender
  repeat' with_reducible first
    | assumption | apply State.Keeps.ite | apply State.Keeps.writePlain | apply State.Keeps.tenderStart
    | apply State.Keeps.modTender | apply State.Keeps.tenderStopHeld | apply State.Keeps.tenderClear
  all_goals first
    | exact fun h => h
theorem State.Keeps.writePwmCtl {r0 : State} {s : State} (n : Berth) (v : Word) (h0 : r0.Keeps s) :
    r0.Keeps (State.writePwmCtl s n v) := by
  unfold State.writePwmCtl
  repeat' with_reducible first
    | assumption | apply State.Keeps.ite | apply State.Keeps.bwr | apply State.Keeps.disableEn
    | apply State.Keeps.enableEn
theorem State.Keeps.writeDislvl {r0 : State} {s : State} (n : Berth) (v : Word) (h0 : r0.Keeps s) :
    r0.Keeps (State.writeDislvl s n v) := by
  unfold State.writeDislvl
  repeat' with_reducible first
    | assumption | apply State.Keeps.ite | apply State.Keeps.bwr | apply State.Keeps.reEnableDis
    | apply State.Keeps.settle
theorem State.Keeps.writeSenseCtl {r0 : State} {s : State} (n : Berth) (v : Word) (h0 : r0.Keeps s) :
    r0.Keeps (State.writeSenseCtl s n v) := by
  unfold State.writeSenseCtl
  repeat' with_reducible first
    | assumption | apply State.Keeps.ite | apply State.Keeps.bset | apply State.Keeps.bputb | apply State.Keeps.bwr
    | apply State.Keeps.modPwm
theorem State.Keeps.homeWrite {r0 : State} {s : State} (n : Berth) (h0 : r0.Keeps s) :
    r0.Keeps (State.homeWrite s n) := by
  unfold State.homeWrite
  repeat' with_reducible first
    | assumption | apply State.Keeps.ite | apply State.Keeps.disableEn | apply State.Keeps.home
theorem State.Keeps.writeDrive {r0 : State} {s : State} (m : Master) (n : Berth) (o : Nat) (v : Word) (h0 : r0.Keeps s) :
    r0.Keeps (State.writeDrive s m n o v) := by
  unfold State.writeDrive
  repeat' with_reducible first
    | assumption | apply State.Keeps.ite | apply State.Keeps.startCal | apply State.Keeps.strobe
    | apply State.Keeps.tripClear | apply State.Keeps.writeShadow | apply State.Keeps.forceWrite
    | apply State.Keeps.restart | apply State.Keeps.writePlain | apply State.Keeps.writePwmCtl
    | apply State.Keeps.writeDislvl | apply State.Keeps.writeSenseCtl | apply State.Keeps.homeWrite
theorem State.Keeps.writeDemand {r0 : State} {s : State} (m : Master) (n : Berth) (o : Nat) (v : Word) (h0 : r0.Keeps s) :
    r0.Keeps (State.writeDemand s m n o v) := by
  unfold State.writeDemand
  repeat' with_reducible first
    | assumption | apply State.Keeps.ite | apply State.Keeps.clearLedger | apply State.Keeps.demandSource
    | apply State.Keeps.hostDemand | apply State.Keeps.applyCurve | apply State.Keeps.clearPending
    | apply State.Keeps.writePlain
theorem State.Keeps.applyWord {r0 : State} {s : State} (m : Master) (a : Nat) (v : Word) (h0 : r0.Keeps s) :
    r0.Keeps (State.applyWord s m a v) := by
  unfold State.applyWord
  repeat' with_reducible first
    | assumption | apply State.Keeps.ite | apply State.Keeps.writePage | apply State.Keeps.writeTender
    | apply State.Keeps.writeDrive | apply State.Keeps.writeDemand | split

/-! ### HostPort -/
theorem State.Keeps.noteFrame {r0 : State} {s : State} (h0 : r0.Keeps s) :
    r0.Keeps (State.noteFrame s) := by
  unfold State.noteFrame
  repeat' with_reducible first
    | assumption | apply State.Keeps.ite | apply State.Keeps.modDev
theorem State.Keeps.rejectFrame {r0 : State} {s : State} (reason seq op : Nat) (h0 : r0.Keeps s) :
    r0.Keeps (State.rejectFrame s reason seq op) := by
  unfold State.rejectFrame
  repeat' with_reducible first
    | assumption | apply State.Keeps.ite | apply State.Keeps.setb | apply State.Keeps.wr | apply State.Keeps.incSat
    | apply State.Keeps.modHost | apply State.Keeps.noteFrame | apply State.Keeps.raise | split
theorem State.Keeps.countFrame {r0 : State} {s : State} (h0 : r0.Keeps s) :
    r0.Keeps (State.countFrame s) := by
  unfold State.countFrame
  repeat' with_reducible first
    | assumption | apply State.Keeps.ite | apply State.Keeps.noteFrame | apply State.Keeps.putWide
theorem State.Keeps.acceptEntry {r0 : State} {s : State} (seq : Nat) (e : HEntry) (h0 : r0.Keeps s) :
    r0.Keeps (State.acceptEntry s seq e) := by
  unfold State.acceptEntry
  repeat' with_reducible first
    | assumption | apply State.Keeps.ite | apply State.Keeps.put | apply State.Keeps.modHost
    | apply State.Keeps.countFrame
theorem State.Keeps.fetchNew {r0 : State} {s : State} (count : Nat) (h0 : r0.Keeps s) :
    r0.Keeps (State.fetchNew s count) := by
  unfold State.fetchNew
  repeat' with_reducible first
    | assumption | apply State.Keeps.ite | apply State.Keeps.take | apply State.Keeps.modHost
theorem State.Keeps.acceptFrame {r0 : State} {s : State} (f : RawFrame) (h : Header) (addr seq : Nat) (data : List Nat) (h0 : r0.Keeps s) :
    r0.Keeps (State.acceptFrame s f h addr seq data) := by
  unfold State.acceptFrame
  repeat' with_reducible first
    | assumption | apply State.Keeps.ite | apply State.Keeps.setb | apply State.Keeps.modHost
    | apply State.Keeps.countFrame | apply State.Keeps.acceptEntry | apply State.Keeps.fetchNew
theorem State.Keeps.hostFrame {r0 : State} {s : State} (f : RawFrame) (h0 : r0.Keeps s) :
    r0.Keeps (State.hostFrame s f) := by
  unfold State.hostFrame
  repeat' with_reducible first
    | assumption | apply State.Keeps.ite | apply State.Keeps.setb | apply State.Keeps.rejectFrame
    | apply State.Keeps.acceptFrame | split
theorem State.Keeps.modEntry {r0 : State} {s : State} (k : Nat) (f : HEntry → HEntry) (h0 : r0.Keeps s) :
    r0.Keeps (State.modEntry s k f) := by
  unfold State.modEntry
  repeat' with_reducible first
    | assumption | apply State.Keeps.ite | apply State.Keeps.modHost
theorem State.Keeps.readWords {r0 : State} {s : State} (a k : Nat) (h0 : r0.Keeps s) :
    r0.Keeps (s.readWords a k).2.2 := by
  induction k generalizing s a with
  | zero => exact h0
  | succ k ih => exact ih _ (h0.readReg _ _)
theorem State.Keeps.fenceFor {r0 : State} {s : State} (e : HEntry) (h0 : r0.Keeps s) :
    r0.Keeps (State.fenceFor s e) := by
  unfold State.fenceFor
  repeat' with_reducible first
    | assumption | apply State.Keeps.ite | apply State.Keeps.setb | apply State.Keeps.modHost
    | apply State.Keeps.raise

/-! ### WriteRows -/

/-! ### Clock -/
theorem State.Keeps.tideNext {r0 : State} {s : State} (h0 : r0.Keeps s) :
    r0.Keeps (State.tideNext s) := by
  unfold State.tideNext
  repeat' with_reducible first
    | assumption | apply State.Keeps.ite | apply State.Keeps.modTide
theorem State.Keeps.tidePeriod {r0 : State} {s : State} (h0 : r0.Keeps s) :
    r0.Keeps (State.tidePeriod s) := by
  unfold State.tidePeriod
  repeat' with_reducible first
    | assumption | apply State.Keeps.ite | apply State.Keeps.tideNext | apply State.Keeps.brakePulse
    | apply State.Keeps.forAll

/-! ### Register writes that are no reset -/

theorem State.Keeps.applyWrite {r0 s : State} (m : Master) (ws : List (Nat × Word)) (hw : ∀ p ∈ ws, p.1 ≠ PWR_RESET)
    (h0 : r0.Keeps s) : r0.Keeps (s.applyWrite m ws) := by
  have e : (ws.any fun p => p.1 == PWR_RESET) = false := by
    simpa [List.any_eq_false] using fun a b h => hw (a, b) h
  unfold State.applyWrite
  rw [e]
  exact .foldl ws (fun _ _ h => h.applyWord _ _ _) h0

theorem State.Keeps.regWrite {r0 s : State} (m : Master) (a : Nat) (v : Word) (ha : a ≠ PWR_RESET) (h0 : r0.Keeps s) :
    r0.Keeps (s.regWrite m a v) := by
  unfold State.regWrite
  exact .ite _ (h0.applyWrite m _ fun p hp => by rw [List.mem_singleton.1 hp]; exact ha) h0

theorem State.Keeps.hostWrite {r0 s : State} (a : Nat) (v : Word) (ha : a ≠ PWR_RESET) (h0 : r0.Keeps s) :
    r0.Keeps (s.hostWrite a v) := h0.regWrite .host a v ha

end Sys2Proof.Machine
end

