-- ==== Sys2Proof/Laws/Only.lean ====
section
/-! SUPPORT. What each register update leaves as it was, bit by bit, and how these facts chain. -/

namespace Sys2Proof.Machine

theorem getLsbD_putBits (w : Word) (hi lo v i : Nat) (h : hi < 18) (hl : lo ≤ hi) (hi' : i < lo ∨ hi < i) :
    (putBits w hi lo v).getLsbD i = w.getLsbD i := by
  have := testBit_putBits w hi lo v i h hl
  rw [if_neg (by omega)] at this
  simpa [BitVec.testBit_toNat] using this

theorem State.Only.rfl {s : State} {l : List (Nat × Nat × Nat)} : s.Only s l := fun _ _ _ _ => Eq.refl _

theorem State.Only.mono {s t : State} {l m : List (Nat × Nat × Nat)} (h : s.Only t l) (hm : ∀ f ∈ l, f ∈ m) : s.Only t m :=
  fun a i hi hf => h a i hi fun f hfl => hf f (hm f hfl)

theorem State.Only.trans {r s t : State} {l : List (Nat × Nat × Nat)} (h : r.Only s l) (g : s.Only t l) : r.Only t l :=
  fun a i hi hf => (g a i hi hf).trans (h a i hi hf)

/-- States that read the same. -/
theorem State.Only.upd {r s t : State} {l : List (Nat × Nat × Nat)} (e : t.regs = s.regs) (h : r.Only s l) : r.Only t l :=
  fun a i hi hf => by
    have : t.rd a = s.rd a := by unfold State.rd; rw [e]
    rw [this]; exact h a i hi hf

theorem State.Only.put {r s : State} {l : List (Nat × Nat × Nat)} (a hi lo v : Nat) (hh : hi < 18) (hl : lo ≤ hi)
    (hm : (a, hi, lo) ∈ l) (h : r.Only s l) : r.Only (s.put a hi lo v) l := by
  intro b i hi' hf
  rw [State.rd_put]
  split
  · rename_i e
    subst e
    rw [getLsbD_putBits _ _ _ _ _ hh hl (hf _ hm (Eq.refl _))]
    exact h b i hi' hf
  · exact h b i hi' hf

theorem State.Only.wr {r s : State} {l : List (Nat × Nat × Nat)} (a : Nat) (w : Word)
    (hm : whole a ∈ l) (h : r.Only s l) : r.Only (s.wr a w) l := by
  intro b i hi' hf
  rw [State.rd_wr]
  split
  · rename_i e
    have := hf _ hm e.symm
    simp only [whole] at this
    omega
  · exact h b i hi' hf

/-- A bit is a field. -/
theorem State.Only.setb {r s : State} {l : List (Nat × Nat × Nat)} (a b : Nat) (hb : b < 18) (hm : (a, b, b) ∈ l)
    (h : r.Only s l) : r.Only (s.setb a b) l := h.put a b b 1 hb le_rfl hm
theorem State.Only.clrb {r s : State} {l : List (Nat × Nat × Nat)} (a b : Nat) (hb : b < 18) (hm : (a, b, b) ∈ l)
    (h : r.Only s l) : r.Only (s.clrb a b) l := h.put a b b 0 hb le_rfl hm
theorem State.Only.putb {r s : State} {l : List (Nat × Nat × Nat)} (a b : Nat) (v : Bool) (hb : b < 18) (hm : (a, b, b) ∈ l)
    (h : r.Only s l) : r.Only (s.putb a b v) l := h.put a b b _ hb le_rfl hm
theorem State.Only.ite {r s t : State} {l : List (Nat × Nat × Nat)} (c : Prop) [Decidable c] (h : r.Only s l) (g : r.Only t l) :
    r.Only (if c then s else t) l := by split <;> assumption
theorem State.Only.forAll {α : Type} {r s : State} {l : List (Nat × Nat × Nat)} (x : List α) {f : State → α → State}
    (hf : ∀ t a, r.Only t l → r.Only (f t a) l) (h : r.Only s l) : r.Only (s.forAll x f) l := by
  unfold State.forAll
  induction x generalizing s with
  | nil => exact h
  | cons a x ih => exact ih (hf _ _ h)
theorem State.Only.raise {r s : State} {l : List (Nat × Nat × Nat)} (e : Event) (h : r.Only s l) : r.Only (s.raise e) l :=
  h.upd (State.raise_regs s e)

/-! ### Reading one bit or field after an update -/

@[simp] theorem State.flag_put_same (s : State) (a b v : Nat) (hb : b < 18) : (s.put a b b v).flag a b = (v % 2 == 1) := by
  simp [State.flag, State.get_put_same s a b b v hb le_rfl]
theorem State.flag_setb (s : State) (a b c d : Nat) (hb : b < 18) :
    (s.setb a b).flag c d = (decide (c = a ∧ d = b) || s.flag c d) := by
  unfold State.setb
  by_cases h : c = a
  · subst h
    by_cases h' : d = b
    · subst h'; simp [hb]
    · simp only [State.flag]
      rw [State.get_put_apart s c b b 1 d d hb le_rfl (by omega)]
      simp [h']
  · simp only [State.flag]; rw [State.get_put_other _ _ _ _ _ _ _ _ h]; simp [h]
theorem State.flag_clrb (s : State) (a b c d : Nat) (hb : b < 18) :
    (s.clrb a b).flag c d = (!decide (c = a ∧ d = b) && s.flag c d) := by
  unfold State.clrb
  by_cases h : c = a
  · subst h
    by_cases h' : d = b
    · subst h'; simp [hb]
    · simp only [State.flag]
      rw [State.get_put_apart s c b b 0 d d hb le_rfl (by omega)]
      simp [h']
  · simp only [State.flag]; rw [State.get_put_other _ _ _ _ _ _ _ _ h]; simp [h]

/-! ### Raising -/

theorem mem_mergeRaised (e : Event) (l : List Event) : ∃ x ∈ mergeRaised e l, x.src = e.src := by
  induction l with
  | nil => exact ⟨e, List.mem_singleton.2 (Eq.refl _), Eq.refl _⟩
  | cons y r ih =>
    unfold mergeRaised
    split
    · rename_i h; exact ⟨_, List.mem_cons_self .., h⟩
    · obtain ⟨x, hx, hs⟩ := ih; exact ⟨x, List.mem_cons_of_mem _ hx, hs⟩

/-- A source that can be raised stands in (1,0) after it is. -/
theorem State.raise_raised (s : State) (e : Event) (h : s.canRaise e.src = true) : (s.raise e).Raised e.src := by
  unfold State.raise
  simp only [State.canRaise, Bool.and_eq_true, Bool.not_eq_true'] at h
  rw [if_neg (by simp [h.1.1, h.2]; simpa using h.1.2)]
  exact mem_mergeRaised { e with ts := s.tide.now } _

/-- Raising changes the collector alone. -/
theorem State.raise_eq (s : State) (e : Event) : s.raise e = { s with coll := (s.raise e).coll } := by
  unfold State.raise; split <;> rfl

end Sys2Proof.Machine
end

