-- ==== Sys2Proof/Laws/Sound.lean ====
section
/-! SUPPORT. The operations outside `State.Keeps`: a reset, a commit, an application, a host access that may reset. Each keeps
a sound state sound, the queue, and a key that is set. -/

namespace Sys2Proof.Machine

/-- `t` is sound if `s` is; it has the queue of `s`, and its one-time key if one is set. -/
def State.Holds (s t : State) : Prop :=
  t.pending = s.pending ∧ (s.key.isSome = true → t.key = s.key) ∧ (s.Sound → t.Sound)

theorem State.Keeps.holds {s t : State} (h : s.Keeps t) : s.Holds t :=
  ⟨h.2.2.1, fun _ => h.2.1, fun c => ⟨⟨h.2.2.2.1 c.1.1, h.1 ▸ c.1.2⟩, h.2.2.2.2 c.2⟩⟩

theorem State.Holds.trans {r s t : State} (h : r.Holds s) (g : s.Holds t) : r.Holds t :=
  ⟨g.1.trans h.1, fun c => (g.2.1 (by rw [h.2.1 c]; exact c)).trans (h.2.1 c), fun c => g.2.2 (h.2.2 c)⟩

theorem State.Holds.rfl {s : State} : s.Holds s := State.Keeps.rfl.holds

/-- Everything that a reset clears is sound (R9, R84). -/
theorem State.cleared'_holds (s : State) : s.Holds s.cleared' := by
  refine ⟨Eq.refl _, fun _ => Eq.refl _, fun _ => ⟨⟨Eq.refl _, Eq.refl _⟩, fun n p => ?_, fun t => ?_⟩⟩
  · have e : s.cleared'.leg n p = {} := by
      unfold State.leg State.berth
      have : s.cleared'.berths.get n = {} := Vector.getElem_replicate ..
      rw [this]; cases p <;> exact Eq.refl _
    rw [e]; exact fun h => Bool.noConfusion h.1
  · have e : s.cleared'.tender t = {} := by unfold State.tender; exact Vector.getElem_replicate ..
    rw [e]; exact fun h => Bool.noConfusion h.1

/-- A reset (R81, R84). -/
theorem State.enterReset_holds (s : State) (cause : Nat) : s.Holds (s.enterReset cause) := by
  unfold State.enterReset
  exact s.cleared'_holds.trans (((State.Keeps.rfl.modDev _).put _ _ _ _).put _ _ _ _).holds

/-- The protection set of a reset is empty: every register of it reads its reset value (R524). -/
theorem State.enterReset_prot (s : State) (cause : Nat) : (s.enterReset cause).prot = [] := Eq.refl _

/-- A list of records applied to a canonical set gives a canonical set. -/
theorem regsWf_foldl_store {α : Type} (l : List α) (f : α → Nat × Word) (m : List (Nat × Word)) (h : regsWf m = true) :
    regsWf (l.foldl (fun m p => store m (f p).1 (f p).2) m) = true := by
  induction l generalizing m with
  | nil => exact h
  | cons a l ih => exact ih _ (regsWf_store _ _ _ h)

theorem regsWf_applyRecords (m l : List (Nat × Word)) (h : regsWf m = true) : regsWf (applyRecords m l) = true :=
  regsWf_foldl_store l id m h

theorem regsWf_protOf (recs : List MRec) (b : Bool) : regsWf (protOf recs b) = true :=
  regsWf_store _ _ _ (regsWf_foldl_store _ (fun r : MRec => (r.adr, recordWord r.adr r.val)) _ (Eq.refl _))

/-- A change of the protection set to a canonical one, of the loader's blocks, or of both. -/
theorem State.holds_prot (s : State) (m : List (Nat × Word)) (ld : LoadSt) (h : regsWf s.prot = true → regsWf m = true) :
    s.Holds { s with prot := m, load := ld } :=
  ⟨Eq.refl _, fun _ => Eq.refl _, fun c => ⟨⟨c.1.1, h c.1.2⟩, c.2.of_eq (Eq.refl _) (Eq.refl _)⟩⟩

/-- Every loadable field at its reset value (R121). -/
theorem State.unloadAll_holds (s : State) : s.Holds s.unloadAll := by
  unfold State.unloadAll
  exact (State.Keeps.rfl.wrs _).holds.trans (State.holds_prot _ _ _ fun _ => Eq.refl _)

/-- A slot that fails (R121, R125). -/
theorem State.slotFailed_holds (s : State) (k : Nat) (rest : List Nat) (code off : Nat) :
    s.Holds (s.slotFailed k rest code off) := by
  refine s.unloadAll_holds.trans (State.Keeps.holds ?_)
  unfold State.slotFailed
  generalize s.unloadAll = u
  have h0 := State.Keeps.rfl (s := u)
  repeat' with_reducible first
    | assumption | apply State.Keeps.ite | apply State.Keeps.put | apply State.Keeps.wr | apply State.Keeps.modLoad
    | apply State.Keeps.raiseAll | apply State.Keeps.putMfState | apply State.Keeps.readSlot | split

/-- The device sleeps (R96). -/
theorem State.asleep_holds (s : State) : s.Holds s.asleep :=
  s.cleared'_holds.trans (State.Keeps.rfl.modDev _).holds

/-- An application (R535). -/
theorem State.applyProposal_holds (s : State) : s.Holds s.applyProposal := by
  refine (s.holds_prot (applyRecords s.prot s.staged) s.load fun h => regsWf_applyRecords _ _ h).trans (State.Keeps.holds ?_)
  unfold State.applyProposal
  have h0 := State.Keeps.rfl (s := { s with prot := applyRecords s.prot s.staged, load := s.load })
  exact ((((((h0.forAll _ fun _ _ h => h.modPwm _ _).putb _ _ _).put _ _ _ _).foldl _ fun _ _ h => (h.brakeRelease _).chopApply _).logPush _).csToIdle).raiseAll _ _

/-- A commit (R123). -/
theorem State.commit_holds (s : State) (slot : Nat) (m : Image) (saved : Option ThermalCopy) :
    s.Holds (s.commit slot m saved) := by
  refine (s.holds_prot (protOf m.recs m.decl.sealed)
    { s.load with decl := some (m.decl.atCompat s.compat), cands := [] } fun _ => regsWf_protOf _ _).trans (State.Keeps.holds ?_)
  unfold State.commit
  generalize he : ({ s with prot := protOf m.recs m.decl.sealed,
                            load := { s.load with decl := some (m.decl.atCompat s.compat), cands := [] } } : State) = s0
  have h0 := State.Keeps.rfl (s := s0)
  dsimp only
  repeat' with_reducible first
    | assumption | apply State.Keeps.ite | apply State.Keeps.raiseAll | apply State.Keeps.logMount
    | apply State.Keeps.forAll | apply State.Keeps.tenderStart | apply State.Keeps.thermCommit
    | apply State.Keeps.commitReference | apply State.Keeps.commitLanes | apply State.Keeps.commitRegs
    | apply State.Keeps.tput | apply State.Keeps.modTender | apply State.Keeps.loadTender | apply State.Keeps.bput
    | apply State.Keeps.loadBerth | apply State.Keeps.foldl | apply State.Keeps.loadRecord | intro _ _ _
  all_goals exact fun h => h

/-- A write by a master, a reset by PWR_RESET among its words included (R36, R83). -/
theorem State.applyWrite_holds (s : State) (m : Master) (ws : List (Nat × Word)) : s.Holds (s.applyWrite m ws) := by
  unfold State.applyWrite
  have h : s.Keeps (ws.foldl (fun s p => s.applyWord m p.1 p.2) s) :=
    .foldl ws (fun _ _ h => h.applyWord _ _ _) .rfl
  dsimp only
  by_cases c : (ws.any fun p => p.1 == PWR_RESET) = true
  · rw [if_pos c]; exact h.holds.trans (State.enterReset_holds _ _)
  · rw [if_neg c]; exact h.holds

theorem State.regWrite_holds (s : State) (m : Master) (a : Nat) (v : Word) : s.Holds (s.regWrite m a v) := by
  unfold State.regWrite
  split
  · exact s.applyWrite_holds _ _
  · exact .rfl

/-- The access of an entry (R434 to R438). -/
theorem State.entryAccess_holds (s : State) (k : Nat) (e : HEntry) (stall : Option Nat) : s.Holds (s.entryAccess k e stall) := by
  unfold State.entryAccess
  dsimp only
  have h0 := State.Keeps.rfl (s := s)
  repeat' with_reducible first
    | split
    | exact (State.Keeps.modEntry _ _ (by assumption)).holds
    | exact (State.Keeps.modEntry _ _ (State.Keeps.readWords _ _ (by assumption))).holds
  all_goals exact (s.applyWrite_holds _ _).trans (State.Keeps.modEntry _ _ .rfl).holds

end Sys2Proof.Machine
end

