-- ==== Sys2Proof/Laws/Within.lean ====
section
/-! SUPPORT. The zones that every operation stays within: one lemma per operation, in the form that chains them. A premise
`.z ∈ l` says that the operation may touch zone z; what it can do lies in the zones of its premises. -/

namespace Sys2Proof.Machine

theorem State.Within.refl {s : State} {l : List Zone} : s.Within s l where
  regs _ _ := rfl
  tender _ _ := rfl
  berth _ _ := rfl
  dev _ := rfl
  load _ := rfl
  tide _ := rfl
  quays _ := ⟨rfl, rfl⟩
  strip _ := rfl
  therm _ := rfl
  coll _ := rfl
  host _ := rfl
  mem _ := rfl
  moor _ := rfl
  cs _ := rfl
  dock _ := rfl
  access _ := rfl
  free _ := rfl
  prot := rfl
  key := rfl
  pending := rfl

theorem State.Within.trans {r s t : State} {l : List Zone} (h : r.Within s l) (g : s.Within t l) : r.Within t l where
  regs a c := (g.regs a c).trans (h.regs a c)
  tender u c := (g.tender u c).trans (h.tender u c)
  berth n c := (g.berth n c).trans (h.berth n c)
  dev c := (g.dev c).trans (h.dev c)
  load c := (g.load c).trans (h.load c)
  tide c := (g.tide c).trans (h.tide c)
  quays c := ⟨(g.quays c).1.trans (h.quays c).1, (g.quays c).2.trans (h.quays c).2⟩
  strip c := (g.strip c).trans (h.strip c)
  therm c := (g.therm c).trans (h.therm c)
  coll c := (g.coll c).trans (h.coll c)
  host c := (g.host c).trans (h.host c)
  mem c := (g.mem c).trans (h.mem c)
  moor c := (g.moor c).trans (h.moor c)
  cs c := (g.cs c).trans (h.cs c)
  dock c := (g.dock c).trans (h.dock c)
  access c := (g.access c).trans (h.access c)
  free c := (g.free c).trans (h.free c)
  prot := g.prot.trans h.prot
  key := g.key.trans h.key
  pending := g.pending.trans h.pending

theorem State.Within.mono {s t : State} {l m : List Zone} (h : s.Within t l) (hm : ∀ z ∈ l, z ∈ m) : s.Within t m where
  regs a c := h.regs a fun k => c (hm _ k)
  tender u c := h.tender u fun k => c (hm _ k)
  berth n c := h.berth n fun k => c (hm _ k)
  dev c := h.dev fun k => c (hm _ k)
  load c := h.load fun k => c (hm _ k)
  tide c := h.tide fun k => c (hm _ k)
  quays c := h.quays fun k => c (hm _ k)
  strip c := h.strip fun k => c (hm _ k)
  therm c := h.therm fun k => c (hm _ k)
  coll c := h.coll fun k => c (hm _ k)
  host c := h.host fun k => c (hm _ k)
  mem c := h.mem fun k => c (hm _ k)
  moor c := h.moor fun k => c (hm _ k)
  cs c := h.cs fun k => c (hm _ k)
  dock c := h.dock fun k => c (hm _ k)
  access c := h.access fun k => c (hm _ k)
  free c := h.free fun k => c (hm _ k)
  prot := h.prot
  key := h.key
  pending := h.pending

/-! ### Zones of addresses -/

theorem regZone_page (a k : Nat) (h1 : k * 256 ≤ a) (h2 : a < k * 256 + 256)
    (hk : k < 15 ∧ k ≠ 3) : regZone a = .page k := by
  have hd : a / 256 = k := by omega
  unfold regZone blockOf
  by_cases c : a < 0x300
  · simp [c, hd]
  · have c1 : ¬ a < 0x400 := by omega
    have c2 : a < 0xF00 := by omega
    simp [c, c1, c2, hd]

theorem regZone_ba (n : Berth) (o : Nat) (h : o < 0x400) : regZone (ba n o) = .berth n := by
  have hn := n.isLt
  unfold regZone blockOf ba
  have e : ((0x4000 + 0x400 * n.val + o - 0x4000) / 0x400) = n.val := by omega
  simp only [show ¬ (0x4000 + 0x400 * n.val + o < 0x300) by omega, show ¬ (0x4000 + 0x400 * n.val + o < 0x400) by omega,
    show ¬ (0x4000 + 0x400 * n.val + o < 0xF00) by omega, show ¬ (0x4000 + 0x400 * n.val + o < 0xFC0) by omega,
    show ¬ (0x4000 + 0x400 * n.val + o < 0x4000) by omega, show 0x4000 + 0x400 * n.val + o < 0x7000 by omega,
    if_false, dif_neg, dif_pos, not_false_eq_true, e]

theorem regZone_ta (t : Tender) (o : Nat) (h : o < 0x40) : regZone (ta t o) = .tender t := by
  have hn := t.isLt
  unfold regZone blockOf ta
  have e : ((0x0F00 + 0x40 * t.val + o - 0x0F00) / 0x40) = t.val := by omega
  simp only [show ¬ (0x0F00 + 0x40 * t.val + o < 0x300) by omega, show ¬ (0x0F00 + 0x40 * t.val + o < 0x400) by omega,
    show ¬ (0x0F00 + 0x40 * t.val + o < 0xF00) by omega, show 0x0F00 + 0x40 * t.val + o < 0xFC0 by omega,
    if_false, dif_pos, e]

theorem Phase.idx_lt (p : Phase) : p.idx < 3 := by cases p <;> decide
theorem switchIdx_lt (p : Phase) (sd : Side) : switchIdx p sd < 6 := by cases p <;> cases sd <;> decide

/-- An address `i` above a base of a page. -/
theorem regZone_add (b i k m : Nat) (hi : i < m) (h1 : k * 256 ≤ b) (h2 : b + m ≤ k * 256 + 256) (hk : k < 15 ∧ k ≠ 3) :
    regZone (b + i) = .page k := regZone_page _ k (by omega) (by omega) hk
/-- An address `i` above an offset of a berth's block. -/
theorem regZone_ba_add (n : Berth) (b i m : Nat) (hi : i < m) (h : b + m ≤ 0x400) : regZone (ba n (b + i)) = .berth n :=
  regZone_ba n _ (by omega)

/-! ### Updates -/

section
variable {r s : State} {l : List Zone}

/-- States that differ in one part that may change. -/
theorem State.Within.wr (a : Nat) (w : Word) (hm : regZone a ∈ l) (h : r.Within s l) : r.Within (s.wr a w) l :=
  h.trans { State.Within.refl with
    regs := fun b c => by
      rw [State.rd_wr, if_neg]
      rintro rfl
      exact c hm }
theorem State.Within.put (a hi lo v : Nat) (hm : regZone a ∈ l) (h : r.Within s l) : r.Within (s.put a hi lo v) l :=
  h.wr a _ hm
theorem State.Within.setb (a b : Nat) (hm : regZone a ∈ l) (h : r.Within s l) : r.Within (s.setb a b) l := h.wr a _ hm
theorem State.Within.clrb (a b : Nat) (hm : regZone a ∈ l) (h : r.Within s l) : r.Within (s.clrb a b) l := h.wr a _ hm
theorem State.Within.putb (a b : Nat) (v : Bool) (hm : regZone a ∈ l) (h : r.Within s l) : r.Within
    (s.putb a b v) l := h.wr a _ hm
theorem State.Within.bwr (n : Berth) (o : Nat) (w : Word) (ho : o < 0x400) (hm : .berth n ∈ l) (h : r.Within s l) :
    r.Within (s.bwr n o w) l := h.wr _ _ (regZone_ba n o ho ▸ hm)
theorem State.Within.bput (n : Berth) (o hi lo v : Nat) (ho : o < 0x400) (hm : .berth n ∈ l) (h : r.Within s l) :
    r.Within (s.bput n o hi lo v) l := h.wr _ _ (regZone_ba n o ho ▸ hm)
theorem State.Within.bset (n : Berth) (o b : Nat) (ho : o < 0x400) (hm : .berth n ∈ l) (h : r.Within s l) :
    r.Within (s.bset n o b) l := h.wr _ _ (regZone_ba n o ho ▸ hm)
theorem State.Within.bclr (n : Berth) (o b : Nat) (ho : o < 0x400) (hm : .berth n ∈ l) (h : r.Within s l) :
    r.Within (s.bclr n o b) l := h.wr _ _ (regZone_ba n o ho ▸ hm)
theorem State.Within.bputb (n : Berth) (o b : Nat) (v : Bool) (ho : o < 0x400) (hm : .berth n ∈ l) (h : r.Within s l) :
    r.Within (s.bputb n o b v) l := h.wr _ _ (regZone_ba n o ho ▸ hm)
theorem State.Within.twr (t : Tender) (o : Nat) (w : Word) (ho : o < 0x40) (hm : .tender t ∈ l) (h : r.Within s l) :
    r.Within (s.twr t o w) l := h.wr _ _ (regZone_ta t o ho ▸ hm)
theorem State.Within.tput (t : Tender) (o hi lo v : Nat) (ho : o < 0x40) (hm : .tender t ∈ l) (h : r.Within s l) :
    r.Within (s.tput t o hi lo v) l := h.wr _ _ (regZone_ta t o ho ▸ hm)
theorem State.Within.tputb (t : Tender) (o b : Nat) (v : Bool) (ho : o < 0x40) (hm : .tender t ∈ l) (h : r.Within s l) :
    r.Within (s.tputb t o b v) l := h.wr _ _ (regZone_ta t o ho ▸ hm)
theorem State.Within.incSat (a : Nat) (hm : regZone a ∈ l) (h : r.Within s l) : r.Within (s.incSat a) l := h.wr a _ hm

theorem State.Within.forAll {α : Type} (x : List α) {f : State → α → State}
    (hf : ∀ t a, r.Within t l → r.Within (f t a) l) (h : r.Within s l) : r.Within (s.forAll x f) l := by
  unfold State.forAll
  induction x generalizing s with
  | nil => exact h
  | cons a x ih => exact ih (hf _ _ h)
theorem State.Within.foldl {α : Type} (x : List α) {f : State → α → State}
    (hf : ∀ t a, r.Within t l → r.Within (f t a) l) (h : r.Within s l) : r.Within (x.foldl f s) l := .forAll x hf h
/-- As `forAll`, with what is known of the elements. -/
theorem State.Within.forAll_mem {α : Type} (x : List α) {f : State → α → State}
    (hf : ∀ t, ∀ a ∈ x, r.Within t l → r.Within (f t a) l) (h : r.Within s l) : r.Within (s.forAll x f) l := by
  unfold State.forAll
  induction x generalizing s with
  | nil => exact h
  | cons a x ih => exact ih (fun t b hb => hf t b (List.mem_cons_of_mem _ hb)) (hf _ _ (List.mem_cons_self ..) h)
theorem State.Within.wrs (x : List (Nat × Word)) (hx : ∀ p ∈ x, regZone p.1 ∈ l) (h : r.Within s l) : r.Within
    (s.wrs x) l :=
  .forAll_mem x (fun _ p hp h => h.wr _ _ (hx p hp)) h
theorem State.Within.putWide (a v k : Nat) (hm : ∀ i < k, regZone (a + i) ∈ l) (h : r.Within s l) :
    r.Within (s.putWide a v k) l := by
  induction k with
  | zero => exact h
  | succ k ih => exact (ih fun i hi => hm i (by omega)).wr _ _ (hm k (by omega))
theorem State.Within.ite {t : State} (c : Prop) [Decidable c] (h : r.Within s l) (g : r.Within t l) :
    r.Within (if c then s else t) l := by split <;> assumption

theorem State.Within.modBerth (n : Berth) (f : BerthSt → BerthSt) (hm : .berth n ∈ l) (h : r.Within s l) :
    r.Within (s.modBerth n f) l :=
  h.trans { State.Within.refl with
    berth := fun m c => by
      rw [State.berth_modBerth, if_neg]
      rintro rfl
      exact c hm }
theorem State.Within.modTender (t : Tender) (f : TenderSt → TenderSt) (hm : .tender t ∈ l) (h : r.Within s l) :
    r.Within (s.modTender t f) l :=
  h.trans { State.Within.refl with
    tender := fun m c => by
      rw [State.tender_modTender, if_neg]
      rintro rfl
      exact c hm }
theorem State.Within.modPwm (n : Berth) (f : PwmSt → PwmSt) (hm : .berth n ∈ l) (h : r.Within s l) : r.Within
    (s.modPwm n f) l := h.modBerth n _ hm
theorem State.Within.modLeg (n : Berth) (p : Phase) (f : Leg → Leg) (hm : .berth n ∈ l) (h : r.Within s l) : r.Within
    (s.modLeg n p f) l := h.modBerth n _ hm
theorem State.Within.modSens (n : Berth) (f : SensSt → SensSt) (hm : .berth n ∈ l) (h : r.Within s l) : r.Within
    (s.modSens n f) l := h.modBerth n _ hm
theorem State.Within.modCtl (n : Berth) (f : Ctl → Ctl) (hm : .berth n ∈ l) (h : r.Within s l) : r.Within
    (s.modCtl n f) l := h.modBerth n _ hm
theorem State.Within.modStart (n : Berth) (f : StartSt → StartSt) (hm : .berth n ∈ l) (h : r.Within s l) : r.Within
    (s.modStart n f) l := h.modBerth n _ hm
theorem State.Within.modDem (n : Berth) (f : DemSt → DemSt) (hm : .berth n ∈ l) (h : r.Within s l) : r.Within
    (s.modDem n f) l := h.modBerth n _ hm
theorem State.Within.modDev (f : DevSt → DevSt) (hm : .dev ∈ l) (h : r.Within s l) : r.Within (s.modDev f) l :=
  h.trans { State.Within.refl with dev := fun c => absurd hm c }
theorem State.Within.modTide (f : TideSt → TideSt) (hm : .tide ∈ l) (h : r.Within s l) : r.Within (s.modTide f) l :=
  h.trans { State.Within.refl with tide := fun c => absurd hm c }
theorem State.Within.modQuay (q : Quay) (f : QuaySt → QuaySt) (hm : .quays ∈ l) (h : r.Within s l) : r.Within
    (s.modQuay q f) l := by
  cases q <;> exact h.trans { State.Within.refl with quays := fun c => absurd hm c }
theorem State.Within.modTherm (f : ThermSt → ThermSt) (hm : .therm ∈ l) (h : r.Within s l) : r.Within
    (s.modTherm f) l :=
  h.trans { State.Within.refl with therm := fun c => absurd hm c }
theorem State.Within.modColl (f : CollSt → CollSt) (hm : .coll ∈ l) (h : r.Within s l) : r.Within (s.modColl f) l :=
  h.trans { State.Within.refl with coll := fun c => absurd hm c }
theorem State.Within.modHost (f : HostSt → HostSt) (hm : .host ∈ l) (h : r.Within s l) : r.Within (s.modHost f) l :=
  h.trans { State.Within.refl with host := fun c => absurd hm c }
theorem State.Within.modMem (f : MemSt → MemSt) (hm : .mem ∈ l) (h : r.Within s l) : r.Within (s.modMem f) l :=
  h.trans { State.Within.refl with mem := fun c => absurd hm c }
theorem State.Within.modLog (f : LogSt → LogSt) (hm : .mem ∈ l) (h : r.Within s l) : r.Within
    (s.modLog f) l := h.modMem _ hm
theorem State.Within.modMoor (f : MoorSt → MoorSt) (hm : .moor ∈ l) (h : r.Within s l) : r.Within (s.modMoor f) l :=
  h.trans { State.Within.refl with moor := fun c => absurd hm c }
theorem State.Within.modCs (f : CsSt → CsSt) (hm : .cs ∈ l) (h : r.Within s l) : r.Within (s.modCs f) l :=
  h.trans { State.Within.refl with cs := fun c => absurd hm c }
theorem State.Within.modDock (f : DockSt → DockSt) (hm : .dock ∈ l) (h : r.Within s l) : r.Within (s.modDock f) l :=
  h.trans { State.Within.refl with dock := fun c => absurd hm c }
theorem State.Within.useFree (k : Nat) (hm : .free ∈ l) (h : r.Within s l) : r.Within (s.useFree k) l :=
  h.trans { State.Within.refl with free := fun c => absurd hm c }
theorem State.Within.loadPart (x : LoadSt) (hm : .load ∈ l) (h : r.Within s l) : r.Within { s with load := x } l :=
  h.trans { State.Within.refl with load := fun c => absurd hm c }
theorem State.Within.accessPart (x : AccessSt) (hm : .access ∈ l)
    (h : r.Within s l) : r.Within { s with access := x } l :=
  h.trans { State.Within.refl with access := fun c => absurd hm c }
theorem State.Within.stripPart (x : Bool) (hm : .strip ∈ l) (h : r.Within s l) : r.Within { s with stripUv := x } l :=
  h.trans { State.Within.refl with strip := fun c => absurd hm c }

end

/-! ### Bits -/

theorem State.Within.modLoad {r0 s : State} {Zs : List Zone} (f : LoadSt → LoadSt) (h_load : .load ∈ Zs)
    (h0 : r0.Within s Zs) :
    r0.Within (State.modLoad s f) Zs := h0.trans { State.Within.refl with load := fun c => absurd h_load c }

/-! ### Ops -/

theorem State.Within.raise {r0 s : State} {Zs : List Zone} (e : Event) (h_coll : .coll ∈ Zs) (h0 : r0.Within s Zs) :
    r0.Within (State.raise s e) Zs := by
  unfold State.raise
  repeat' with_reducible first
    | assumption | apply State.Within.ite | apply State.Within.modColl
theorem State.Within.raiseAll {r0 s : State} {Zs : List Zone} (src adr : Nat) (h_coll : .coll ∈ Zs)
    (h0 : r0.Within s Zs) :
    r0.Within (State.raiseAll s src adr) Zs := by
  unfold State.raiseAll
  repeat' with_reducible first
    | assumption | apply State.Within.ite | apply State.Within.raise
theorem State.Within.raiseForced {r0 s : State} {Zs : List Zone} (src adr forced : Nat) (h_coll : .coll ∈ Zs)
    (h0 : r0.Within s Zs) :
    r0.Within (State.raiseForced s src adr forced) Zs := by
  unfold State.raiseForced
  repeat' with_reducible first
    | assumption | apply State.Within.ite | apply State.Within.raise
theorem State.Within.raiseQuay {r0 s : State} {Zs : List Zone} (src adr : Nat) (q : Quay) (h_coll : .coll ∈ Zs)
    (h0 : r0.Within s Zs) :
    r0.Within (State.raiseQuay s src adr q) Zs := by
  unfold State.raiseQuay
  repeat' with_reducible first
    | assumption | apply State.Within.ite | apply State.Within.raise
theorem State.Within.raiseBerth {r0 s : State} {Zs : List Zone} (n : Berth) (k : Nat) (forced : Nat := 0)
    (h_coll : .coll ∈ Zs) (h0 : r0.Within s Zs) :
    r0.Within (State.raiseBerth s n k forced) Zs := by
  unfold State.raiseBerth
  repeat' with_reducible first
    | assumption | apply State.Within.ite | apply State.Within.raise
theorem State.Within.ddProgress {r0 s : State} {Zs : List Zone} (action part code : Nat) (hp12 : .page 12 ∈ Zs)
    (h0 : r0.Within s Zs) :
    r0.Within (State.ddProgress s action part code) Zs := by
  unfold State.ddProgress
  repeat' with_reducible first
    | assumption | apply State.Within.ite | apply State.Within.put
  all_goals first
    | assumption

/-! ### Gates -/

theorem State.Within.clampCode {r0 s : State} {Zs : List Zone} (n : Berth) (p : Phase) (o : Nat) (ho : o < 0x400)
    (hb : .berth n ∈ Zs) (h0 : r0.Within s Zs) :
    r0.Within (State.clampCode s n p o) Zs := by
  unfold State.clampCode
  repeat' with_reducible first
    | assumption | apply State.Within.ite | apply State.Within.bput
theorem State.Within.settlePhase {r0 s : State} {Zs : List Zone} (n : Berth) (t : Nat) (p : Phase)
    (hb : .berth n ∈ Zs) (h0 : r0.Within s Zs) :
    r0.Within (State.settlePhase s n t p) Zs := by
  unfold State.settlePhase
  repeat' with_reducible first
    | assumption | apply State.Within.ite | apply State.Within.clampCode | apply State.Within.settle
    | apply State.Within.bput | apply State.Within.modLeg | apply State.Within.modPwm
  all_goals first
    | assumption
    | decide
theorem State.Within.startCal {r0 s : State} {Zs : List Zone} (n : Berth) (hb : .berth n ∈ Zs) (hp12 : .page 12 ∈ Zs)
    (h0 : r0.Within s Zs) :
    r0.Within (State.startCal s n) Zs := by
  unfold State.startCal
  repeat' with_reducible first
    | assumption | apply State.Within.ite | apply State.Within.bset | apply State.Within.modSens
    | apply State.Within.put
  all_goals first
    | assumption
    | decide
    | exact lt_of_lt_of_le (Nat.add_lt_add_left (Phase.idx_lt _) _) (by decide)
    | exact lt_of_lt_of_le (Nat.add_lt_add_left (switchIdx_lt _ _) _) (by decide)
    | (rw [regZone_add _ _ 12 12 (Fin.isLt _) (by decide) (by decide) (by decide)]; assumption)
theorem State.Within.dockCal {r0 s : State} {Zs : List Zone} (n : Berth) (hb : .berth n ∈ Zs) (h_dock : .dock ∈ Zs)
    (hp12 : .page 12 ∈ Zs) (h0 : r0.Within s Zs) :
    r0.Within (State.dockCal s n) Zs := by
  unfold State.dockCal
  repeat' with_reducible first
    | assumption | apply State.Within.ite | apply State.Within.startCal | apply State.Within.modDock
theorem State.Within.settleAt {r0 s : State} {Zs : List Zone} (n : Berth) (t : Nat) (hb : .berth n ∈ Zs)
    (h_dock : .dock ∈ Zs) (hp12 : .page 12 ∈ Zs) (h0 : r0.Within s Zs) :
    r0.Within (State.settleAt s n t) Zs := by
  unfold State.settleAt
  repeat' with_reducible first
    | assumption | apply State.Within.ite | apply State.Within.modPwm | apply State.Within.settlePhase
    | apply State.Within.dockCal | apply State.Within.forAll | intro _ _ _
theorem State.Within.settle {r0 s : State} {Zs : List Zone} (n : Berth) (hb : .berth n ∈ Zs) (h_dock : .dock ∈ Zs)
    (hp12 : .page 12 ∈ Zs) (h0 : r0.Within s Zs) :
    r0.Within (State.settle s n) Zs := by
  unfold State.settle
  repeat' with_reducible first
    | assumption | apply State.Within.ite | apply State.Within.settleAt
theorem State.Within.bsCount {r0 s : State} {Zs : List Zone} (n : Berth) (p : Phase) (hb : .berth n ∈ Zs)
    (h_coll : .coll ∈ Zs) (h0 : r0.Within s Zs) :
    r0.Within (State.bsCount s n p) Zs := by
  unfold State.bsCount
  repeat' with_reducible first
    | assumption | apply State.Within.ite | apply State.Within.raiseBerth | apply State.Within.bput
  all_goals first
    | assumption
    | decide
theorem State.Within.reEnable {r0 s : State} {Zs : List Zone} (n : Berth) (p : Phase) (sd : Side) (hb : .berth n ∈ Zs)
    (h_coll : .coll ∈ Zs) (h0 : r0.Within s Zs) :
    r0.Within (State.reEnable s n p sd) Zs := by
  unfold State.reEnable
  repeat' with_reducible first
    | assumption | apply State.Within.ite | apply State.Within.bsCount | apply State.Within.modLeg | split
theorem State.Within.reEnableAll {r0 s : State} {Zs : List Zone} (n : Berth) (hb : .berth n ∈ Zs)
    (h_coll : .coll ∈ Zs) (h0 : r0.Within s Zs) :
    r0.Within (State.reEnableAll s n) Zs := by
  unfold State.reEnableAll
  repeat' with_reducible first
    | assumption | apply State.Within.ite | apply State.Within.reEnable | apply State.Within.forAll | intro _ _ _
theorem State.Within.reEnableDis {r0 s : State} {Zs : List Zone} (n : Berth) (hb : .berth n ∈ Zs)
    (h_coll : .coll ∈ Zs) (h0 : r0.Within s Zs) :
    r0.Within (State.reEnableDis s n) Zs := by
  unfold State.reEnableDis
  repeat' with_reducible first
    | assumption | apply State.Within.ite | apply State.Within.reEnable | apply State.Within.forAll | intro _ _ _
theorem State.Within.loadShadow {r0 s : State} {Zs : List Zone} (n : Berth) (i : Nat) (hi : 0x11 + i < 0x400)
    (hb : .berth n ∈ Zs) (h0 : r0.Within s Zs) :
    r0.Within (State.loadShadow s n i) Zs := by
  unfold State.loadShadow
  repeat' with_reducible first
    | assumption | apply State.Within.ite | apply State.Within.bput | apply State.Within.bset | apply State.Within.bwr
  all_goals first
    | assumption
    | decide
theorem State.Within.load_ {r0 s : State} {Zs : List Zone} (n : Berth) (hb : .berth n ∈ Zs) (h0 : r0.Within s Zs) :
    r0.Within (State.load_ s n) Zs := by
  unfold State.load_
  repeat' with_reducible first
    | assumption | apply State.Within.ite | apply State.Within.modPwm | apply State.Within.bset | apply State.Within.bclr
    | refine State.Within.forAll_mem _ (fun t i hi h => h.loadShadow _ _ ?_ hb) ?_
  all_goals first
    | assumption | decide | (have := List.mem_range.1 hi; omega)
theorem State.Within.strobe {r0 s : State} {Zs : List Zone} (n : Berth) (hb : .berth n ∈ Zs) (h0 : r0.Within s Zs) :
    r0.Within (State.strobe s n) Zs := by
  unfold State.strobe
  repeat' with_reducible first
    | assumption | apply State.Within.ite | apply State.Within.load_ | apply State.Within.bset
  all_goals first
    | assumption
    | decide
theorem State.Within.pwmStop {r0 s : State} {Zs : List Zone} (n : Berth) (hb : .berth n ∈ Zs) (h0 : r0.Within s Zs) :
    r0.Within (State.pwmStop s n) Zs := by
  unfold State.pwmStop
  repeat' with_reducible first
    | assumption | apply State.Within.ite | apply State.Within.bclr | apply State.Within.modBerth
    | apply State.Within.load_
  all_goals first
    | assumption
    | decide
theorem State.Within.disableEn {r0 s : State} {Zs : List Zone} (n : Berth) (hb : .berth n ∈ Zs) (h_coll : .coll ∈ Zs)
    (h_dock : .dock ∈ Zs) (hp12 : .page 12 ∈ Zs) (h0 : r0.Within s Zs) :
    r0.Within (State.disableEn s n) Zs := by
  unfold State.disableEn
  repeat' with_reducible first
    | assumption | apply State.Within.ite | apply State.Within.settle | apply State.Within.pwmStop
    | apply State.Within.reEnableDis
theorem State.Within.enableEn {r0 s : State} {Zs : List Zone} (n : Berth) (hb : .berth n ∈ Zs) (h_coll : .coll ∈ Zs)
    (h_dock : .dock ∈ Zs) (hp12 : .page 12 ∈ Zs) (h0 : r0.Within s Zs) :
    r0.Within (State.enableEn s n) Zs := by
  unfold State.enableEn
  repeat' with_reducible first
    | assumption | apply State.Within.ite | apply State.Within.bset | apply State.Within.modPwm
    | apply State.Within.reEnableDis | apply State.Within.settle
  all_goals first
    | assumption
    | decide
theorem State.Within.setState {r0 s : State} {Zs : List Zone} (n : Berth) (v : Nat) (hb : .berth n ∈ Zs)
    (h0 : r0.Within s Zs) :
    r0.Within (State.setState s n v) Zs := by
  unfold State.setState
  repeat' with_reducible first
    | assumption | apply State.Within.ite | apply State.Within.bclr | apply State.Within.bput | apply State.Within.bwr
    | apply State.Within.modBerth | apply State.Within.modStart
  all_goals first
    | assumption
    | decide
theorem State.Within.stopNow {r0 s : State} {Zs : List Zone} (n : Berth) (v : Nat) (hb : .berth n ∈ Zs)
    (h_coll : .coll ∈ Zs) (h_dock : .dock ∈ Zs) (hp12 : .page 12 ∈ Zs) (h0 : r0.Within s Zs) :
    r0.Within (State.stopNow s n v) Zs := by
  unfold State.stopNow
  repeat' with_reducible first
    | assumption | apply State.Within.ite | apply State.Within.disableEn | apply State.Within.setState
    | apply State.Within.bclr
  all_goals first
    | assumption
    | decide
theorem State.Within.endTrialStart {r0 s : State} {Zs : List Zone} (n : Berth) (hb : .berth n ∈ Zs)
    (h_coll : .coll ∈ Zs) (h_dock : .dock ∈ Zs) (hp12 : .page 12 ∈ Zs) (h0 : r0.Within s Zs) :
    r0.Within (State.endTrialStart s n) Zs := by
  unfold State.endTrialStart
  repeat' with_reducible first
    | assumption | apply State.Within.ite | apply State.Within.bclr | apply State.Within.bput
    | apply State.Within.modStart | apply State.Within.disableEn
  all_goals first
    | assumption
    | decide
theorem State.Within.beginStop {r0 s : State} {Zs : List Zone} (n : Berth) (v : Nat) (hb : .berth n ∈ Zs)
    (h0 : r0.Within s Zs) :
    r0.Within (State.beginStop s n v) Zs := by
  unfold State.beginStop
  repeat' with_reducible first
    | assumption | apply State.Within.ite | apply State.Within.setState | apply State.Within.modBerth
theorem State.Within.stopRequest {r0 s : State} {Zs : List Zone} (n : Berth) (hb : .berth n ∈ Zs)
    (h_coll : .coll ∈ Zs) (h_dock : .dock ∈ Zs) (hp12 : .page 12 ∈ Zs) (h0 : r0.Within s Zs) :
    r0.Within (State.stopRequest s n) Zs := by
  unfold State.stopRequest
  repeat' with_reducible first
    | assumption | apply State.Within.ite | apply State.Within.stopNow | apply State.Within.beginStop
    | apply State.Within.modStart | apply State.Within.endTrialStart
theorem State.Within.trip {r0 s : State} {Zs : List Zone} (n : Berth) (cause : Nat) (hb : .berth n ∈ Zs)
    (h_dock : .dock ∈ Zs) (hp12 : .page 12 ∈ Zs) (h0 : r0.Within s Zs) :
    r0.Within (State.trip s n cause) Zs := by
  unfold State.trip
  repeat' with_reducible first
    | assumption | apply State.Within.ite | apply State.Within.bset | apply State.Within.bputb
    | apply State.Within.modBerth | apply State.Within.setState | apply State.Within.settle
  all_goals first
    | assumption
    | decide

/-! ### Pwm -/

theorem State.Within.refreshCheck {r0 s : State} {Zs : List Zone} (n : Berth) (t : Nat) (hb : .berth n ∈ Zs)
    (h0 : r0.Within s Zs) :
    r0.Within (State.refreshCheck s n t) Zs := by
  unfold State.refreshCheck
  repeat' with_reducible first
    | assumption | apply State.Within.ite | apply State.Within.forAll | apply State.Within.modLeg | intro _ _ _
theorem State.Within.countTargets {r0 s : State} {Zs : List Zone} (n : Berth) (hb : .berth n ∈ Zs)
    (h0 : r0.Within s Zs) :
    r0.Within (State.countTargets s n) Zs := by
  unfold State.countTargets
  repeat' with_reducible first
    | assumption | apply State.Within.ite | apply State.Within.modBerth
theorem State.Within.countEvent {r0 s : State} {Zs : List Zone} (n : Berth) (c : Nat) (hb : .berth n ∈ Zs)
    (h_coll : .coll ∈ Zs) (h_dock : .dock ∈ Zs) (hp12 : .page 12 ∈ Zs) (h0 : r0.Within s Zs) :
    r0.Within (State.countEvent s n c) Zs := by
  unfold State.countEvent
  repeat' with_reducible first
    | assumption | apply State.Within.ite | apply State.Within.settleAt | apply State.Within.reEnable
    | apply State.Within.forAll | apply State.Within.modLeg | apply State.Within.modPwm | split | intro _ _ _
theorem State.Within.boundary {r0 s : State} {Zs : List Zone} (n : Berth) (hb : .berth n ∈ Zs) (h_coll : .coll ∈ Zs)
    (h_dock : .dock ∈ Zs) (hp12 : .page 12 ∈ Zs) (h0 : r0.Within s Zs) :
    r0.Within (State.boundary s n) Zs := by
  unfold State.boundary
  repeat' with_reducible first
    | assumption | apply State.Within.ite | apply State.Within.countEvent | apply State.Within.modPwm
theorem State.Within.raiseTripn {r0 s : State} {Zs : List Zone} (q : Quay) (l : List Berth) (h_coll : .coll ∈ Zs)
    (h0 : r0.Within s Zs) :
    r0.Within (State.raiseTripn s q l) Zs := by
  unfold State.raiseTripn
  repeat' with_reducible first
    | assumption | apply State.Within.ite | apply State.Within.raiseQuay | split
theorem State.Within.tripPin {r0 s : State} {Zs : List Zone} (q : Quay) (hB : ∀ m, .berth m ∈ Zs)
    (h_coll : .coll ∈ Zs) (h_dock : .dock ∈ Zs) (hp12 : .page 12 ∈ Zs) (h0 : r0.Within s Zs) :
    r0.Within (State.tripPin s q) Zs := by
  unfold State.tripPin
  dsimp only
  exact .ite _ h0 (.raiseTripn _ _ h_coll (.forAll _ (fun t a h => .trip a causePin (hB a) h_dock hp12 h) h0))
theorem State.Within.tripClear {r0 s : State} {Zs : List Zone} (n : Berth) (hb : .berth n ∈ Zs) (h_coll : .coll ∈ Zs)
    (h_dock : .dock ∈ Zs) (hp12 : .page 12 ∈ Zs) (h0 : r0.Within s Zs) :
    r0.Within (State.tripClear s n) Zs := by
  unfold State.tripClear
  repeat' with_reducible first
    | assumption | apply State.Within.ite | apply State.Within.bset | apply State.Within.bput
    | apply State.Within.setState | apply State.Within.pwmStop | apply State.Within.reEnableAll
    | apply State.Within.settle
  all_goals first
    | assumption
    | decide
theorem State.Within.writeShadow {r0 s : State} {Zs : List Zone} (n : Berth) (i : Nat) (v : Word)
    (hi : shadowOff i < 0x400) (hb : .berth n ∈ Zs) (h0 : r0.Within s Zs) :
    r0.Within (State.writeShadow s n i v) Zs := by
  unfold State.writeShadow
  repeat' with_reducible first
    | assumption | apply State.Within.ite | apply State.Within.bwr | apply State.Within.modPwm
theorem State.Within.loadAll {r0 s : State} {Zs : List Zone} (v : Word) (hB : ∀ m, .berth m ∈ Zs)
    (h0 : r0.Within s Zs) :
    r0.Within (State.loadAll s v) Zs := by
  unfold State.loadAll
  repeat' with_reducible first
    | assumption | apply State.Within.ite | apply State.Within.strobe | apply State.Within.forAll | intro _ _ _
  all_goals first
    | assumption
    | exact hB _
theorem State.Within.forceWrite {r0 s : State} {Zs : List Zone} (n : Berth) (v : Word) (hb : .berth n ∈ Zs)
    (h_coll : .coll ∈ Zs) (h_dock : .dock ∈ Zs) (hp12 : .page 12 ∈ Zs) (h0 : r0.Within s Zs) :
    r0.Within (State.forceWrite s n v) Zs := by
  unfold State.forceWrite
  repeat' with_reducible first
    | assumption | apply State.Within.ite | apply State.Within.settle | apply State.Within.reEnable
    | apply State.Within.bput | apply State.Within.forAll | intro _ _ _
  all_goals first
    | assumption
    | decide
theorem State.Within.forceSelf {r0 s : State} {Zs : List Zone} (n : Berth) (codes : Option (Nat × Nat × Nat))
    (hb : .berth n ∈ Zs) (h_coll : .coll ∈ Zs) (h_dock : .dock ∈ Zs) (hp12 : .page 12 ∈ Zs) (h0 : r0.Within s Zs) :
    r0.Within (State.forceSelf s n codes) Zs := by
  unfold State.forceSelf
  repeat' with_reducible first
    | assumption | apply State.Within.ite | apply State.Within.forceWrite | split
theorem State.Within.haltOn {r0 s : State} {Zs : List Zone} (hB : ∀ m, .berth m ∈ Zs) (hp0 : .page 0 ∈ Zs)
    (h0 : r0.Within s Zs) :
    r0.Within (State.haltOn s) Zs := by
  unfold State.haltOn
  repeat' with_reducible first
    | assumption | apply State.Within.ite | apply State.Within.bclr | apply State.Within.forAll
    | apply State.Within.modBerth | apply State.Within.setb | intro _ _ _
  all_goals first
    | assumption
    | exact hB _
    | decide
theorem State.Within.haltResume {r0 s : State} {Zs : List Zone} (n : Berth) (hb : .berth n ∈ Zs) (h0 : r0.Within s Zs)
    :
    r0.Within (State.haltResume s n) Zs := by
  unfold State.haltResume
  repeat' with_reducible first
    | assumption | apply State.Within.ite | apply State.Within.modBerth
theorem State.Within.haltOff {r0 s : State} {Zs : List Zone} (hB : ∀ m, .berth m ∈ Zs) (h_dock : .dock ∈ Zs)
    (hp0 : .page 0 ∈ Zs) (hp12 : .page 12 ∈ Zs) (h0 : r0.Within s Zs) :
    r0.Within (State.haltOff s) Zs := by
  unfold State.haltOff
  repeat' with_reducible first
    | assumption | apply State.Within.ite | apply State.Within.clrb | apply State.Within.haltResume
    | apply State.Within.settle | apply State.Within.forAll | intro _ _ _
  all_goals first
    | assumption
    | exact hB _

/-! ### GateDrive -/

theorem State.Within.cutLeg {r0 s : State} {Zs : List Zone} (n : Berth) (p : Phase) (hi lo : Bool) (f : Leg → Leg)
    (hb : .berth n ∈ Zs) (h0 : r0.Within s Zs) :
    r0.Within (State.cutLeg s n p hi lo f) Zs := by
  unfold State.cutLeg
  repeat' with_reducible first
    | assumption | apply State.Within.ite | apply State.Within.modLeg
theorem State.Within.recordEdge {r0 s : State} {Zs : List Zone} (n : Berth) (p : Phase) (sd : Side) (soft : Bool)
    (t : Nat) (vb : Int) (hb : .berth n ∈ Zs) (h0 : r0.Within s Zs) :
    r0.Within (State.recordEdge s n p sd soft t vb) Zs := by
  unfold State.recordEdge
  repeat' with_reducible first
    | assumption | apply State.Within.ite | apply State.Within.bput | apply State.Within.bputb
    | apply State.Within.bset | split
  all_goals first
    | assumption
    | decide
    | exact lt_of_lt_of_le (Nat.add_lt_add_left (Phase.idx_lt _) _) (by decide)
    | exact lt_of_lt_of_le (Nat.add_lt_add_left (switchIdx_lt _ _) _) (by decide)
theorem State.Within.interlockBerth {r0 s : State} {Zs : List Zone} (n : Berth) (p : Phase) (hb : .berth n ∈ Zs)
    (h_coll : .coll ∈ Zs) (h_dock : .dock ∈ Zs) (hp12 : .page 12 ∈ Zs) (h0 : r0.Within s Zs) :
    r0.Within (State.interlockBerth s n p) Zs := by
  unfold State.interlockBerth
  repeat' with_reducible first
    | assumption | apply State.Within.ite | apply State.Within.cutLeg | apply State.Within.bset
    | apply State.Within.raiseBerth | apply State.Within.dockCal
  all_goals first
    | assumption
    | decide
theorem State.Within.noteDetect {r0 s : State} {Zs : List Zone} (n : Berth) (p : Phase) (hb : .berth n ∈ Zs)
    (h0 : r0.Within s Zs) :
    r0.Within (State.noteDetect s n p) Zs := by
  unfold State.noteDetect
  repeat' with_reducible first
    | assumption | apply State.Within.ite | apply State.Within.modLeg | apply State.Within.modSens
theorem State.Within.scDetect {r0 s : State} {Zs : List Zone} (n : Berth) (p : Phase) (hb : .berth n ∈ Zs)
    (h_coll : .coll ∈ Zs) (h_dock : .dock ∈ Zs) (hp12 : .page 12 ∈ Zs) (h0 : r0.Within s Zs) :
    r0.Within (State.scDetect s n p) Zs := by
  unfold State.scDetect
  repeat' with_reducible first
    | assumption | apply State.Within.ite | apply State.Within.noteDetect | apply State.Within.bset
    | apply State.Within.cutLeg | apply State.Within.dockCal | apply State.Within.bput
    | apply State.Within.raiseBerth | split
  all_goals first
    | assumption
    | decide
theorem State.Within.chopApply {r0 s : State} {Zs : List Zone} (q : Quay) (hp1 : .page 1 ∈ Zs) (h_quays : .quays ∈ Zs)
    (h0 : r0.Within s Zs) :
    r0.Within (State.chopApply s q) Zs := by
  unfold State.chopApply
  repeat' with_reducible first
    | assumption | apply State.Within.ite | apply State.Within.clrb | apply State.Within.modQuay
    | apply State.Within.putb | split
  all_goals first
    | assumption

/-! ### Sensing -/

theorem State.Within.miss {r0 s : State} {Zs : List Zone} (n : Berth) (hb : .berth n ∈ Zs) (h_coll : .coll ∈ Zs)
    (h_dock : .dock ∈ Zs) (hp12 : .page 12 ∈ Zs) (h0 : r0.Within s Zs) :
    r0.Within (State.miss s n) Zs := by
  unfold State.miss
  repeat' with_reducible first
    | assumption | apply State.Within.ite | apply State.Within.raiseBerth | apply State.Within.stopRequest
    | apply State.Within.bput | apply State.Within.bputb | apply State.Within.bset | apply State.Within.incSat
    | apply State.Within.modBerth | apply State.Within.modPwm
  all_goals first
    | assumption
    | decide
    | (rw [regZone_ba _ _ (by decide)]; assumption)
theorem State.Within.handOver {r0 s : State} {Zs : List Zone} (n : Berth) (ws : List Word) (hb : .berth n ∈ Zs)
    (h_coll : .coll ∈ Zs) (h_dock : .dock ∈ Zs) (hp12 : .page 12 ∈ Zs) (h0 : r0.Within s Zs) :
    r0.Within (State.handOver s n ws) Zs := by
  unfold State.handOver
  repeat' with_reducible first
    | assumption | apply State.Within.ite | apply State.Within.miss | apply State.Within.modBerth
theorem State.Within.failCurrent {r0 s : State} {Zs : List Zone} (n : Berth) (p : Phase) (hb : .berth n ∈ Zs)
    (h_coll : .coll ∈ Zs) (h0 : r0.Within s Zs) :
    r0.Within (State.failCurrent s n p) Zs := by
  unfold State.failCurrent
  repeat' with_reducible first
    | assumption | apply State.Within.ite | apply State.Within.raiseBerth | apply State.Within.bset
  all_goals first
    | assumption
    | decide
theorem State.Within.failVoltage {r0 s : State} {Zs : List Zone} (n : Berth) (p : Phase) (hb : .berth n ∈ Zs)
    (h_coll : .coll ∈ Zs) (h0 : r0.Within s Zs) :
    r0.Within (State.failVoltage s n p) Zs := by
  unfold State.failVoltage
  repeat' with_reducible first
    | assumption | apply State.Within.ite | apply State.Within.raiseBerth | apply State.Within.bset
  all_goals first
    | assumption
    | decide
theorem State.Within.restoreChannels {r0 s : State} {Zs : List Zone} (n : Berth) (hb : .berth n ∈ Zs)
    (h0 : r0.Within s Zs) :
    r0.Within (State.restoreChannels s n) Zs := by
  unfold State.restoreChannels
  repeat' with_reducible first
    | assumption | apply State.Within.ite | apply State.Within.bclr | apply State.Within.bput
  all_goals first
    | assumption
    | decide
theorem State.Within.sumCheck {r0 s : State} {Zs : List Zone} (n : Berth) (i : Tri Int) (hb : .berth n ∈ Zs)
    (h_coll : .coll ∈ Zs) (h0 : r0.Within s Zs) :
    r0.Within (State.sumCheck s n i) Zs := by
  unfold State.sumCheck
  dsimp only
  repeat' with_reducible first
    | assumption
    | apply State.Within.ite
    | apply State.Within.modSens
    | apply State.Within.bset
    | apply State.Within.raiseBerth
    | apply State.Within.failCurrent
    | split
  all_goals first
    | assumption
    | decide
theorem State.Within.openPhase {r0 s : State} {Zs : List Zone} (n : Berth) (p : Phase) (hb : .berth n ∈ Zs)
    (h_coll : .coll ∈ Zs) (h_dock : .dock ∈ Zs) (hp12 : .page 12 ∈ Zs) (h0 : r0.Within s Zs) :
    r0.Within (State.openPhase s n p) Zs := by
  unfold State.openPhase
  repeat' with_reducible first
    | assumption | apply State.Within.ite | apply State.Within.raiseBerth | apply State.Within.stopRequest
    | apply State.Within.bput | apply State.Within.bset
  all_goals first
    | assumption
    | decide
theorem State.Within.openCheck {r0 s : State} {Zs : List Zone} (n : Berth) (i : Tri Int) (err : Bool)
    (hb : .berth n ∈ Zs) (h_coll : .coll ∈ Zs) (h_dock : .dock ∈ Zs) (hp12 : .page 12 ∈ Zs) (h0 : r0.Within s Zs) :
    r0.Within (State.openCheck s n i err) Zs := by
  unfold State.openCheck
  repeat' with_reducible first
    | assumption | apply State.Within.ite | apply State.Within.openPhase | apply State.Within.forAll
    | apply State.Within.modSens | intro _ _ _
theorem State.Within.limitCheck {r0 s : State} {Zs : List Zone} (n : Berth) (raw : Tri Int) (hb : .berth n ∈ Zs)
    (h_coll : .coll ∈ Zs) (h0 : r0.Within s Zs) :
    r0.Within (State.limitCheck s n raw) Zs := by
  unfold State.limitCheck
  repeat' with_reducible first
    | assumption | apply State.Within.ite | apply State.Within.failCurrent | apply State.Within.forAll
    | apply State.Within.modLeg | apply State.Within.modSens | intro _ _ _
theorem State.Within.voltageCheck {r0 s : State} {Zs : List Zone} (n : Berth) (v : Tri Int) (vbus : Int)
    (hb : .berth n ∈ Zs) (h_coll : .coll ∈ Zs) (h0 : r0.Within s Zs) :
    r0.Within (State.voltageCheck s n v vbus) Zs := by
  unfold State.voltageCheck
  repeat' with_reducible first
    | assumption | apply State.Within.ite | apply State.Within.failVoltage | apply State.Within.forAll
    | apply State.Within.modSens | intro _ _ _
theorem State.Within.resultSet {r0 s : State} {Zs : List Zone} (n : Berth) (raw : RawSet) (late : Channels)
    (hb : .berth n ∈ Zs) (h_coll : .coll ∈ Zs) (h_dock : .dock ∈ Zs) (hp12 : .page 12 ∈ Zs) (h0 : r0.Within s Zs) :
    r0.Within (State.resultSet s n raw late) Zs := by
  unfold State.resultSet
  repeat' with_reducible first
    | assumption | apply State.Within.ite | apply State.Within.bset | apply State.Within.failCurrent
    | apply State.Within.failVoltage | apply State.Within.limitCheck | apply State.Within.voltageCheck
    | apply State.Within.sumCheck | apply State.Within.openCheck | apply State.Within.wrs
    | apply State.Within.modSens | apply State.Within.handOver | apply State.Within.forAll | intro _ _ _
  all_goals first
    | assumption
    | decide
    | exact lt_of_lt_of_le (Nat.add_lt_add_left (Phase.idx_lt _) _) (by decide)
    | (intro p hp
       simp only [List.mem_map] at hp
       obtain ⟨⟨w, k⟩, hk, rfl⟩ := hp
       have h9 := (List.getElem?_eq_some_iff.1 (List.mk_mem_zipIdx_iff_getElem?.1 hk)).1
       exact Eq.mpr (congrArg (· ∈ Zs) (regZone_ba n _ (by simp only [List.length_cons, List.length_nil] at h9; simp only [BS_IU]; omega))) hb)
theorem State.Within.hold {r0 s : State} {Zs : List Zone} (n : Berth) (B p d : Nat) (hb : .berth n ∈ Zs)
    (h0 : r0.Within s Zs) :
    r0.Within (State.hold s n B p d) Zs := by
  unfold State.hold
  repeat' with_reducible first
    | assumption | apply State.Within.ite | apply State.Within.modPwm | apply State.Within.modSens
theorem State.Within.calChannel {r0 s : State} {Zs : List Zone} (n : Berth) (off : Nat) (sum : Int) (timeout : Bool)
    (fail : State → State) (ho : off < 0x400) (hf : ∀ t, r0.Within t Zs → r0.Within (fail t) Zs) (hb : .berth n ∈ Zs)
    (h0 : r0.Within s Zs) :
    r0.Within (State.calChannel s n off sum timeout fail) Zs := by
  unfold State.calChannel
  exact .ite _ (hf _ (.bset n BS_EVT 6 (by decide) hb h0)) (.bwr n off _ ho hb h0)
theorem State.Within.calDone {r0 s : State} {Zs : List Zone} (n : Berth) (c : CalSums) (hb : .berth n ∈ Zs)
    (h_coll : .coll ∈ Zs) (hp12 : .page 12 ∈ Zs) (h0 : r0.Within s Zs) :
    r0.Within (State.calDone s n c) Zs := by
  unfold State.calDone
  repeat' with_reducible first
    | assumption
    | apply State.Within.ite
    | apply State.Within.forAll
    | apply State.Within.calChannel
    | apply State.Within.bclr
    | apply State.Within.put
    | apply State.Within.failCurrent
    | apply State.Within.failVoltage
    | intro _ _ _
    | intro _ _
  all_goals first
    | assumption
    | decide
    | exact lt_of_lt_of_le (Nat.add_lt_add_left (Phase.idx_lt _) _) (by decide)
    | exact lt_of_lt_of_le (Nat.add_lt_add_left (switchIdx_lt _ _) _) (by decide)
    | (rw [regZone_add _ _ 12 12 (Fin.isLt _) (by decide) (by decide) (by decide)]; assumption)

/-! ### Tenders -/

theorem State.Within.tdEvt {r0 s : State} {Zs : List Zone} (t : Tender) (b : Nat) (ht : .tender t ∈ Zs)
    (h0 : r0.Within s Zs) :
    r0.Within (State.tdEvt s t b) Zs := by
  unfold State.tdEvt
  repeat' with_reducible first
    | assumption | apply State.Within.ite | apply State.Within.tputb
  all_goals first
    | assumption
    | decide
theorem State.Within.raiseTender {r0 s : State} {Zs : List Zone} (t : Tender) (src : Nat) (h_coll : .coll ∈ Zs)
    (h0 : r0.Within s Zs) :
    r0.Within (State.raiseTender s t src) Zs := by
  unfold State.raiseTender
  repeat' with_reducible first
    | assumption | apply State.Within.ite | apply State.Within.raiseAll
theorem State.Within.tdCut {r0 s : State} {Zs : List Zone} (t : Tender) (ht : .tender t ∈ Zs) (h0 : r0.Within s Zs) :
    r0.Within (State.tdCut s t) Zs := by
  unfold State.tdCut
  repeat' with_reducible first
    | assumption | apply State.Within.ite | apply State.Within.modTender
theorem State.Within.setTd {r0 s : State} {Zs : List Zone} (t : Tender) (v : Nat) (ht : .tender t ∈ Zs)
    (hp12 : .page 12 ∈ Zs) (h0 : r0.Within s Zs) :
    r0.Within (State.setTd s t v) Zs := by
  unfold State.setTd
  repeat' with_reducible first
    | assumption | apply State.Within.ite | apply State.Within.modTender | apply State.Within.ddProgress
    | apply State.Within.tput | apply State.Within.tputb | apply State.Within.tdCut
  all_goals first
    | assumption
    | decide
theorem State.Within.enterRamp {r0 s : State} {Zs : List Zone} (t : Tender) (v : Nat) (ht : .tender t ∈ Zs)
    (hp12 : .page 12 ∈ Zs) (h0 : r0.Within s Zs) :
    r0.Within (State.enterRamp s t v) Zs := by
  unfold State.enterRamp
  repeat' with_reducible first
    | assumption | apply State.Within.ite | apply State.Within.setTd | apply State.Within.modTender
theorem State.Within.enterTdOff {r0 s : State} {Zs : List Zone} (t : Tender) (ht : .tender t ∈ Zs)
    (hp12 : .page 12 ∈ Zs) (h0 : r0.Within s Zs) :
    r0.Within (State.enterTdOff s t) Zs := by
  unfold State.enterTdOff
  repeat' with_reducible first
    | assumption | apply State.Within.ite | apply State.Within.setTd | apply State.Within.modTender
theorem State.Within.enterHiccup {r0 s : State} {Zs : List Zone} (t : Tender) (ht : .tender t ∈ Zs)
    (h_coll : .coll ∈ Zs) (hp12 : .page 12 ∈ Zs) (h0 : r0.Within s Zs) :
    r0.Within (State.enterHiccup s t) Zs := by
  unfold State.enterHiccup
  repeat' with_reducible first
    | assumption | apply State.Within.ite | apply State.Within.tdEvt | apply State.Within.raiseTender
    | apply State.Within.setTd | apply State.Within.tput
  all_goals first
    | assumption
    | decide
theorem State.Within.tenderStop {r0 s : State} {Zs : List Zone} (t : Tender) (ht : .tender t ∈ Zs)
    (hp12 : .page 12 ∈ Zs) (h0 : r0.Within s Zs) :
    r0.Within (State.tenderStop s t) Zs := by
  unfold State.tenderStop
  repeat' with_reducible first
    | assumption | apply State.Within.ite | apply State.Within.setTd | apply State.Within.enterTdOff
theorem State.Within.tenderStopHeld {r0 s : State} {Zs : List Zone} (t : Tender) (ht : .tender t ∈ Zs)
    (hp12 : .page 12 ∈ Zs) (h0 : r0.Within s Zs) :
    r0.Within (State.tenderStopHeld s t) Zs := by
  unfold State.tenderStopHeld
  repeat' with_reducible first
    | assumption | apply State.Within.ite | apply State.Within.tenderStop | apply State.Within.modTender
theorem State.Within.tenderHoldEnd {r0 s : State} {Zs : List Zone} (t : Tender) (ht : .tender t ∈ Zs)
    (hp12 : .page 12 ∈ Zs) (h0 : r0.Within s Zs) :
    r0.Within (State.tenderHoldEnd s t) Zs := by
  unfold State.tenderHoldEnd
  repeat' with_reducible first
    | assumption | apply State.Within.ite | apply State.Within.tenderStop | apply State.Within.modTender
    | apply State.Within.tputb
  all_goals first
    | assumption
    | decide
theorem State.Within.tenderStart {r0 s : State} {Zs : List Zone} (t : Tender) (ht : .tender t ∈ Zs)
    (hp12 : .page 12 ∈ Zs) (h0 : r0.Within s Zs) :
    r0.Within (State.tenderStart s t) Zs := by
  unfold State.tenderStart
  repeat' with_reducible first
    | assumption | apply State.Within.ite | apply State.Within.setTd | apply State.Within.enterRamp
    | apply State.Within.modTender
theorem State.Within.tenderCoast {r0 s : State} {Zs : List Zone} (t : Tender) (ht : .tender t ∈ Zs)
    (hp12 : .page 12 ∈ Zs) (h0 : r0.Within s Zs) :
    r0.Within (State.tenderCoast s t) Zs := by
  unfold State.tenderCoast
  repeat' with_reducible first
    | assumption | apply State.Within.ite | apply State.Within.setTd
theorem State.Within.sleepStop {r0 s : State} {Zs : List Zone} (t : Tender) (ht : .tender t ∈ Zs)
    (hp12 : .page 12 ∈ Zs) (h0 : r0.Within s Zs) :
    r0.Within (State.sleepStop s t) Zs := by
  unfold State.sleepStop
  repeat' with_reducible first
    | assumption | apply State.Within.ite | apply State.Within.modTender | apply State.Within.tenderStop
theorem State.Within.sleepUndo {r0 s : State} {Zs : List Zone} (t : Tender) (ht : .tender t ∈ Zs)
    (hp12 : .page 12 ∈ Zs) (h0 : r0.Within s Zs) :
    r0.Within (State.sleepUndo s t) Zs := by
  unfold State.sleepUndo
  repeat' with_reducible first
    | assumption | apply State.Within.ite | apply State.Within.modTender | apply State.Within.tenderStart
theorem State.Within.tdClamp {r0 s : State} {Zs : List Zone} (t : Tender) (hi lo : Nat) (ht : .tender t ∈ Zs)
    (h0 : r0.Within s Zs) :
    r0.Within (State.tdClamp s t hi lo) Zs := by
  unfold State.tdClamp
  repeat' with_reducible first
    | assumption | apply State.Within.ite | apply State.Within.tdEvt
theorem State.Within.tdPeriodStart {r0 s : State} {Zs : List Zone} (t : Tender) (bootOk : Bool) (ht : .tender t ∈ Zs)
    (h0 : r0.Within s Zs) :
    r0.Within (State.tdPeriodStart s t bootOk) Zs := by
  unfold State.tdPeriodStart
  repeat' with_reducible first
    | assumption | apply State.Within.ite | apply State.Within.tdEvt | apply State.Within.modTender
    | apply State.Within.tputb
  all_goals first
    | assumption
    | decide
theorem State.Within.tdLowOn {r0 s : State} {Zs : List Zone} (t : Tender) (ht : .tender t ∈ Zs) (h0 : r0.Within s Zs) :
    r0.Within (State.tdLowOn s t) Zs := by
  unfold State.tdLowOn
  repeat' with_reducible first
    | assumption | apply State.Within.ite | apply State.Within.tdClamp | apply State.Within.modTender
theorem State.Within.tdLoss {r0 s : State} {Zs : List Zone} (t : Tender) (h_free : .free ∈ Zs) (h_therm : .therm ∈ Zs)
    (h0 : r0.Within s Zs) :
    r0.Within (State.tdLoss s t) Zs := by
  unfold State.tdLoss
  exact .useFree _ h_free (h0.trans { State.Within.refl with therm := fun c => absurd h_therm c })
theorem State.Within.tdRecord {r0 s : State} {Zs : List Zone} (t : Tender) (m : TenderMeas) (ht : .tender t ∈ Zs)
    (h_free : .free ∈ Zs) (h_therm : .therm ∈ Zs) (h0 : r0.Within s Zs) :
    r0.Within (State.tdRecord s t m) Zs := by
  unfold State.tdRecord
  repeat' with_reducible first
    | assumption | apply State.Within.ite | apply State.Within.tdCut | apply State.Within.modTender
    | apply State.Within.twr | apply State.Within.useFree | apply State.Within.tput | apply State.Within.tdLoss
  all_goals first
    | assumption
    | decide
theorem State.Within.thermalStopTender {r0 s : State} {Zs : List Zone} (t : Tender) (orderly : Bool)
    (ht : .tender t ∈ Zs) (hp12 : .page 12 ∈ Zs) (h0 : r0.Within s Zs) :
    r0.Within (State.thermalStopTender s t orderly) Zs := by
  unfold State.thermalStopTender
  repeat' with_reducible first
    | assumption | apply State.Within.ite | apply State.Within.tenderStopHeld | apply State.Within.tenderCoast
    | apply State.Within.modTender | apply State.Within.tputb
  all_goals first
    | assumption
    | decide
theorem State.Within.waitingStop {r0 s : State} {Zs : List Zone} (hT : ∀ u, .tender u ∈ Zs) (hp12 : .page 12 ∈ Zs)
    (h_therm : .therm ∈ Zs) (h0 : r0.Within s Zs) :
    r0.Within (State.waitingStop s) Zs := by
  unfold State.waitingStop
  repeat' with_reducible first
    | assumption | apply State.Within.ite | apply State.Within.thermalStopTender | apply State.Within.modTherm
  all_goals first
    | assumption
    | exact hT _

/-! ### Tokens -/

theorem State.Within.putLane {r0 s : State} {Zs : List Zone} (l : Fin 5) (v : Nat) (hp14 : .page 14 ∈ Zs)
    (h0 : r0.Within s Zs) :
    r0.Within (State.putLane s l v) Zs := by
  unfold State.putLane
  repeat' with_reducible first
    | assumption | apply State.Within.ite | apply State.Within.put
  all_goals first
    | assumption
theorem State.Within.swapLane {r0 s : State} {Zs : List Zone} (l : Fin 5) (v : Nat) (hp14 : .page 14 ∈ Zs)
    (h0 : r0.Within s Zs) :
    r0.Within ((State.swapLane s l v).1) Zs := by
  unfold State.swapLane
  repeat' with_reducible first
    | assumption | apply State.Within.ite | apply State.Within.putLane | apply State.Within.setb | split
  all_goals first
    | assumption
theorem State.Within.laneShortage {r0 s : State} {Zs : List Zone} (hB : ∀ m, .berth m ∈ Zs) (h_coll : .coll ∈ Zs)
    (h_dock : .dock ∈ Zs) (hp12 : .page 12 ∈ Zs) (h0 : r0.Within s Zs) :
    r0.Within (State.laneShortage s) Zs := by
  unfold State.laneShortage
  repeat' with_reducible first
    | assumption | apply State.Within.ite | apply State.Within.stopRequest | apply State.Within.forAll | intro _ _ _
  all_goals first
    | assumption
    | exact hB _
theorem State.Within.raiseLane {r0 s : State} {Zs : List Zone} (src : Nat) (l : Fin 5) (h_coll : .coll ∈ Zs)
    (h0 : r0.Within s Zs) :
    r0.Within (State.raiseLane s src l) Zs := by
  unfold State.raiseLane
  repeat' with_reducible first
    | assumption | apply State.Within.ite | apply State.Within.raise
theorem State.Within.returnToken {r0 s : State} {Zs : List Zone} (l : Fin 5) (hB : ∀ m, .berth m ∈ Zs)
    (h_coll : .coll ∈ Zs) (h_dock : .dock ∈ Zs) (hp12 : .page 12 ∈ Zs) (h0 : r0.Within s Zs) :
    r0.Within (State.returnToken s l) Zs := by
  unfold State.returnToken
  repeat' with_reducible first
    | assumption | apply State.Within.ite | apply State.Within.miss | apply State.Within.modBerth | split
  all_goals first
    | assumption
    | exact hB _
theorem State.Within.dropSwap {r0 s : State} {Zs : List Zone} (l : Fin 5) (h_dock : .dock ∈ Zs) (h0 : r0.Within s Zs)
    :
    r0.Within (State.dropSwap s l) Zs := by
  unfold State.dropSwap
  repeat' with_reducible first
    | assumption | apply State.Within.ite | apply State.Within.modDock
theorem State.Within.swapOut {r0 s : State} {Zs : List Zone} (l : Fin 5) (hB : ∀ m, .berth m ∈ Zs)
    (h_coll : .coll ∈ Zs) (h_dock : .dock ∈ Zs) (hp12 : .page 12 ∈ Zs) (hp14 : .page 14 ∈ Zs) (h0 : r0.Within s Zs) :
    r0.Within (State.swapOut s l) Zs := by
  unfold State.swapOut
  repeat' with_reducible first
    | assumption | apply State.Within.ite | apply State.Within.dropSwap | apply State.Within.laneShortage | apply State.Within.swapLane
theorem State.Within.addWide {r0 s : State} {Zs : List Zone} (n : Berth) (o k : Nat) (ho : o + 2 ≤ 0x400)
    (hb : .berth n ∈ Zs) (h0 : r0.Within s Zs) :
    r0.Within (State.addWide s n o k) Zs := by
  unfold State.addWide
  refine .putWide _ _ _ (fun i hi => ?_) h0
  have e : ba n o + i = ba n (o + i) := by unfold ba; omega
  rw [e, regZone_ba _ _ (by omega)]; exact hb
theorem State.Within.ledger {r0 s : State} {Zs : List Zone} (n : Berth) (pin : Int) (fet : Nat) (pout2 : Int)
    (d : Nat) (wrapped : Bool) (hb : .berth n ∈ Zs) (h0 : r0.Within s Zs) :
    r0.Within (State.ledger s n pin fet pout2 d wrapped) Zs := by
  unfold State.ledger
  repeat' with_reducible first
    | assumption | apply State.Within.ite | apply State.Within.addWide | apply State.Within.modCtl
  all_goals first
    | assumption
    | decide
theorem State.Within.lossUpdate {r0 s : State} {Zs : List Zone} (v : State) (n : Berth) (o : TokOut) (fet : Nat)
    (hb : .berth n ∈ Zs) (h0 : r0.Within s Zs) :
    r0.Within (State.lossUpdate s v n o fet) Zs := by
  unfold State.lossUpdate
  repeat' with_reducible first
    | assumption | apply State.Within.ite | apply State.Within.modBerth | apply State.Within.bclr
    | apply State.Within.bset
  all_goals first
    | assumption
    | decide
theorem State.Within.acceptPkg {r0 s : State} {Zs : List Zone} (n : Berth) (p : Pkg) (t : Token) (restore : Bool)
    (hb : .berth n ∈ Zs) (hp14 : .page 14 ∈ Zs) (h0 : r0.Within s Zs) :
    r0.Within (State.acceptPkg s n p t restore) Zs := by
  unfold State.acceptPkg
  dsimp only
  repeat' with_reducible first
    | assumption | apply State.Within.modBerth | apply State.Within.bput | apply State.Within.strobe
    | apply State.Within.modSens | apply State.Within.writeShadow | apply State.Within.wrs | split
  all_goals first
    | assumption | decide
    | (intro p hp
       simp only [List.mem_cons, List.not_mem_nil, or_false] at hp
       rcases hp with rfl | rfl | rfl
       · rw [regZone_ba n BL_LAT (by decide)]; exact hb
       · rw [regZone_ba n BL_LATMAX (by decide)]; exact hb
       · rw [regZone_page LE_LATMAX 14 (by decide) (by decide) (by decide)]; exact hp14)
theorem State.Within.positionCheck {r0 s : State} {Zs : List Zone} (v : State) (n : Berth) (hb : .berth n ∈ Zs)
    (h_coll : .coll ∈ Zs) (h_dock : .dock ∈ Zs) (hp12 : .page 12 ∈ Zs) (h0 : r0.Within s Zs) :
    r0.Within (State.positionCheck s v n) Zs := by
  unfold State.positionCheck
  repeat' with_reducible first
    | assumption | apply State.Within.ite | apply State.Within.stopNow | apply State.Within.setState
theorem State.Within.traceSample {r0 s : State} {Zs : List Zone} (v : State) (n : Berth) (h_mem : .mem ∈ Zs)
    (h0 : r0.Within s Zs) :
    r0.Within (State.traceSample s v n) Zs := by
  unfold State.traceSample
  repeat' with_reducible first
    | assumption | apply State.Within.ite | apply State.Within.modLog
theorem State.Within.laneDone {r0 s : State} {Zs : List Zone} (l : Fin 5) (hB : ∀ m, .berth m ∈ Zs)
    (h_coll : .coll ∈ Zs) (h_dock : .dock ∈ Zs) (hp12 : .page 12 ∈ Zs) (hp14 : .page 14 ∈ Zs) (h0 : r0.Within s Zs) :
    r0.Within (State.laneDone s l) Zs := by
  unfold State.laneDone
  repeat' with_reducible first
    | assumption | apply State.Within.ite | apply State.Within.swapOut
theorem State.Within.clearLedger {r0 s : State} {Zs : List Zone} (n : Berth) (hb : .berth n ∈ Zs)
    (h0 : r0.Within s Zs) :
    r0.Within (State.clearLedger s n) Zs := by
  unfold State.clearLedger
  refine .modCtl n _ hb (.wrs _ (fun p hp => ?_) h0)
  simp only [List.mem_map, List.mem_range] at hp
  obtain ⟨k, hk, rfl⟩ := hp
  exact regZone_ba n (BL_EIN0 + k) (by simp only [BL_EIN0]; omega) ▸ hb

/-! ### Rotor -/

theorem State.Within.toPhase {r0 s : State} {Zs : List Zone} (n : Berth) (k : Nat) (hb : .berth n ∈ Zs)
    (h0 : r0.Within s Zs) :
    r0.Within (State.toPhase s n k) Zs := by
  unfold State.toPhase
  repeat' with_reducible first
    | assumption | apply State.Within.ite | apply State.Within.bput | apply State.Within.modStart
  all_goals first
    | assumption
    | decide
theorem State.Within.toRunning {r0 s : State} {Zs : List Zone} (n : Berth) (hb : .berth n ∈ Zs) (h0 : r0.Within s Zs)
    :
    r0.Within (State.toRunning s n) Zs := by
  unfold State.toRunning
  repeat' with_reducible first
    | assumption | apply State.Within.ite | apply State.Within.bput | apply State.Within.bclr
    | apply State.Within.bwr | apply State.Within.modBerth | apply State.Within.setState
  all_goals first
    | assumption
    | decide
theorem State.Within.reachLoop {r0 s : State} {Zs : List Zone} (n : Berth) (hb : .berth n ∈ Zs) (h0 : r0.Within s Zs) :
    r0.Within (State.reachLoop s n) Zs := by
  unfold State.reachLoop
  repeat' with_reducible first
    | assumption | apply State.Within.ite | apply State.Within.toRunning | apply State.Within.bput
  all_goals first
    | assumption
    | decide
theorem State.Within.beginListen {r0 s : State} {Zs : List Zone} (n : Berth) (phase : Nat) (hb : .berth n ∈ Zs)
    (h_coll : .coll ∈ Zs) (h_dock : .dock ∈ Zs) (hp12 : .page 12 ∈ Zs) (h0 : r0.Within s Zs) :
    r0.Within (State.beginListen s n phase) Zs := by
  unfold State.beginListen
  repeat' with_reducible first
    | assumption | apply State.Within.ite | apply State.Within.disableEn | apply State.Within.forceSelf
    | apply State.Within.toPhase | apply State.Within.modStart
theorem State.Within.beginShortBrake {r0 s : State} {Zs : List Zone} (n : Berth) (hb : .berth n ∈ Zs)
    (h_coll : .coll ∈ Zs) (h_dock : .dock ∈ Zs) (hp12 : .page 12 ∈ Zs) (h0 : r0.Within s Zs) :
    r0.Within (State.beginShortBrake s n) Zs := by
  unfold State.beginShortBrake
  repeat' with_reducible first
    | assumption | apply State.Within.ite | apply State.Within.forceSelf | apply State.Within.toPhase
    | apply State.Within.modStart
theorem State.Within.beginBurst {r0 s : State} {Zs : List Zone} (n : Berth) (hb : .berth n ∈ Zs) (h_coll : .coll ∈ Zs)
    (h_dock : .dock ∈ Zs) (hp12 : .page 12 ∈ Zs) (h0 : r0.Within s Zs) :
    r0.Within (State.beginBurst s n) Zs := by
  unfold State.beginBurst
  repeat' with_reducible first
    | assumption | apply State.Within.ite | apply State.Within.forceSelf | apply State.Within.toPhase
    | apply State.Within.modStart
theorem State.Within.brakePulse {r0 s : State} {Zs : List Zone} (n : Berth) (hb : .berth n ∈ Zs) (h_coll : .coll ∈ Zs)
    (h_dock : .dock ∈ Zs) (hp12 : .page 12 ∈ Zs) (h0 : r0.Within s Zs) :
    r0.Within (State.brakePulse s n) Zs := by
  unfold State.brakePulse
  repeat' with_reducible first
    | assumption | apply State.Within.ite | apply State.Within.modPwm | apply State.Within.forceSelf
theorem State.Within.beginReverseBrake {r0 s : State} {Zs : List Zone} (n : Berth) (hb : .berth n ∈ Zs)
    (h_coll : .coll ∈ Zs) (h_dock : .dock ∈ Zs) (hp12 : .page 12 ∈ Zs) (h0 : r0.Within s Zs) :
    r0.Within (State.beginReverseBrake s n) Zs := by
  unfold State.beginReverseBrake
  repeat' with_reducible first
    | assumption | apply State.Within.ite | apply State.Within.beginBurst | apply State.Within.modStart
theorem State.Within.probePulse {r0 s : State} {Zs : List Zone} (n : Berth) (k : Nat) (hb : .berth n ∈ Zs)
    (h_coll : .coll ∈ Zs) (h_dock : .dock ∈ Zs) (hp12 : .page 12 ∈ Zs) (h0 : r0.Within s Zs) :
    r0.Within (State.probePulse s n k) Zs := by
  unfold State.probePulse
  repeat' with_reducible first
    | assumption | apply State.Within.ite | apply State.Within.forceSelf | apply State.Within.modStart
theorem State.Within.beginProbe {r0 s : State} {Zs : List Zone} (n : Berth) (hb : .berth n ∈ Zs) (h_coll : .coll ∈ Zs)
    (h_dock : .dock ∈ Zs) (hp12 : .page 12 ∈ Zs) (h0 : r0.Within s Zs) :
    r0.Within (State.beginProbe s n) Zs := by
  unfold State.beginProbe
  repeat' with_reducible first
    | assumption | apply State.Within.ite | apply State.Within.disableEn | apply State.Within.toPhase
    | apply State.Within.probePulse | apply State.Within.modStart
theorem State.Within.beginOpenLoop {r0 s : State} {Zs : List Zone} (n : Berth) (th : Nat) (w : Int)
    (hb : .berth n ∈ Zs) (h_coll : .coll ∈ Zs) (h_dock : .dock ∈ Zs) (hp12 : .page 12 ∈ Zs) (h0 : r0.Within s Zs) :
    r0.Within (State.beginOpenLoop s n th w) Zs := by
  unfold State.beginOpenLoop
  repeat' with_reducible first
    | assumption | apply State.Within.ite | apply State.Within.enableEn | apply State.Within.forceSelf
    | apply State.Within.toPhase | apply State.Within.bset | apply State.Within.modBerth
  all_goals first
    | assumption
    | decide
theorem State.Within.beginAlign {r0 s : State} {Zs : List Zone} (n : Berth) (hb : .berth n ∈ Zs) (h_coll : .coll ∈ Zs)
    (h_dock : .dock ∈ Zs) (hp12 : .page 12 ∈ Zs) (h0 : r0.Within s Zs) :
    r0.Within (State.beginAlign s n) Zs := by
  unfold State.beginAlign
  repeat' with_reducible first
    | assumption | apply State.Within.ite | apply State.Within.enableEn | apply State.Within.forceSelf
    | apply State.Within.toPhase
theorem State.Within.beginScan {r0 s : State} {Zs : List Zone} (n : Berth) (hb : .berth n ∈ Zs) (h_coll : .coll ∈ Zs)
    (h_dock : .dock ∈ Zs) (hp12 : .page 12 ∈ Zs) (h0 : r0.Within s Zs) :
    r0.Within (State.beginScan s n) Zs := by
  unfold State.beginScan
  repeat' with_reducible first
    | assumption | apply State.Within.ite | apply State.Within.enableEn | apply State.Within.forceSelf
    | apply State.Within.toPhase | apply State.Within.modBerth
theorem State.Within.atRest {r0 s : State} {Zs : List Zone} (n : Berth) (hb : .berth n ∈ Zs) (h_coll : .coll ∈ Zs)
    (h_dock : .dock ∈ Zs) (hp12 : .page 12 ∈ Zs) (h0 : r0.Within s Zs) :
    r0.Within (State.atRest s n) Zs := by
  unfold State.atRest
  repeat' with_reducible first
    | assumption | apply State.Within.ite | apply State.Within.beginProbe | apply State.Within.beginScan
theorem State.Within.afterCal {r0 s : State} {Zs : List Zone} (n : Berth) (hb : .berth n ∈ Zs) (h_coll : .coll ∈ Zs)
    (h_dock : .dock ∈ Zs) (hp12 : .page 12 ∈ Zs) (h0 : r0.Within s Zs) :
    r0.Within (State.afterCal s n) Zs := by
  unfold State.afterCal
  repeat' with_reducible first
    | assumption | apply State.Within.ite | apply State.Within.beginListen | apply State.Within.atRest
theorem State.Within.beginStart {r0 s : State} {Zs : List Zone} (n : Berth) (homing : Bool) (hb : .berth n ∈ Zs)
    (h_coll : .coll ∈ Zs) (h_dock : .dock ∈ Zs) (hp12 : .page 12 ∈ Zs) (h0 : r0.Within s Zs) :
    r0.Within (State.beginStart s n homing) Zs := by
  unfold State.beginStart
  repeat' with_reducible first
    | assumption | apply State.Within.ite | apply State.Within.disableEn | apply State.Within.setState
    | apply State.Within.bputb | apply State.Within.bclr | apply State.Within.modStart | apply State.Within.toPhase
    | apply State.Within.startCal | apply State.Within.afterCal
  all_goals first
    | assumption
    | decide
theorem State.Within.sync {r0 s : State} {Zs : List Zone} (n : Berth) (w : Int) (th : Nat) (hb : .berth n ∈ Zs)
    (h_coll : .coll ∈ Zs) (h_dock : .dock ∈ Zs) (hp12 : .page 12 ∈ Zs) (h0 : r0.Within s Zs) :
    r0.Within (State.sync s n w th) Zs := by
  unfold State.sync
  repeat' with_reducible first
    | assumption | apply State.Within.ite | apply State.Within.enableEn | apply State.Within.bwr
    | apply State.Within.modCtl
  all_goals first
    | assumption
    | decide
theorem State.Within.catchForward {r0 s : State} {Zs : List Zone} (n : Berth) (w : Int) (th : Nat)
    (run : State → State) (hf : ∀ t, r0.Within t Zs → r0.Within (run t) Zs) (hb : .berth n ∈ Zs) (h_coll : .coll ∈ Zs)
    (h_dock : .dock ∈ Zs) (hp12 : .page 12 ∈ Zs) (h0 : r0.Within s Zs) :
    r0.Within (State.catchForward s n w th run) Zs := by
  unfold State.catchForward
  repeat' with_reducible first
    | assumption
    | apply State.Within.ite
    | apply State.Within.beginOpenLoop
    | apply State.Within.setState
    | apply State.Within.sync
    | apply hf
theorem State.Within.catchRest {r0 s : State} {Zs : List Zone} (n : Berth) (known : Bool) (w : Int)
    (hb : .berth n ∈ Zs) (h_coll : .coll ∈ Zs) (h_dock : .dock ∈ Zs) (hp12 : .page 12 ∈ Zs) (h0 : r0.Within s Zs) :
    r0.Within (State.catchRest s n known w) Zs := by
  unfold State.catchRest
  repeat' with_reducible first
    | assumption | apply State.Within.ite | apply State.Within.beginShortBrake | apply State.Within.beginReverseBrake
theorem State.Within.startFails {r0 s : State} {Zs : List Zone} (n : Berth) (hb : .berth n ∈ Zs) (h_coll : .coll ∈ Zs)
    (h_dock : .dock ∈ Zs) (hp12 : .page 12 ∈ Zs) (h0 : r0.Within s Zs) :
    r0.Within (State.startFails s n) Zs := by
  unfold State.startFails
  repeat' with_reducible first
    | assumption | apply State.Within.ite | apply State.Within.endTrialStart | apply State.Within.stopNow
    | apply State.Within.bset | apply State.Within.raiseBerth | apply State.Within.modStart
  all_goals first
    | assumption
    | decide
theorem State.Within.homeDone {r0 s : State} {Zs : List Zone} (n : Berth) (th : Nat) (hb : .berth n ∈ Zs)
    (h_coll : .coll ∈ Zs) (h_dock : .dock ∈ Zs) (hp12 : .page 12 ∈ Zs) (h0 : r0.Within s Zs) :
    r0.Within (State.homeDone s n th) Zs := by
  unfold State.homeDone
  repeat' with_reducible first
    | assumption | apply State.Within.ite | apply State.Within.stopNow | apply State.Within.bset
    | apply State.Within.bwr | apply State.Within.modBerth
  all_goals first
    | assumption
    | decide
theorem State.Within.probeDecide {r0 s : State} {Zs : List Zone} (n : Berth) (peaks : List Nat) (hb : .berth n ∈ Zs)
    (h_coll : .coll ∈ Zs) (h_dock : .dock ∈ Zs) (hp12 : .page 12 ∈ Zs) (h0 : r0.Within s Zs) :
    r0.Within (State.probeDecide s n peaks) Zs := by
  unfold State.probeDecide
  repeat' with_reducible first
    | assumption | apply State.Within.ite | apply State.Within.forceSelf | apply State.Within.beginOpenLoop
    | apply State.Within.beginAlign | apply State.Within.homeDone | apply State.Within.bset | apply State.Within.bwr
    | apply State.Within.modCtl
  all_goals first
    | assumption
    | decide
theorem State.Within.restart {r0 s : State} {Zs : List Zone} (n : Berth) (hb : .berth n ∈ Zs) (h0 : r0.Within s Zs) :
    r0.Within (State.restart s n) Zs := by
  unfold State.restart
  repeat' with_reducible first
    | assumption | apply State.Within.ite | apply State.Within.bclr | apply State.Within.modStart
  all_goals first
    | assumption
    | decide
theorem State.Within.giveUp {r0 s : State} {Zs : List Zone} (n : Berth) (hb : .berth n ∈ Zs) (h_coll : .coll ∈ Zs)
    (h_dock : .dock ∈ Zs) (hp12 : .page 12 ∈ Zs) (h0 : r0.Within s Zs) :
    r0.Within (State.giveUp s n) Zs := by
  unfold State.giveUp
  repeat' with_reducible first
    | assumption | apply State.Within.ite | apply State.Within.raiseBerth | apply State.Within.setState
    | apply State.Within.stopNow | apply State.Within.beginListen | apply State.Within.bclr | apply State.Within.bset
    | apply State.Within.modStart
  all_goals first
    | assumption
    | decide
theorem State.Within.home {r0 s : State} {Zs : List Zone} (n : Berth) (hb : .berth n ∈ Zs) (h_coll : .coll ∈ Zs)
    (h_dock : .dock ∈ Zs) (hp12 : .page 12 ∈ Zs) (h0 : r0.Within s Zs) :
    r0.Within (State.home s n) Zs := by
  unfold State.home
  repeat' with_reducible first
    | assumption | apply State.Within.ite | apply State.Within.beginStart

/-! ### Thermal -/

theorem State.Within.thEvt {r0 s : State} {Zs : List Zone} (b : Nat) (hp8 : .page 8 ∈ Zs) (h0 : r0.Within s Zs) :
    r0.Within (State.thEvt s b) Zs := by
  unfold State.thEvt
  repeat' with_reducible first
    | assumption | apply State.Within.ite | apply State.Within.setb
  all_goals first
    | assumption
theorem State.Within.startRound {r0 s : State} {Zs : List Zone} (h_therm : .therm ∈ Zs) (h0 : r0.Within s Zs) :
    r0.Within (State.startRound s) Zs := by
  unfold State.startRound
  repeat' with_reducible first
    | assumption | apply State.Within.ite | apply State.Within.foldl | apply State.Within.modTherm
theorem State.Within.requestRound {r0 s : State} {Zs : List Zone} (m : BitVec 10) (h_therm : .therm ∈ Zs)
    (h0 : r0.Within s Zs) :
    r0.Within (State.requestRound s m) Zs := by
  unfold State.requestRound
  repeat' with_reducible first
    | assumption | apply State.Within.ite | apply State.Within.startRound | apply State.Within.modTherm
theorem State.Within.thConv {r0 s : State} {Zs : List Zone} (v : Word) (h_therm : .therm ∈ Zs) (h0 : r0.Within s Zs) :
    r0.Within (State.thConv s v) Zs := by
  unfold State.thConv
  repeat' with_reducible first
    | assumption | apply State.Within.ite | apply State.Within.requestRound
theorem State.Within.thReadmit {r0 s : State} {Zs : List Zone} (v : Word) (hp8 : .page 8 ∈ Zs) (h_therm : .therm ∈ Zs)
    (h0 : r0.Within s Zs) :
    r0.Within (State.thReadmit s v) Zs := by
  unfold State.thReadmit
  repeat' with_reducible first
    | assumption | apply State.Within.ite | apply State.Within.modTherm | apply State.Within.put
  all_goals first
    | assumption
theorem State.Within.dropUnc {r0 s : State} {Zs : List Zone} (k : Nat) (hk : k < 16) (h_therm : .therm ∈ Zs) (hp8 : .page 8 ∈ Zs)
    (h0 : r0.Within s Zs) :
    r0.Within (State.dropUnc s k) Zs := by
  unfold State.dropUnc
  repeat' with_reducible first
    | assumption | apply State.Within.ite | apply State.Within.modTherm | apply State.Within.wr
  all_goals first
    | assumption
    | (rw [regZone_add TH_SUNC0 k 8 16 hk (by decide) (by decide) (by decide)]; assumption)
theorem State.Within.excludeSensor {r0 s : State} {Zs : List Zone} (k bit src : Nat) (hk : k < 16) (h_coll : .coll ∈ Zs)
    (h_therm : .therm ∈ Zs) (hp8 : .page 8 ∈ Zs) (h0 : r0.Within s Zs) :
    r0.Within (State.excludeSensor s k bit src) Zs := by
  unfold State.excludeSensor
  repeat' with_reducible first
    | assumption | apply State.Within.ite | apply State.Within.setb | apply State.Within.thEvt
    | apply State.Within.raiseAll | apply State.Within.raiseQuay | apply State.Within.modTherm
    | apply State.Within.dropUnc
  all_goals first
    | assumption
theorem State.Within.noteThCtl {r0 s : State} {Zs : List Zone} (old : State) (h_coll : .coll ∈ Zs)
    (h_therm : .therm ∈ Zs) (hp8 : .page 8 ∈ Zs) (h0 : r0.Within s Zs) :
    r0.Within (State.noteThCtl s old) Zs := by
  unfold State.noteThCtl
  repeat' with_reducible first
    | assumption | apply State.Within.ite | apply State.Within.raiseQuay
    | refine State.Within.forAll_mem _ (fun t k hk h => h.dropUnc k ?_ h_therm hp8) ?_
    | apply State.Within.forAll | intro _ _ _
  have := List.mem_range.1 (List.mem_filter.1 hk).1
  omega
theorem State.Within.advanceNodes {r0 s : State} {Zs : List Zone} (h_free : .free ∈ Zs) (h_therm : .therm ∈ Zs)
    (h0 : r0.Within s Zs) :
    r0.Within (State.advanceNodes s) Zs := by
  unfold State.advanceNodes
  repeat' with_reducible first
    | assumption | apply State.Within.ite | apply State.Within.modTherm | apply State.Within.useFree
theorem State.Within.modNode {r0 s : State} {Zs : List Zone} (j : Nat) (f : Node → Node) (h_therm : .therm ∈ Zs)
    (h0 : r0.Within s Zs) :
    r0.Within (State.modNode s j f) Zs := by
  unfold State.modNode
  repeat' with_reducible first
    | assumption | apply State.Within.ite | apply State.Within.modTherm
theorem State.Within.setBoardRef {r0 s : State} {Zs : List Zone} (q : Quay) (used : List UsedRes)
    (h_free : .free ∈ Zs) (h_therm : .therm ∈ Zs) (h0 : r0.Within s Zs) :
    r0.Within (State.setBoardRef s q used) Zs := by
  unfold State.setBoardRef
  repeat' with_reducible first
    | assumption | apply State.Within.ite | apply State.Within.modTherm | apply State.Within.useFree
theorem State.Within.growUnc {r0 s : State} {Zs : List Zone} (old : List Node) (h_therm : .therm ∈ Zs)
    (h0 : r0.Within s Zs) :
    r0.Within (State.growUnc s old) Zs := by
  unfold State.growUnc
  repeat' with_reducible first
    | assumption | apply State.Within.ite | apply State.Within.foldl | apply State.Within.modTherm
theorem State.Within.nodeLevels {r0 s : State} {Zs : List Zone} (j : Nat) (was : Bool) (h_coll : .coll ∈ Zs)
    (hp8 : .page 8 ∈ Zs) (h_therm : .therm ∈ Zs) (h0 : r0.Within s Zs) :
    r0.Within (State.nodeLevels s j was) Zs := by
  unfold State.nodeLevels
  repeat' with_reducible first
    | assumption | apply State.Within.ite | apply State.Within.raise | apply State.Within.thEvt
    | apply State.Within.modNode
theorem State.Within.modUnit {r0 s : State} {Zs : List Zone} (u : Nat) (f : UnitTh → UnitTh) (h_therm : .therm ∈ Zs)
    (h0 : r0.Within s Zs) :
    r0.Within (State.modUnit s u f) Zs := by
  unfold State.modUnit
  repeat' with_reducible first
    | assumption | apply State.Within.ite | apply State.Within.modTherm
theorem State.Within.unitUpdate {r0 s : State} {Zs : List Zone} (u : Nat) (h_coll : .coll ∈ Zs) (hp8 : .page 8 ∈ Zs)
    (h_therm : .therm ∈ Zs) (h0 : r0.Within s Zs) :
    r0.Within (State.unitUpdate s u) Zs := by
  unfold State.unitUpdate
  repeat' with_reducible first
    | assumption | apply State.Within.ite | apply State.Within.raise | apply State.Within.thEvt
    | apply State.Within.requestRound | apply State.Within.modUnit
theorem State.Within.markStop {r0 s : State} {Zs : List Zone} (u : Nat) (h_coll : .coll ∈ Zs) (hp8 : .page 8 ∈ Zs)
    (h0 : r0.Within s Zs) :
    r0.Within (State.markStop s u) Zs := by
  unfold State.markStop
  repeat' with_reducible first
    | assumption | apply State.Within.ite | apply State.Within.raise | apply State.Within.thEvt
    | apply State.Within.setb
  all_goals first
    | assumption
theorem State.Within.thermalStopBerth {r0 s : State} {Zs : List Zone} (n : Berth) (orderly : Bool)
    (hb : .berth n ∈ Zs) (h_coll : .coll ∈ Zs) (h_dock : .dock ∈ Zs) (hp12 : .page 12 ∈ Zs) (hp8 : .page 8 ∈ Zs)
    (h0 : r0.Within s Zs) :
    r0.Within (State.thermalStopBerth s n orderly) Zs := by
  unfold State.thermalStopBerth
  repeat' with_reducible first
    | assumption | apply State.Within.ite | apply State.Within.disableEn | apply State.Within.stopNow
    | apply State.Within.stopRequest | apply State.Within.markStop | apply State.Within.bclr | apply State.Within.bput
    | apply State.Within.modStart
  all_goals first
    | assumption
    | decide
theorem State.Within.thermalStop {r0 s : State} {Zs : List Zone} (u : Nat) (hB : ∀ m, .berth m ∈ Zs)
    (hT : ∀ u, .tender u ∈ Zs) (h_coll : .coll ∈ Zs) (h_dock : .dock ∈ Zs) (hp12 : .page 12 ∈ Zs) (hp8 : .page 8 ∈ Zs)
    (h_therm : .therm ∈ Zs) (h0 : r0.Within s Zs) :
    r0.Within (State.thermalStop s u) Zs := by
  unfold State.thermalStop
  repeat' with_reducible first
    | assumption | apply State.Within.ite | apply State.Within.markStop | apply State.Within.thermalStopBerth
    | apply State.Within.thermalStopTender | apply State.Within.forAll | apply State.Within.modTherm | split
    | intro _ _ _
  all_goals first
    | assumption
    | exact hB _
    | exact hT _
theorem State.Within.clearStop {r0 s : State} {Zs : List Zone} (u : Nat) (hT : ∀ u, .tender u ∈ Zs)
    (hp12 : .page 12 ∈ Zs) (hp8 : .page 8 ∈ Zs) (h0 : r0.Within s Zs) :
    r0.Within (State.clearStop s u) Zs := by
  unfold State.clearStop
  repeat' with_reducible first
    | assumption | apply State.Within.ite | apply State.Within.setTd | apply State.Within.clrb
    | apply State.Within.modTender | split
  all_goals first
    | assumption
    | exact hT _
theorem State.Within.skewSet {r0 s : State} {Zs : List Zone} (b : Nat) (exceeds : Bool) (h_coll : .coll ∈ Zs)
    (hp0 : .page 0 ∈ Zs) (h0 : r0.Within s Zs) :
    r0.Within (State.skewSet s b exceeds) Zs := by
  unfold State.skewSet
  repeat' with_reducible first
    | assumption | apply State.Within.ite | apply State.Within.raiseAll | apply State.Within.putb
    | apply State.Within.setb
  all_goals first
    | assumption
theorem State.Within.thermCommit {r0 s : State} {Zs : List Zone} (saved : Option ThermalCopy) (h_therm : .therm ∈ Zs)
    (h0 : r0.Within s Zs) :
    r0.Within (State.thermCommit s saved) Zs := by
  unfold State.thermCommit
  repeat' with_reducible first
    | assumption | apply State.Within.ite | apply State.Within.requestRound | apply State.Within.modTherm

/-! ### Memory -/

theorem State.Within.enqueue {r0 s : State} {Zs : List Zone} (l : List MemEntry) (h_mem : .mem ∈ Zs)
    (h0 : r0.Within s Zs) :
    r0.Within (State.enqueue s l) Zs := by
  unfold State.enqueue
  repeat' with_reducible first
    | assumption | apply State.Within.ite | apply State.Within.modMem
theorem State.Within.enqueueHost {r0 s : State} {Zs : List Zone} (e : MemEntry) (h_mem : .mem ∈ Zs)
    (h0 : r0.Within s Zs) :
    r0.Within (State.enqueueHost s e) Zs := by
  unfold State.enqueueHost
  repeat' with_reducible first
    | assumption | apply State.Within.ite | apply State.Within.modMem
theorem State.Within.dropEntry {r0 s : State} {Zs : List Zone} (e : MemEntry) (h_mem : .mem ∈ Zs)
    (h0 : r0.Within s Zs) :
    r0.Within (State.dropEntry s e) Zs := by
  unfold State.dropEntry
  repeat' with_reducible first
    | assumption | apply State.Within.ite | apply State.Within.modMem
theorem State.Within.endJobs {r0 s : State} {Zs : List Zone} (p : MemJob → Bool) (h_mem : .mem ∈ Zs)
    (h0 : r0.Within s Zs) :
    r0.Within (State.endJobs s p) Zs := by
  unfold State.endJobs
  repeat' with_reducible first
    | assumption | apply State.Within.ite | apply State.Within.modMem
theorem State.Within.endJob {r0 s : State} {Zs : List Zone} (j : MemJob) (h_mem : .mem ∈ Zs) (h0 : r0.Within s Zs) :
    r0.Within (State.endJob s j) Zs := by
  unfold State.endJob
  repeat' with_reducible first
    | assumption | apply State.Within.ite | apply State.Within.endJobs
theorem State.Within.startReads {r0 s : State} {Zs : List Zone} (l : List MemEntry) (h_load : .load ∈ Zs)
    (h_mem : .mem ∈ Zs) (h0 : r0.Within s Zs) :
    r0.Within (State.startReads s l) Zs := by
  unfold State.startReads
  repeat' with_reducible first
    | assumption | apply State.Within.ite | apply State.Within.modLoad | apply State.Within.enqueue
theorem State.Within.readHeaders {r0 s : State} {Zs : List Zone} (h_load : .load ∈ Zs) (h_mem : .mem ∈ Zs)
    (h0 : r0.Within s Zs) :
    r0.Within (State.readHeaders s) Zs := by
  unfold State.readHeaders
  repeat' with_reducible first
    | assumption | apply State.Within.ite | apply State.Within.startReads
theorem State.Within.readSlot {r0 s : State} {Zs : List Zone} (k : Nat) (h_load : .load ∈ Zs) (h_mem : .mem ∈ Zs)
    (h0 : r0.Within s Zs) :
    r0.Within (State.readSlot s k) Zs := by
  unfold State.readSlot
  repeat' with_reducible first
    | assumption | apply State.Within.ite | apply State.Within.startReads
theorem State.Within.takeRead {r0 s : State} {Zs : List Zone} (job : MemJob) (k : Nat) (b : List Nat)
    (h_load : .load ∈ Zs) (h_mem : .mem ∈ Zs) (h0 : r0.Within s Zs) :
    r0.Within (State.takeRead s job k b) Zs := by
  unfold State.takeRead
  repeat' with_reducible first
    | assumption | apply State.Within.ite | apply State.Within.modLoad | apply State.Within.enqueue
theorem State.Within.loaderResume {r0 s : State} {Zs : List Zone} (h_load : .load ∈ Zs) (h_mem : .mem ∈ Zs)
    (h0 : r0.Within s Zs) :
    r0.Within (State.loaderResume s) Zs := by
  unfold State.loaderResume
  repeat' with_reducible first
    | assumption | apply State.Within.ite | apply State.Within.readHeaders | apply State.Within.readSlot | split

/-! ### Tide -/

theorem State.Within.putMfState {r0 s : State} {Zs : List Zone} (v : Nat) (hp13 : .page 13 ∈ Zs) (h0 : r0.Within s Zs) :
    r0.Within (State.putMfState s v) Zs := by
  unfold State.putMfState
  repeat' with_reducible first
    | assumption | apply State.Within.ite | apply State.Within.put
  all_goals first
    | assumption
theorem State.Within.showWait {r0 s : State} {Zs : List Zone} (hp13 : .page 13 ∈ Zs) (h0 : r0.Within s Zs) :
    r0.Within (State.showWait s) Zs := by
  unfold State.showWait
  repeat' with_reducible first
    | assumption | apply State.Within.ite | apply State.Within.putMfState
theorem State.Within.toReference {r0 s : State} {Zs : List Zone} (hp2 : .page 2 ∈ Zs) (h_tide : .tide ∈ Zs)
    (h0 : r0.Within s Zs) :
    r0.Within (State.toReference s) Zs := by
  unfold State.toReference
  repeat' with_reducible first
    | assumption | apply State.Within.ite | apply State.Within.clrb | apply State.Within.modTide
  all_goals first
    | assumption
theorem State.Within.calNext {r0 s : State} {Zs : List Zone} (h_load : .load ∈ Zs) (h_mem : .mem ∈ Zs)
    (h_tide : .tide ∈ Zs) (hp13 : .page 13 ∈ Zs) (hp2 : .page 2 ∈ Zs) (h0 : r0.Within s Zs) :
    r0.Within (State.calNext s) Zs := by
  unfold State.calNext
  repeat' with_reducible first
    | assumption | apply State.Within.ite | apply State.Within.modTide | apply State.Within.put
    | apply State.Within.wr | apply State.Within.setb | apply State.Within.clrb | apply State.Within.putMfState
    | apply State.Within.readHeaders
  all_goals first
    | assumption
theorem State.Within.modWt {r0 s : State} {Zs : List Zone} (k : Nat) (f : WtSt → WtSt) (h_tide : .tide ∈ Zs)
    (h0 : r0.Within s Zs) :
    r0.Within (State.modWt s k f) Zs := by
  unfold State.modWt
  repeat' with_reducible first
    | assumption | apply State.Within.ite | apply State.Within.modTide
theorem State.Within.wtCommand {r0 s : State} {Zs : List Zone} (v : Word) (h_tide : .tide ∈ Zs) (h0 : r0.Within s Zs) :
    r0.Within (State.wtCommand s v) Zs := by
  unfold State.wtCommand
  repeat' with_reducible first
    | assumption | apply State.Within.ite | apply State.Within.modWt
theorem State.Within.wtReconfigured {r0 s : State} {Zs : List Zone} (k mode : Nat) (h_tide : .tide ∈ Zs)
    (h0 : r0.Within s Zs) :
    r0.Within (State.wtReconfigured s k mode) Zs := by
  unfold State.wtReconfigured
  repeat' with_reducible first
    | assumption | apply State.Within.ite | apply State.Within.modWt

/-! ### Log -/

theorem State.Within.putLogState {r0 s : State} {Zs : List Zone} (v : Nat) (h_mem : .mem ∈ Zs) (hp10 : .page 10 ∈ Zs)
    (h0 : r0.Within s Zs) :
    r0.Within (State.putLogState s v) Zs := by
  unfold State.putLogState
  repeat' with_reducible first
    | assumption | apply State.Within.ite | apply State.Within.modLog | apply State.Within.put
  all_goals first
    | assumption
theorem State.Within.logEvt {r0 s : State} {Zs : List Zone} (b : Nat) (hp10 : .page 10 ∈ Zs) (h0 : r0.Within s Zs) :
    r0.Within (State.logEvt s b) Zs := by
  unfold State.logEvt
  repeat' with_reducible first
    | assumption | apply State.Within.ite | apply State.Within.setb
  all_goals first
    | assumption
theorem State.Within.logWfail {r0 s : State} {Zs : List Zone} (h_coll : .coll ∈ Zs) (hp10 : .page 10 ∈ Zs)
    (h0 : r0.Within s Zs) :
    r0.Within (State.logWfail s) Zs := by
  unfold State.logWfail
  repeat' with_reducible first
    | assumption | apply State.Within.ite | apply State.Within.raiseAll | apply State.Within.logEvt
theorem State.Within.showLog {r0 s : State} {Zs : List Zone} (rseq : Nat) (hp10 : .page 10 ∈ Zs) (h0 : r0.Within s Zs) :
    r0.Within (State.showLog s rseq) Zs := by
  unfold State.showLog
  repeat' with_reducible first
    | assumption | apply State.Within.ite | apply State.Within.wr
  all_goals first
    | assumption
theorem State.Within.logProgram {r0 s : State} {Zs : List Zone} (n : Nat) (h_free : .free ∈ Zs) (h_mem : .mem ∈ Zs)
    (h0 : r0.Within s Zs) :
    r0.Within (State.logProgram s n) Zs := by
  unfold State.logProgram
  repeat' with_reducible first
    | assumption | apply State.Within.ite | apply State.Within.enqueue | apply State.Within.modLog
    | apply State.Within.useFree
theorem State.Within.logPump {r0 s : State} {Zs : List Zone} (lazy : Bool := false) (h_free : .free ∈ Zs)
    (h_mem : .mem ∈ Zs) (h0 : r0.Within s Zs) :
    r0.Within (State.logPump s lazy) Zs := by
  unfold State.logPump
  repeat' with_reducible first
    | assumption | apply State.Within.ite | apply State.Within.logProgram | apply State.Within.modLog
theorem State.Within.logPush {r0 s : State} {Zs : List Zone} (r : LogRec) (h_free : .free ∈ Zs) (h_mem : .mem ∈ Zs)
    (hp10 : .page 10 ∈ Zs) (h0 : r0.Within s Zs) :
    r0.Within (State.logPush s r) Zs := by
  unfold State.logPush
  repeat' with_reducible first
    | assumption | apply State.Within.ite | apply State.Within.logEvt | apply State.Within.logPump
    | apply State.Within.incSat | apply State.Within.modLog
  all_goals first
    | assumption
theorem State.Within.logSettleOff {r0 s : State} {Zs : List Zone} (h_mem : .mem ∈ Zs) (hp10 : .page 10 ∈ Zs)
    (h0 : r0.Within s Zs) :
    r0.Within (State.logSettleOff s) Zs := by
  unfold State.logSettleOff
  repeat' with_reducible first
    | assumption | apply State.Within.ite | apply State.Within.putLogState | apply State.Within.modLog
theorem State.Within.eraseTarget {r0 s : State} {Zs : List Zone} (h_free : .free ∈ Zs) (h_mem : .mem ∈ Zs)
    (h0 : r0.Within s Zs) :
    r0.Within (State.eraseTarget s) Zs := by
  unfold State.eraseTarget
  repeat' with_reducible first
    | assumption | apply State.Within.ite | apply State.Within.modLog | apply State.Within.enqueue
    | apply State.Within.useFree
theorem State.Within.sectorSeen {r0 s : State} {Zs : List Zone} (b : List Nat) (h_free : .free ∈ Zs)
    (h_mem : .mem ∈ Zs) (hp10 : .page 10 ∈ Zs) (h0 : r0.Within s Zs) :
    r0.Within (State.sectorSeen s b) Zs := by
  unfold State.sectorSeen
  repeat' with_reducible first
    | assumption | apply State.Within.ite | apply State.Within.modLog | apply State.Within.useFree
    | apply State.Within.setb | apply State.Within.wr | apply State.Within.eraseTarget | split
  all_goals first
    | assumption
theorem State.Within.skipSector {r0 s : State} {Zs : List Zone} (h_coll : .coll ∈ Zs) (h_mem : .mem ∈ Zs)
    (hp10 : .page 10 ∈ Zs) (h0 : r0.Within s Zs) :
    r0.Within (State.skipSector s) Zs := by
  unfold State.skipSector
  repeat' with_reducible first
    | assumption | apply State.Within.ite | apply State.Within.logWfail | apply State.Within.modLog
theorem State.Within.logFlush {r0 s : State} {Zs : List Zone} (h_free : .free ∈ Zs) (h_mem : .mem ∈ Zs)
    (h0 : r0.Within s Zs) :
    r0.Within (State.logFlush s) Zs := by
  unfold State.logFlush
  repeat' with_reducible first
    | assumption | apply State.Within.ite | apply State.Within.logPump | apply State.Within.modLog
theorem State.Within.mountReads {r0 s : State} {Zs : List Zone} (h_mem : .mem ∈ Zs) (hp10 : .page 10 ∈ Zs)
    (h0 : r0.Within s Zs) :
    r0.Within (State.mountReads s) Zs := by
  unfold State.mountReads
  repeat' with_reducible first
    | assumption | apply State.Within.ite | apply State.Within.modLog | apply State.Within.enqueue
    | apply State.Within.clrb | apply State.Within.putLogState
  all_goals first
    | assumption
theorem State.Within.logMount {r0 s : State} {Zs : List Zone} (h_mem : .mem ∈ Zs) (hp10 : .page 10 ∈ Zs)
    (h0 : r0.Within s Zs) :
    r0.Within (State.logMount s) Zs := by
  unfold State.logMount
  repeat' with_reducible first
    | assumption | apply State.Within.ite | apply State.Within.modLog | apply State.Within.mountReads
theorem State.Within.hostFlush {r0 s : State} {Zs : List Zone} (h_free : .free ∈ Zs) (h_mem : .mem ∈ Zs)
    (hp10 : .page 10 ∈ Zs) (h0 : r0.Within s Zs) :
    r0.Within (State.hostFlush s) Zs := by
  unfold State.hostFlush
  repeat' with_reducible first
    | assumption | apply State.Within.ite | apply State.Within.mountReads | apply State.Within.logFlush
theorem State.Within.logDisable {r0 s : State} {Zs : List Zone} (h_mem : .mem ∈ Zs) (hp10 : .page 10 ∈ Zs)
    (h0 : r0.Within s Zs) :
    r0.Within (State.logDisable s) Zs := by
  unfold State.logDisable
  repeat' with_reducible first
    | assumption | apply State.Within.ite | apply State.Within.logSettleOff | apply State.Within.modLog
theorem State.Within.seedLoss {r0 s : State} {Zs : List Zone} (l : List (Option (Word × Word)))
    (hB : ∀ m, .berth m ∈ Zs) (h0 : r0.Within s Zs) :
    r0.Within (State.seedLoss s l) Zs := by
  unfold State.seedLoss
  repeat' with_reducible first
    | assumption | apply State.Within.ite | apply State.Within.bwr | apply State.Within.forAll
    | apply State.Within.modCtl | split | intro _ _ _
  all_goals first
    | assumption
    | exact hB _
    | decide
theorem State.Within.noteStart {r0 s : State} {Zs : List Zone} (seeded : Bool) (h_mem : .mem ∈ Zs)
    (h0 : r0.Within s Zs) :
    r0.Within (State.noteStart s seeded) Zs := by
  unfold State.noteStart
  repeat' with_reducible first
    | assumption | apply State.Within.ite | apply State.Within.modLog
theorem State.Within.eraseThermal {r0 s : State} {Zs : List Zone} (h_free : .free ∈ Zs) (h_mem : .mem ∈ Zs)
    (h0 : r0.Within s Zs) :
    r0.Within (State.eraseThermal s) Zs := by
  unfold State.eraseThermal
  repeat' with_reducible first
    | assumption | apply State.Within.ite | apply State.Within.enqueue | apply State.Within.useFree
theorem State.Within.prepareAreas {r0 s : State} {Zs : List Zone} (h_free : .free ∈ Zs) (h_mem : .mem ∈ Zs)
    (h0 : r0.Within s Zs) :
    r0.Within (State.prepareAreas s) Zs := by
  unfold State.prepareAreas
  repeat' with_reducible first
    | assumption | apply State.Within.ite | apply State.Within.enqueue | apply State.Within.eraseThermal
    | apply State.Within.useFree
theorem State.Within.mountAreas {r0 s : State} {Zs : List Zone} (h_mem : .mem ∈ Zs) (h0 : r0.Within s Zs) :
    r0.Within (State.mountAreas s) Zs := by
  unfold State.mountAreas
  repeat' with_reducible first
    | assumption | apply State.Within.ite | apply State.Within.enqueue
theorem State.Within.mountRead {r0 s : State} {Zs : List Zone} (job : MemJob) (b : List Nat) (h_mem : .mem ∈ Zs)
    (h0 : r0.Within s Zs) :
    r0.Within (State.mountRead s job b) Zs := by
  unfold State.mountRead
  repeat' with_reducible first
    | assumption | apply State.Within.ite | apply State.Within.modLog | apply State.Within.mountAreas | split
theorem State.Within.mountPlace {r0 s : State} {Zs : List Zone} (h_mem : .mem ∈ Zs) (hp10 : .page 10 ∈ Zs)
    (h0 : r0.Within s Zs) :
    r0.Within (State.mountPlace s) Zs := by
  unfold State.mountPlace
  repeat' with_reducible first
    | assumption | apply State.Within.ite | apply State.Within.modLog | apply State.Within.wr
    | apply State.Within.foldl | split | intro _ _ _
  all_goals first
    | assumption
theorem State.Within.logSaveTh {r0 s : State} {Zs : List Zone} (h_dev : .dev ∈ Zs) (h_free : .free ∈ Zs)
    (h_mem : .mem ∈ Zs) (hp10 : .page 10 ∈ Zs) (h0 : r0.Within s Zs) :
    r0.Within (State.logSaveTh s) Zs := by
  unfold State.logSaveTh
  repeat' with_reducible first
    | assumption | apply State.Within.ite | apply State.Within.logEvt | apply State.Within.enqueue
    | apply State.Within.modDev | apply State.Within.modLog | apply State.Within.useFree
theorem State.Within.parProgram {r0 s : State} {Zs : List Zone} (n : Berth) (h_free : .free ∈ Zs) (h_mem : .mem ∈ Zs)
    (h0 : r0.Within s Zs) :
    r0.Within (State.parProgram s n) Zs := by
  unfold State.parProgram
  repeat' with_reducible first
    | assumption | apply State.Within.ite | apply State.Within.enqueue | apply State.Within.modLog
    | apply State.Within.useFree
theorem State.Within.logSavePar {r0 s : State} {Zs : List Zone} (h_free : .free ∈ Zs) (h_mem : .mem ∈ Zs)
    (h0 : r0.Within s Zs) :
    r0.Within (State.logSavePar s) Zs := by
  unfold State.logSavePar
  repeat' with_reducible first
    | assumption | apply State.Within.ite | apply State.Within.parProgram | apply State.Within.forAll | intro _ _ _
theorem State.Within.logTrig {r0 s : State} {Zs : List Zone} (src : Nat) (h_mem : .mem ∈ Zs) (hp10 : .page 10 ∈ Zs)
    (h0 : r0.Within s Zs) :
    r0.Within (State.logTrig s src) Zs := by
  unfold State.logTrig
  repeat' with_reducible first
    | assumption | apply State.Within.ite | apply State.Within.logEvt | apply State.Within.modLog
theorem State.Within.failEntry {r0 s : State} {Zs : List Zone} (e : MemEntry) (why : Nat) (h_coll : .coll ∈ Zs)
    (h_free : .free ∈ Zs) (h_load : .load ∈ Zs) (h_mem : .mem ∈ Zs) (hp10 : .page 10 ∈ Zs) (h0 : r0.Within s Zs) :
    r0.Within (State.failEntry s e why) Zs := by
  unfold State.failEntry
  repeat' with_reducible first
    | assumption | apply State.Within.ite | apply State.Within.dropEntry | apply State.Within.setb
    | apply State.Within.raise | apply State.Within.put | apply State.Within.endJob | apply State.Within.modLog
    | apply State.Within.showLog | apply State.Within.logWfail | apply State.Within.logPump
    | apply State.Within.logSettleOff | apply State.Within.logEvt | apply State.Within.modLoad
    | apply State.Within.endJobs | split
  all_goals first
    | assumption
theorem State.Within.failAllVio {r0 s : State} {Zs : List Zone} (h_coll : .coll ∈ Zs) (h_free : .free ∈ Zs)
    (h_load : .load ∈ Zs) (h_mem : .mem ∈ Zs) (hp10 : .page 10 ∈ Zs) (h0 : r0.Within s Zs) :
    r0.Within (State.failAllVio s) Zs := by
  unfold State.failAllVio
  repeat' with_reducible first
    | assumption | apply State.Within.ite | apply State.Within.failEntry | apply State.Within.foldl | intro _ _ _
theorem State.Within.hostGo {r0 s : State} {Zs : List Zone} (h_mem : .mem ∈ Zs) (h0 : r0.Within s Zs) :
    r0.Within (State.hostGo s) Zs := by
  unfold State.hostGo
  repeat' with_reducible first
    | assumption | apply State.Within.ite | apply State.Within.enqueueHost

/-! ### Demand -/

theorem State.Within.deliver {r0 s : State} {Zs : List Zone} (n : Berth) (d : Nat) (hb : .berth n ∈ Zs)
    (h0 : r0.Within s Zs) :
    r0.Within (State.deliver s n d) Zs := by
  unfold State.deliver
  repeat' with_reducible first
    | assumption | apply State.Within.ite | apply State.Within.modDem
theorem State.Within.demandEvt {r0 s : State} {Zs : List Zone} (n : Berth) (bit : Nat) (hb : .berth n ∈ Zs)
    (h0 : r0.Within s Zs) :
    r0.Within (State.demandEvt s n bit) Zs := by
  unfold State.demandEvt
  repeat' with_reducible first
    | assumption | apply State.Within.ite | apply State.Within.bset | apply State.Within.modDem
  all_goals first
    | assumption
    | decide
theorem State.Within.demSource {r0 s : State} {Zs : List Zone} (n : Berth) (hb : .berth n ∈ Zs) (h0 : r0.Within s Zs)
    :
    r0.Within (State.demSource s n) Zs := by
  unfold State.demSource
  repeat' with_reducible first
    | assumption | apply State.Within.ite | apply State.Within.modDem | apply State.Within.deliver | split
theorem State.Within.demCapture {r0 s : State} {Zs : List Zone} (n : Berth) (hb : .berth n ∈ Zs) (h_free : .free ∈ Zs)
    (h0 : r0.Within s Zs) :
    r0.Within (State.demCapture s n) Zs := by
  unfold State.demCapture
  repeat' with_reducible first
    | assumption | apply State.Within.ite | apply State.Within.deliver | apply State.Within.demandEvt
    | apply State.Within.foldl | apply State.Within.bwr | apply State.Within.modDem | apply State.Within.useFree
    | intro _ _ _
  all_goals first
    | assumption
    | decide
theorem State.Within.demLoss {r0 s : State} {Zs : List Zone} (n : Berth) (hb : .berth n ∈ Zs) (h_coll : .coll ∈ Zs)
    (h0 : r0.Within s Zs) :
    r0.Within (State.demLoss s n) Zs := by
  unfold State.demLoss
  dsimp only
  repeat' with_reducible first
    | assumption
    | apply State.Within.ite
    | apply State.Within.modDem
    | apply State.Within.bwr
    | apply State.Within.bset
    | apply State.Within.bclr
    | apply State.Within.raiseBerth
    | split
  all_goals first
    | assumption
    | decide
theorem State.Within.demHyst {r0 s : State} {Zs : List Zone} (n : Berth) (hb : .berth n ∈ Zs) (h_coll : .coll ∈ Zs)
    (h_dock : .dock ∈ Zs) (hp12 : .page 12 ∈ Zs) (h0 : r0.Within s Zs) :
    r0.Within (State.demHyst s n) Zs := by
  unfold State.demHyst
  repeat' with_reducible first
    | assumption | apply State.Within.ite | apply State.Within.stopRequest | apply State.Within.restart
    | apply State.Within.bclr | apply State.Within.bset
  all_goals first
    | assumption
    | decide
theorem State.Within.demRamp {r0 s : State} {Zs : List Zone} (n : Berth) (y : Int) (hb : .berth n ∈ Zs)
    (h_coll : .coll ∈ Zs) (h_dock : .dock ∈ Zs) (hp12 : .page 12 ∈ Zs) (h0 : r0.Within s Zs) :
    r0.Within (State.demRamp s n y) Zs := by
  unfold State.demRamp
  repeat' with_reducible first
    | assumption | apply State.Within.ite | apply State.Within.stopRequest | apply State.Within.bset
    | apply State.Within.bwr | apply State.Within.modDem
  all_goals first
    | assumption
    | decide
theorem State.Within.demPosition {r0 s : State} {Zs : List Zone} (n : Berth) (y : Int) (hb : .berth n ∈ Zs)
    (h0 : r0.Within s Zs) :
    r0.Within (State.demPosition s n y) Zs := by
  unfold State.demPosition
  repeat' with_reducible first
    | assumption | apply State.Within.ite | apply State.Within.bwr | apply State.Within.modDem
  all_goals first
    | assumption
    | decide
theorem State.Within.demandSource {r0 s : State} {Zs : List Zone} (n : Berth) (v : Word) (hb : .berth n ∈ Zs)
    (h0 : r0.Within s Zs) :
    r0.Within (State.demandSource s n v) Zs := by
  unfold State.demandSource
  repeat' with_reducible first
    | assumption | apply State.Within.ite | apply State.Within.bclr | apply State.Within.bwr
    | apply State.Within.modDem
  all_goals first
    | assumption
    | decide
theorem State.Within.hostDemand {r0 s : State} {Zs : List Zone} (n : Berth) (v : Word) (hb : .berth n ∈ Zs)
    (h0 : r0.Within s Zs) :
    r0.Within (State.hostDemand s n v) Zs := by
  unfold State.hostDemand
  repeat' with_reducible first
    | assumption | apply State.Within.ite | apply State.Within.deliver | apply State.Within.bwr
    | apply State.Within.modDem
  all_goals first
    | assumption
    | decide
theorem State.Within.applyCurve {r0 s : State} {Zs : List Zone} (n : Berth) (hb : .berth n ∈ Zs) (h0 : r0.Within s Zs) :
    r0.Within (State.applyCurve s n) Zs := by
  unfold State.applyCurve
  refine .bputb n BD_CCTLA 6 _ (by decide) hb (.bput n BD_CCTLA 5 5 _ (by decide) hb
    (.bput n BD_CCTLA 4 0 _ (by decide) hb (.wrs _ (fun p hp => ?_) h0)))
  simp only [List.mem_map, List.mem_range] at hp
  obtain ⟨k, hk, rfl⟩ := hp
  rw [regZone_ba n (BD_CXA0 + k) (by simp only [BD_CXA0]; omega)]; exact hb

/-! ### Mooring -/

theorem State.Within.putMlMode {r0 s : State} {Zs : List Zone} (v : Nat) (hp11 : .page 11 ∈ Zs) (h0 : r0.Within s Zs) :
    r0.Within (State.putMlMode s v) Zs := by
  unfold State.putMlMode
  repeat' with_reducible first
    | assumption | apply State.Within.ite | apply State.Within.put
  all_goals first
    | assumption
theorem State.Within.mlEvt {r0 s : State} {Zs : List Zone} (b : Nat) (hp11 : .page 11 ∈ Zs) (h0 : r0.Within s Zs) :
    r0.Within (State.mlEvt s b) Zs := by
  unfold State.mlEvt
  repeat' with_reducible first
    | assumption | apply State.Within.ite | apply State.Within.setb
  all_goals first
    | assumption
theorem State.Within.originate {r0 s : State} {Zs : List Zone} (typ dst : Nat) (pay : List Word) (h_moor : .moor ∈ Zs)
    (h0 : r0.Within s Zs) :
    r0.Within (State.originate s typ dst pay) Zs := by
  unfold State.originate
  repeat' with_reducible first
    | assumption | apply State.Within.ite | apply State.Within.modMoor
theorem State.Within.checkError {r0 s : State} {Zs : List Zone} (h_coll : .coll ∈ Zs) (h_moor : .moor ∈ Zs)
    (hp11 : .page 11 ∈ Zs) (h0 : r0.Within s Zs) :
    r0.Within (State.checkError s) Zs := by
  unfold State.checkError
  repeat' with_reducible first
    | assumption | apply State.Within.ite | apply State.Within.raiseAll | apply State.Within.mlEvt
    | apply State.Within.incSat | apply State.Within.modMoor
  all_goals first
    | assumption
theorem State.Within.announceSelf {r0 s : State} {Zs : List Zone} (h_moor : .moor ∈ Zs) (h0 : r0.Within s Zs) :
    r0.Within (State.announceSelf s) Zs := by
  unfold State.announceSelf
  repeat' with_reducible first
    | assumption | apply State.Within.ite | apply State.Within.originate
theorem State.Within.fillSlot {r0 s : State} {Zs : List Zone} (e : Bool) (h_moor : .moor ∈ Zs) (h0 : r0.Within s Zs) :
    r0.Within (State.fillSlot s e) Zs := by
  unfold State.fillSlot
  repeat' with_reducible first
    | assumption | apply State.Within.ite | apply State.Within.modMoor | split
theorem State.Within.echoBurst {r0 s : State} {Zs : List Zone} (e : Bool) (h_moor : .moor ∈ Zs) (h0 : r0.Within s Zs) :
    r0.Within (State.echoBurst s e) Zs := by
  unfold State.echoBurst
  repeat' with_reducible first
    | assumption | apply State.Within.ite | apply State.Within.modMoor
theorem State.Within.sendSlot {r0 s : State} {Zs : List Zone} (f : Option MFrame) (h_moor : .moor ∈ Zs)
    (h0 : r0.Within s Zs) :
    r0.Within (State.sendSlot s f) Zs := by
  unfold State.sendSlot
  repeat' with_reducible first
    | assumption | apply State.Within.ite | apply State.Within.modMoor
theorem State.Within.joined {r0 s : State} {Zs : List Zone} (h_moor : .moor ∈ Zs) (h0 : r0.Within s Zs) :
    r0.Within (State.joined s) Zs := by
  unfold State.joined
  repeat' with_reducible first
    | assumption | apply State.Within.ite | apply State.Within.announceSelf
theorem State.Within.noSlots {r0 s : State} {Zs : List Zone} (h_moor : .moor ∈ Zs) (hp11 : .page 11 ∈ Zs)
    (h0 : r0.Within s Zs) :
    r0.Within (State.noSlots s) Zs := by
  unfold State.noSlots
  repeat' with_reducible first
    | assumption | apply State.Within.ite | apply State.Within.putMlMode | apply State.Within.joined
    | apply State.Within.modMoor
theorem State.Within.enterChain {r0 s : State} {Zs : List Zone} (h_moor : .moor ∈ Zs) (hp11 : .page 11 ∈ Zs)
    (h0 : r0.Within s Zs) :
    r0.Within (State.enterChain s) Zs := by
  unfold State.enterChain
  repeat' with_reducible first
    | assumption | apply State.Within.ite | apply State.Within.putMlMode | apply State.Within.mlEvt
    | apply State.Within.joined | apply State.Within.modMoor
theorem State.Within.sendHeal {r0 s : State} {Zs : List Zone} (h_moor : .moor ∈ Zs) (h0 : r0.Within s Zs) :
    r0.Within (State.sendHeal s) Zs := by
  unfold State.sendHeal
  repeat' with_reducible first
    | assumption | apply State.Within.ite | apply State.Within.modMoor
theorem State.Within.sendTurn {r0 s : State} {Zs : List Zone} (p : MPort) (h_moor : .moor ∈ Zs) (h0 : r0.Within s Zs) :
    r0.Within (State.sendTurn s p) Zs := by
  unfold State.sendTurn
  repeat' with_reducible first
    | assumption | apply State.Within.ite | apply State.Within.modMoor | split
theorem State.Within.relay {r0 s : State} {Zs : List Zone} (p : MPort) (f : MFrame) (h_free : .free ∈ Zs)
    (h_moor : .moor ∈ Zs) (h0 : r0.Within s Zs) :
    r0.Within (State.relay s p f) Zs := by
  unfold State.relay
  repeat' with_reducible first
    | assumption | apply State.Within.ite | apply State.Within.modMoor | apply State.Within.useFree | split
theorem State.Within.ringSwitch {r0 s : State} {Zs : List Zone} (h_moor : .moor ∈ Zs) (hp11 : .page 11 ∈ Zs)
    (h0 : r0.Within s Zs) :
    r0.Within (State.ringSwitch s) Zs := by
  unfold State.ringSwitch
  repeat' with_reducible first
    | assumption | apply State.Within.ite | apply State.Within.putMlMode | apply State.Within.mlEvt
    | apply State.Within.modMoor | apply State.Within.put
  all_goals first
    | assumption
theorem State.Within.putTaken {r0 s : State} {Zs : List Zone} (k : Nat) (v : Bool) (hk : k < 18 * 32)
    (hp11 : .page 11 ∈ Zs) (h0 : r0.Within s Zs) :
    r0.Within (State.putTaken s k v) Zs := by
  unfold State.putTaken
  exact h0.putb _ _ _ (regZone_add ML_TAKEN0 (k / 18) 11 32 (by omega) (by decide) (by decide) (by decide) ▸ hp11)
theorem State.Within.takeNode {r0 s : State} {Zs : List Zone} (k : Nat) (hp11 : .page 11 ∈ Zs) (h0 : r0.Within s Zs) :
    r0.Within (State.takeNode s k) Zs := by
  unfold State.takeNode
  repeat' with_reducible first
    | assumption | apply State.Within.ite | apply State.Within.put
  all_goals first
    | assumption
theorem State.Within.rollCall {r0 s : State} {Zs : List Zone} (h_coll : .coll ∈ Zs) (h_moor : .moor ∈ Zs)
    (hp11 : .page 11 ∈ Zs) (h0 : r0.Within s Zs) :
    r0.Within (State.rollCall s) Zs := by
  unfold State.rollCall
  repeat' with_reducible first
    | assumption | apply State.Within.ite | apply State.Within.raiseAll | apply State.Within.mlEvt
    | apply State.Within.originate | apply State.Within.announceSelf | apply State.Within.takeNode
    | apply State.Within.setb | split
  all_goals first
    | assumption
theorem State.Within.alignState {r0 s : State} {Zs : List Zone} (ofs : Int) (h_coll : .coll ∈ Zs)
    (h_moor : .moor ∈ Zs) (hp11 : .page 11 ∈ Zs) (h0 : r0.Within s Zs) :
    r0.Within (State.alignState s ofs) Zs := by
  unfold State.alignState
  repeat' with_reducible first
    | assumption | apply State.Within.ite | apply State.Within.raiseAll | apply State.Within.clrb
    | apply State.Within.modMoor | apply State.Within.putb
  all_goals first
    | assumption
theorem State.Within.demandChannel {r0 s : State} {Zs : List Zone} (ch d : Nat) (hB : ∀ m, .berth m ∈ Zs)
    (h0 : r0.Within s Zs) :
    r0.Within (State.demandChannel s ch d) Zs := by
  unfold State.demandChannel
  repeat' with_reducible first
    | assumption | apply State.Within.ite | apply State.Within.deliver | apply State.Within.bput
    | apply State.Within.forAll | intro _ _ _
  all_goals first
    | assumption
    | exact hB _
    | decide
theorem State.Within.sendDemand {r0 s : State} {Zs : List Zone} (hB : ∀ m, .berth m ∈ Zs) (h_moor : .moor ∈ Zs)
    (h0 : r0.Within s Zs) :
    r0.Within (State.sendDemand s) Zs := by
  unfold State.sendDemand
  repeat' with_reducible first
    | assumption | apply State.Within.ite | apply State.Within.originate | apply State.Within.demandChannel
    | apply State.Within.forAll | intro _ _ _
theorem State.Within.sendFault {r0 s : State} {Zs : List Zone} (e : Event) (sev react : Nat) (h_moor : .moor ∈ Zs)
    (h0 : r0.Within s Zs) :
    r0.Within (State.sendFault s e sev react) Zs := by
  unfold State.sendFault
  repeat' with_reducible first
    | assumption | apply State.Within.ite | apply State.Within.originate | apply State.Within.modMoor
theorem State.Within.sendLedger {r0 s : State} {Zs : List Zone} (h_moor : .moor ∈ Zs) (h0 : r0.Within s Zs) :
    r0.Within (State.sendLedger s) Zs := by
  unfold State.sendLedger
  repeat' with_reducible first
    | assumption | apply State.Within.ite | apply State.Within.originate | apply State.Within.modMoor
theorem State.Within.mlCommand {r0 s : State} {Zs : List Zone} (v : Word) (hB : ∀ m, .berth m ∈ Zs)
    (h_coll : .coll ∈ Zs) (h_moor : .moor ∈ Zs) (hp11 : .page 11 ∈ Zs) (h0 : r0.Within s Zs) :
    r0.Within (State.mlCommand s v) Zs := by
  unfold State.mlCommand
  repeat' with_reducible first
    | assumption | apply State.Within.ite | apply State.Within.originate | apply State.Within.rollCall
    | apply State.Within.sendDemand | apply State.Within.sendLedger | apply State.Within.modMoor

/-! ### Collector -/

theorem State.Within.countBerth {r0 s : State} {Zs : List Zone} (src : Nat) (hB : ∀ m, .berth m ∈ Zs)
    (h0 : r0.Within s Zs) :
    r0.Within (State.countBerth s src) Zs := by
  unfold State.countBerth
  split
  · exact .bput _ _ _ _ _ (by simp only [BE_CNT01]; omega) (hB _) h0
  · exact h0
theorem State.Within.report {r0 s : State} {Zs : List Zone} (e : Event) (was : Option FirstErr)
    (hB : ∀ m, .berth m ∈ Zs) (h_free : .free ∈ Zs) (h_mem : .mem ∈ Zs) (h_moor : .moor ∈ Zs) (hp10 : .page 10 ∈ Zs)
    (h0 : r0.Within s Zs) :
    r0.Within (State.report s e was) Zs := by
  unfold State.report
  repeat' with_reducible first
    | assumption | apply State.Within.ite | apply State.Within.countBerth | apply State.Within.logPush
    | apply State.Within.sendFault
theorem State.Within.stopAll {r0 s : State} {Zs : List Zone} (l : List Event) (hB : ∀ m, .berth m ∈ Zs)
    (h_coll : .coll ∈ Zs) (h_dock : .dock ∈ Zs) (hp12 : .page 12 ∈ Zs) (h0 : r0.Within s Zs) :
    r0.Within (State.stopAll s l) Zs := by
  unfold State.stopAll
  repeat' with_reducible first
    | assumption | apply State.Within.ite | apply State.Within.stopRequest | apply State.Within.forAll | intro _ _ _
  all_goals first
    | assumption
    | exact hB _
theorem State.Within.take {r0 s : State} {Zs : List Zone} (l : List Event) (h_coll : .coll ∈ Zs) (h0 : r0.Within s Zs)
    :
    r0.Within (State.take s l) Zs := by
  unfold State.take
  repeat' with_reducible first
    | assumption | apply State.Within.ite | apply State.Within.modColl
theorem State.Within.breakPair {r0 s : State} {Zs : List Zone} (src : Nat) (h_coll : .coll ∈ Zs) (h0 : r0.Within s Zs) :
    r0.Within (State.breakPair s src) Zs := by
  unfold State.breakPair
  repeat' with_reducible first
    | assumption | apply State.Within.ite | apply State.Within.raise | apply State.Within.modColl
theorem State.Within.breakLine {r0 s : State} {Zs : List Zone} (n : Berth) (hb : .berth n ∈ Zs) (h_coll : .coll ∈ Zs)
    (h_dock : .dock ∈ Zs) (hp12 : .page 12 ∈ Zs) (h0 : r0.Within s Zs) :
    r0.Within (State.breakLine s n) Zs := by
  unfold State.breakLine
  repeat' with_reducible first
    | assumption | apply State.Within.ite | apply State.Within.raise | apply State.Within.trip
    | apply State.Within.modColl
theorem State.Within.reraise {r0 s : State} {Zs : List Zone} (src : Nat) (h_coll : .coll ∈ Zs) (h0 : r0.Within s Zs) :
    r0.Within (State.reraise s src) Zs := by
  unfold State.reraise
  repeat' with_reducible first
    | assumption | apply State.Within.ite | apply State.Within.raiseAll | apply State.Within.raiseForced
    | apply State.Within.raiseQuay | apply State.Within.foldl | split | intro _ _ _
theorem State.Within.clearPending {r0 s : State} {Zs : List Zone} (a : Nat) (v : Word) (h_coll : .coll ∈ Zs)
    (h0 : r0.Within s Zs) :
    r0.Within (State.clearPending s a v) Zs := by
  unfold State.clearPending
  repeat' with_reducible first
    | assumption | apply State.Within.ite | apply State.Within.reraise | apply State.Within.forAll
    | apply State.Within.modColl | intro _ _ _
theorem State.Within.clearRecord {r0 s : State} {Zs : List Zone} (h_coll : .coll ∈ Zs) (h0 : r0.Within s Zs) :
    r0.Within (State.clearRecord s) Zs := by
  unfold State.clearRecord
  repeat' with_reducible first
    | assumption | apply State.Within.ite | apply State.Within.modColl
theorem State.Within.drivePair {r0 s : State} {Zs : List Zone} (k : Nat) (p q : Bool) (h_coll : .coll ∈ Zs)
    (h0 : r0.Within s Zs) :
    r0.Within (State.drivePair s k p q) Zs := by
  unfold State.drivePair
  repeat' with_reducible first
    | assumption | apply State.Within.ite | apply State.Within.breakPair | apply State.Within.modColl
    | apply State.Within.raise
theorem State.Within.driveLine {r0 s : State} {Zs : List Zone} (n : Berth) (p q : Bool) (hb : .berth n ∈ Zs)
    (h_coll : .coll ∈ Zs) (h_dock : .dock ∈ Zs) (hp12 : .page 12 ∈ Zs) (h0 : r0.Within s Zs) :
    r0.Within (State.driveLine s n p q) Zs := by
  unfold State.driveLine
  repeat' with_reducible first
    | assumption | apply State.Within.ite | apply State.Within.breakLine | apply State.Within.modColl
    | apply State.Within.trip

/-! ### Countersign -/

theorem State.Within.csRefuse {r0 s : State} {Zs : List Zone} (code : Nat) (h_coll : .coll ∈ Zs)
    (hp12 : .page 12 ∈ Zs) (h0 : r0.Within s Zs) :
    r0.Within (State.csRefuse s code) Zs := by
  unfold State.csRefuse
  repeat' with_reducible first
    | assumption | apply State.Within.ite | apply State.Within.raiseAll | apply State.Within.put
  all_goals first
    | assumption
theorem State.Within.csAccept {r0 s : State} {Zs : List Zone} (who way : Nat) (h_cs : .cs ∈ Zs) (hp12 : .page 12 ∈ Zs)
    (h0 : r0.Within s Zs) :
    r0.Within (State.csAccept s who way) Zs := by
  unfold State.csAccept
  repeat' with_reducible first
    | assumption | apply State.Within.ite | apply State.Within.modCs | apply State.Within.put
  all_goals first
    | assumption
theorem State.Within.csToIdle {r0 s : State} {Zs : List Zone} (hp12 : .page 12 ∈ Zs) (h0 : r0.Within s Zs) :
    r0.Within (State.csToIdle s) Zs := by
  unfold State.csToIdle
  repeat' with_reducible first
    | assumption | apply State.Within.ite | apply State.Within.put
  all_goals first
    | assumption
theorem State.Within.csEnd {r0 s : State} {Zs : List Zone} (code : Nat) (h_free : .free ∈ Zs) (h_mem : .mem ∈ Zs)
    (hp10 : .page 10 ∈ Zs) (hp12 : .page 12 ∈ Zs) (h0 : r0.Within s Zs) :
    r0.Within (State.csEnd s code) Zs := by
  unfold State.csEnd
  repeat' with_reducible first
    | assumption | apply State.Within.ite | apply State.Within.logPush | apply State.Within.csToIdle
    | apply State.Within.put
  all_goals first
    | assumption
theorem State.Within.csEndRaised {r0 s : State} {Zs : List Zone} (code : Nat) (h_coll : .coll ∈ Zs)
    (h_free : .free ∈ Zs) (h_mem : .mem ∈ Zs) (hp10 : .page 10 ∈ Zs) (hp12 : .page 12 ∈ Zs) (h0 : r0.Within s Zs) :
    r0.Within (State.csEndRaised s code) Zs := by
  unfold State.csEndRaised
  repeat' with_reducible first
    | assumption | apply State.Within.ite | apply State.Within.raiseAll | apply State.Within.csEnd
theorem State.Within.hostPropose {r0 s : State} {Zs : List Zone} (way : Nat) (h_coll : .coll ∈ Zs) (h_cs : .cs ∈ Zs)
    (hp12 : .page 12 ∈ Zs) (h0 : r0.Within s Zs) :
    r0.Within (State.hostPropose s way) Zs := by
  unfold State.hostPropose
  repeat' with_reducible first
    | assumption | apply State.Within.ite | apply State.Within.csRefuse | apply State.Within.csAccept | split
theorem State.Within.confirmation {r0 s : State} {Zs : List Zone} (value required : Nat) (h_coll : .coll ∈ Zs)
    (h_cs : .cs ∈ Zs) (h_free : .free ∈ Zs) (h_mem : .mem ∈ Zs) (hp10 : .page 10 ∈ Zs) (hp12 : .page 12 ∈ Zs)
    (h0 : r0.Within s Zs) :
    r0.Within (State.confirmation s value required) Zs := by
  unfold State.confirmation
  repeat' with_reducible first
    | assumption | apply State.Within.ite | apply State.Within.csEndRaised | apply State.Within.modCs
    | apply State.Within.put
  all_goals first
    | assumption
theorem State.Within.hostConfirm {r0 s : State} {Zs : List Zone} (h_coll : .coll ∈ Zs) (h_cs : .cs ∈ Zs)
    (h_free : .free ∈ Zs) (h_mem : .mem ∈ Zs) (hp10 : .page 10 ∈ Zs) (hp12 : .page 12 ∈ Zs) (h0 : r0.Within s Zs) :
    r0.Within (State.hostConfirm s) Zs := by
  unfold State.hostConfirm
  repeat' with_reducible first
    | assumption | apply State.Within.ite | apply State.Within.confirmation
theorem State.Within.pilotConfirm {r0 s : State} {Zs : List Zone} (h_coll : .coll ∈ Zs) (h_cs : .cs ∈ Zs)
    (h_free : .free ∈ Zs) (h_mem : .mem ∈ Zs) (hp10 : .page 10 ∈ Zs) (hp12 : .page 12 ∈ Zs) (h0 : r0.Within s Zs) :
    r0.Within (State.pilotConfirm s) Zs := by
  unfold State.pilotConfirm
  repeat' with_reducible first
    | assumption | apply State.Within.ite | apply State.Within.raiseAll | apply State.Within.confirmation
    | apply State.Within.put | apply State.Within.setb
  all_goals first
    | assumption
theorem State.Within.hostWithdraw {r0 s : State} {Zs : List Zone} (h_free : .free ∈ Zs) (h_mem : .mem ∈ Zs)
    (hp10 : .page 10 ∈ Zs) (hp12 : .page 12 ∈ Zs) (h0 : r0.Within s Zs) :
    r0.Within (State.hostWithdraw s) Zs := by
  unfold State.hostWithdraw
  repeat' with_reducible first
    | assumption | apply State.Within.ite | apply State.Within.csEnd
theorem State.Within.csCommand {r0 s : State} {Zs : List Zone} (v : Word) (h_coll : .coll ∈ Zs) (h_cs : .cs ∈ Zs)
    (h_free : .free ∈ Zs) (h_mem : .mem ∈ Zs) (hp10 : .page 10 ∈ Zs) (hp12 : .page 12 ∈ Zs) (h0 : r0.Within s Zs) :
    r0.Within (State.csCommand s v) Zs := by
  unfold State.csCommand
  repeat' with_reducible first
    | assumption | apply State.Within.ite | apply State.Within.hostPropose | apply State.Within.hostConfirm
    | apply State.Within.pilotConfirm | apply State.Within.hostWithdraw
theorem State.Within.brakeRelease {r0 s : State} {Zs : List Zone} (q : Quay) (hp1 : .page 1 ∈ Zs)
    (h0 : r0.Within s Zs) :
    r0.Within (State.brakeRelease s q) Zs := by
  unfold State.brakeRelease
  repeat' with_reducible first
    | assumption | apply State.Within.ite | apply State.Within.clrb | split
  all_goals first
    | assumption
theorem State.Within.csStage {r0 s : State} {Zs : List Zone} (l : List (Nat × Word)) (node pid : Nat)
    (hl : l.length ≤ 16) (hp12 : .page 12 ∈ Zs) (h0 : r0.Within s Zs) :
    r0.Within (State.csStage s l node pid) Zs := by
  unfold State.csStage
  refine .wr _ _ (regZone_page CS_PNODE 12 (by decide) (by decide) (by decide) ▸ hp12)
    (.wr _ _ (regZone_page CS_PCNT 12 (by decide) (by decide) (by decide) ▸ hp12) (.wrs _ (fun p hp => ?_) h0))
  simp only [List.mem_flatMap, List.mem_cons, List.not_mem_nil, or_false] at hp
  obtain ⟨q, hq, e⟩ := hp
  have hlt : q.2 < 16 := lt_of_lt_of_le (by have := List.snd_lt_add_of_mem_zipIdx hq; omega) hl
  rcases e with rfl | rfl
  · rw [regZone_add CS_PADR0 q.2 12 16 hlt (by decide) (by decide) (by decide)]; exact hp12
  · rw [regZone_add CS_PVAL0 q.2 12 16 hlt (by decide) (by decide) (by decide)]; exact hp12
theorem State.Within.csAnswer {r0 s : State} {Zs : List Zone} (f : MFrame) (code : Nat) (h_moor : .moor ∈ Zs)
    (h0 : r0.Within s Zs) :
    r0.Within (State.csAnswer s f code) Zs := by
  unfold State.csAnswer
  repeat' with_reducible first
    | assumption | apply State.Within.ite | apply State.Within.originate
theorem State.Within.sendProposal {r0 s : State} {Zs : List Zone} (h_cs : .cs ∈ Zs) (h_moor : .moor ∈ Zs)
    (h0 : r0.Within s Zs) :
    r0.Within (State.sendProposal s) Zs := by
  unfold State.sendProposal
  repeat' with_reducible first
    | assumption | apply State.Within.ite | apply State.Within.originate | apply State.Within.forAll
    | apply State.Within.modCs | intro _ _ _
theorem State.Within.sendConfirm {r0 s : State} {Zs : List Zone} (h_moor : .moor ∈ Zs) (h0 : r0.Within s Zs) :
    r0.Within (State.sendConfirm s) Zs := by
  unfold State.sendConfirm
  repeat' with_reducible first
    | assumption | apply State.Within.ite | apply State.Within.originate
theorem State.Within.sendWithdraw {r0 s : State} {Zs : List Zone} (h_moor : .moor ∈ Zs) (h0 : r0.Within s Zs) :
    r0.Within (State.sendWithdraw s) Zs := by
  unfold State.sendWithdraw
  repeat' with_reducible first
    | assumption | apply State.Within.ite | apply State.Within.originate
theorem State.Within.csTransmit {r0 s : State} {Zs : List Zone} (v : Word) (h_cs : .cs ∈ Zs) (h_moor : .moor ∈ Zs)
    (h0 : r0.Within s Zs) :
    r0.Within (State.csTransmit s v) Zs := by
  unfold State.csTransmit
  repeat' with_reducible first
    | assumption | apply State.Within.ite | apply State.Within.sendProposal | apply State.Within.sendConfirm
    | apply State.Within.sendWithdraw

/-! ### Supply -/

theorem State.Within.monitorOn {r0 s : State} {Zs : List Zone} (b src : Nat) (h_coll : .coll ∈ Zs)
    (hp1 : .page 1 ∈ Zs) (h0 : r0.Within s Zs) :
    r0.Within (State.monitorOn s b src) Zs := by
  unfold State.monitorOn
  repeat' with_reducible first
    | assumption | apply State.Within.ite | apply State.Within.raiseAll | apply State.Within.setb
  all_goals first
    | assumption
theorem State.Within.sagTenders {r0 s : State} {Zs : List Zone} (hT : ∀ u, .tender u ∈ Zs) (hp12 : .page 12 ∈ Zs)
    (h0 : r0.Within s Zs) :
    r0.Within (State.sagTenders s) Zs := by
  unfold State.sagTenders
  repeat' with_reducible first
    | assumption | apply State.Within.ite | apply State.Within.tenderStop | apply State.Within.forAll
    | apply State.Within.tputb | intro _ _ _
  all_goals first
    | assumption
    | exact hT _
    | decide
theorem State.Within.sagPolicy {r0 s : State} {Zs : List Zone} (hB : ∀ m, .berth m ∈ Zs) (hT : ∀ u, .tender u ∈ Zs)
    (h_coll : .coll ∈ Zs) (h_dev : .dev ∈ Zs) (h_dock : .dock ∈ Zs) (h_free : .free ∈ Zs) (h_mem : .mem ∈ Zs)
    (hp1 : .page 1 ∈ Zs) (hp12 : .page 12 ∈ Zs) (h0 : r0.Within s Zs) :
    r0.Within (State.sagPolicy s) Zs := by
  unfold State.sagPolicy
  repeat' with_reducible first
    | assumption | apply State.Within.ite | apply State.Within.stopRequest | apply State.Within.logFlush
    | apply State.Within.sagTenders | apply State.Within.clrb | apply State.Within.forAll | apply State.Within.modDev
    | intro _ _ _
  all_goals first
    | assumption
    | exact hB _
theorem State.Within.sagRelease {r0 s : State} {Zs : List Zone} (h_dev : .dev ∈ Zs) (hp1 : .page 1 ∈ Zs)
    (h0 : r0.Within s Zs) :
    r0.Within (State.sagRelease s) Zs := by
  unfold State.sagRelease
  repeat' with_reducible first
    | assumption | apply State.Within.ite | apply State.Within.clrb | apply State.Within.modDev
  all_goals first
    | assumption
theorem State.Within.sleepEntry {r0 s : State} {Zs : List Zone} (hB : ∀ m, .berth m ∈ Zs) (h_coll : .coll ∈ Zs)
    (h_dev : .dev ∈ Zs) (h_dock : .dock ∈ Zs) (hp12 : .page 12 ∈ Zs) (h0 : r0.Within s Zs) :
    r0.Within (State.sleepEntry s) Zs := by
  unfold State.sleepEntry
  repeat' with_reducible first
    | assumption | apply State.Within.ite | apply State.Within.stopRequest | apply State.Within.forAll
    | apply State.Within.modDev | intro _ _ _
  all_goals first
    | assumption
    | exact hB _
theorem State.Within.enterService {r0 s : State} {Zs : List Zone} (hB : ∀ m, .berth m ∈ Zs) (hT : ∀ u, .tender u ∈ Zs)
    (h_coll : .coll ∈ Zs) (h_dev : .dev ∈ Zs) (h_dock : .dock ∈ Zs) (h_free : .free ∈ Zs) (h_mem : .mem ∈ Zs)
    (h_moor : .moor ∈ Zs) (hp1 : .page 1 ∈ Zs) (hp12 : .page 12 ∈ Zs) (hp13 : .page 13 ∈ Zs) (h_quays : .quays ∈ Zs)
    (h0 : r0.Within s Zs) :
    r0.Within (State.enterService s) Zs := by
  unfold State.enterService
  repeat' with_reducible first
    | assumption | apply State.Within.ite | apply State.Within.raise | apply State.Within.settle
    | apply State.Within.trip | apply State.Within.tripPin | apply State.Within.chopApply
    | apply State.Within.putMfState | apply State.Within.sagPolicy | apply State.Within.foldl
    | apply State.Within.forAll | apply State.Within.modCtl | apply State.Within.modDem | apply State.Within.modDev
    | apply State.Within.modMoor | intro _ _ _
  all_goals first
    | assumption
    | exact hB _

/-! ### Loader -/

theorem State.Within.commitReference {r0 s : State} {Zs : List Zone} (h_coll : .coll ∈ Zs) (hp13 : .page 13 ∈ Zs)
    (hp2 : .page 2 ∈ Zs) (h0 : r0.Within s Zs) :
    r0.Within (State.commitReference s) Zs := by
  unfold State.commitReference
  repeat' with_reducible first
    | assumption | apply State.Within.ite | apply State.Within.raiseAll | apply State.Within.putMfState
    | apply State.Within.clrb | apply State.Within.setb
  all_goals first
    | assumption
theorem State.Within.mfCmd {r0 s : State} {Zs : List Zone} (h_load : .load ∈ Zs) (h_mem : .mem ∈ Zs)
    (hp13 : .page 13 ∈ Zs) (h0 : r0.Within s Zs) :
    r0.Within (State.mfCmd s) Zs := by
  unfold State.mfCmd
  refine .readHeaders h_load h_mem (.putMfState _ hp13 (.wrs _ (fun p hp => ?_) h0))
  simp only [List.mem_map, List.mem_range] at hp
  obtain ⟨k, hk, rfl⟩ := hp
  exact regZone_add MF_SLOTAR k 13 6 hk (by decide) (by decide) (by decide) ▸ hp13
theorem State.Within.keyCmd {r0 s : State} {Zs : List Zone} (hp13 : .page 13 ∈ Zs) (h0 : r0.Within s Zs) :
    r0.Within (State.keyCmd s) Zs := by
  unfold State.keyCmd
  repeat' with_reducible first
    | assumption | apply State.Within.ite | apply State.Within.putMfState

/-! ### Drydock -/

theorem State.Within.ddPhase {r0 s : State} {Zs : List Zone} (n : Berth) (v : Nat) (hp12 : .page 12 ∈ Zs)
    (h0 : r0.Within s Zs) :
    r0.Within (State.ddPhase s n v) Zs := by
  unfold State.ddPhase
  repeat' with_reducible first
    | assumption | apply State.Within.ite | apply State.Within.put
  all_goals first
    | assumption
    | decide
    | exact lt_of_lt_of_le (Nat.add_lt_add_left (Phase.idx_lt _) _) (by decide)
    | exact lt_of_lt_of_le (Nat.add_lt_add_left (switchIdx_lt _ _) _) (by decide)
    | (rw [regZone_add _ _ 12 12 (Fin.isLt _) (by decide) (by decide) (by decide)]; assumption)
theorem State.Within.partPhase {r0 s : State} {Zs : List Zone} (p : Part) (v : Nat) (hp12 : .page 12 ∈ Zs)
    (h0 : r0.Within s Zs) :
    r0.Within (State.partPhase s p v) Zs := by
  unfold State.partPhase
  repeat' with_reducible first
    | assumption | apply State.Within.ite | apply State.Within.ddPhase | split
theorem State.Within.dockEnd {r0 s : State} {Zs : List Zone} (p : Part) (h_free : .free ∈ Zs) (h_mem : .mem ∈ Zs)
    (hp10 : .page 10 ∈ Zs) (h0 : r0.Within s Zs) :
    r0.Within (State.dockEnd s p) Zs := by
  unfold State.dockEnd
  repeat' with_reducible first
    | assumption | apply State.Within.ite | apply State.Within.logPush
theorem State.Within.raiseDock {r0 s : State} {Zs : List Zone} (src adr : Nat) (p : Part) (h_coll : .coll ∈ Zs)
    (h0 : r0.Within s Zs) :
    r0.Within (State.raiseDock s src adr p) Zs := by
  unfold State.raiseDock
  repeat' with_reducible first
    | assumption | apply State.Within.ite | apply State.Within.raise
theorem State.Within.dockBerth {r0 s : State} {Zs : List Zone} (n : Berth) (hb : .berth n ∈ Zs) (h_coll : .coll ∈ Zs)
    (h_dock : .dock ∈ Zs) (h_host : .host ∈ Zs) (hp12 : .page 12 ∈ Zs) (h0 : r0.Within s Zs) :
    r0.Within (State.dockBerth s n) Zs := by
  unfold State.dockBerth
  repeat' with_reducible first
    | assumption | apply State.Within.ite | apply State.Within.setState | apply State.Within.stopNow
    | apply State.Within.beginStop | apply State.Within.ddPhase | apply State.Within.modHost
theorem State.Within.dockLane {r0 s : State} {Zs : List Zone} (l : Fin 5) (h_dock : .dock ∈ Zs) (hp12 : .page 12 ∈ Zs)
    (hp14 : .page 14 ∈ Zs) (h0 : r0.Within s Zs) :
    r0.Within (State.dockLane s l) Zs := by
  unfold State.dockLane
  repeat' with_reducible first
    | assumption | apply State.Within.ite | apply State.Within.ddProgress | apply State.Within.putLane
    | apply State.Within.swapLane | apply State.Within.modDock
theorem State.Within.dockTender {r0 s : State} {Zs : List Zone} (t : Tender) (ht : .tender t ∈ Zs)
    (hp12 : .page 12 ∈ Zs) (h0 : r0.Within s Zs) :
    r0.Within (State.dockTender s t) Zs := by
  unfold State.dockTender
  repeat' with_reducible first
    | assumption | apply State.Within.ite | apply State.Within.ddProgress | apply State.Within.setTd
    | apply State.Within.modTender
theorem State.Within.dockMemory {r0 s : State} {Zs : List Zone} (h_mem : .mem ∈ Zs) (hp10 : .page 10 ∈ Zs)
    (hp12 : .page 12 ∈ Zs) (h0 : r0.Within s Zs) :
    r0.Within (State.dockMemory s) Zs := by
  unfold State.dockMemory
  repeat' with_reducible first
    | assumption | apply State.Within.ite | apply State.Within.ddProgress | apply State.Within.modLog
    | apply State.Within.modMem | apply State.Within.put
  all_goals first
    | assumption
theorem State.Within.dockPart {r0 s : State} {Zs : List Zone} (p : Part) (hB : ∀ m, .berth m ∈ Zs)
    (hT : ∀ u, .tender u ∈ Zs) (h_coll : .coll ∈ Zs) (h_dock : .dock ∈ Zs) (h_host : .host ∈ Zs) (h_mem : .mem ∈ Zs)
    (h_moor : .moor ∈ Zs) (hp10 : .page 10 ∈ Zs) (hp12 : .page 12 ∈ Zs) (hp14 : .page 14 ∈ Zs) (h0 : r0.Within s Zs) :
    r0.Within (State.dockPart s p) Zs := by
  unfold State.dockPart
  repeat' with_reducible first
    | assumption | apply State.Within.ite | apply State.Within.ddProgress | apply State.Within.dockBerth
    | apply State.Within.dockLane | apply State.Within.dockTender | apply State.Within.dockMemory
    | apply State.Within.modMoor | split
  all_goals first
    | assumption
    | exact hB _
    | exact hT _
theorem State.Within.undockBerth {r0 s : State} {Zs : List Zone} (n : Berth) (hb : .berth n ∈ Zs)
    (h_dock : .dock ∈ Zs) (hp12 : .page 12 ∈ Zs) (h0 : r0.Within s Zs) :
    r0.Within (State.undockBerth s n) Zs := by
  unfold State.undockBerth
  repeat' with_reducible first
    | assumption | apply State.Within.ite | apply State.Within.settle | apply State.Within.reEnableAll
    | apply State.Within.setState | apply State.Within.restoreChannels | apply State.Within.ddPhase
    | apply State.Within.modBerth | apply State.Within.modDock
theorem State.Within.undockTender {r0 s : State} {Zs : List Zone} (t : Tender) (ht : .tender t ∈ Zs)
    (h_free : .free ∈ Zs) (h_mem : .mem ∈ Zs) (hp10 : .page 10 ∈ Zs) (hp12 : .page 12 ∈ Zs) (h0 : r0.Within s Zs) :
    r0.Within (State.undockTender s t) Zs := by
  unfold State.undockTender
  repeat' with_reducible first
    | assumption | apply State.Within.ite | apply State.Within.ddProgress | apply State.Within.setTd
    | apply State.Within.dockEnd
theorem State.Within.undockMemory {r0 s : State} {Zs : List Zone} (h_free : .free ∈ Zs) (h_mem : .mem ∈ Zs)
    (hp10 : .page 10 ∈ Zs) (hp12 : .page 12 ∈ Zs) (h0 : r0.Within s Zs) :
    r0.Within (State.undockMemory s) Zs := by
  unfold State.undockMemory
  repeat' with_reducible first
    | assumption | apply State.Within.ite | apply State.Within.ddProgress | apply State.Within.logPump
    | apply State.Within.logSettleOff | apply State.Within.logMount | apply State.Within.dockEnd
    | apply State.Within.modMem | apply State.Within.put
  all_goals first
    | assumption
theorem State.Within.undockPart {r0 s : State} {Zs : List Zone} (p : Part) (hB : ∀ m, .berth m ∈ Zs)
    (hT : ∀ u, .tender u ∈ Zs) (h_dock : .dock ∈ Zs) (h_free : .free ∈ Zs) (h_mem : .mem ∈ Zs)
    (h_moor : .moor ∈ Zs) (hp10 : .page 10 ∈ Zs) (hp12 : .page 12 ∈ Zs) (hp14 : .page 14 ∈ Zs) (h0 : r0.Within s Zs) :
    r0.Within (State.undockPart s p) Zs := by
  unfold State.undockPart
  repeat' with_reducible first
    | assumption | apply State.Within.ite | apply State.Within.ddProgress | apply State.Within.putLane
    | apply State.Within.dockEnd | apply State.Within.undockBerth | apply State.Within.undockTender
    | apply State.Within.undockMemory | apply State.Within.modDock | apply State.Within.modMoor | split
  all_goals first
    | assumption
    | exact hB _
    | exact hT _
theorem State.Within.trialFails {r0 s : State} {Zs : List Zone} (n : Berth) (hb : .berth n ∈ Zs) (h_coll : .coll ∈ Zs)
    (h_dock : .dock ∈ Zs) (h_free : .free ∈ Zs) (h_mem : .mem ∈ Zs) (hp10 : .page 10 ∈ Zs) (hp12 : .page 12 ∈ Zs)
    (h0 : r0.Within s Zs) :
    r0.Within (State.trialFails s n) Zs := by
  unfold State.trialFails
  repeat' with_reducible first
    | assumption | apply State.Within.ite | apply State.Within.stopNow | apply State.Within.ddPhase
    | apply State.Within.dockEnd | apply State.Within.raiseDock | apply State.Within.wr
  all_goals first
    | assumption
theorem State.Within.trialPasses {r0 s : State} {Zs : List Zone} (n : Berth) (hb : .berth n ∈ Zs)
    (h_free : .free ∈ Zs) (h_host : .host ∈ Zs) (h_mem : .mem ∈ Zs) (hp10 : .page 10 ∈ Zs) (hp12 : .page 12 ∈ Zs)
    (h0 : r0.Within s Zs) :
    r0.Within (State.trialPasses s n) Zs := by
  unfold State.trialPasses
  repeat' with_reducible first
    | assumption | apply State.Within.ite | apply State.Within.ddProgress | apply State.Within.setState
    | apply State.Within.ddPhase | apply State.Within.dockEnd | apply State.Within.modHost
    | apply State.Within.modStart
theorem State.Within.selftestPart {r0 s : State} {Zs : List Zone} (p : Part) (h_dock : .dock ∈ Zs)
    (hp12 : .page 12 ∈ Zs) (h0 : r0.Within s Zs) :
    r0.Within (State.selftestPart s p) Zs := by
  unfold State.selftestPart
  repeat' with_reducible first
    | assumption | apply State.Within.ite | apply State.Within.partPhase | apply State.Within.modDock
theorem State.Within.retireLane {r0 s : State} {Zs : List Zone} (l : Fin 5) (h_coll : .coll ∈ Zs)
    (hp14 : .page 14 ∈ Zs) (h0 : r0.Within s Zs) :
    r0.Within (State.retireLane s l) Zs := by
  unfold State.retireLane
  repeat' with_reducible first
    | assumption | apply State.Within.ite | apply State.Within.putLane | apply State.Within.raiseLane
    | apply State.Within.setb
  all_goals first
    | assumption
theorem State.Within.selftestResult {r0 s : State} {Zs : List Zone} (p : Part) (r : SelfTest) (h_coll : .coll ∈ Zs)
    (hp12 : .page 12 ∈ Zs) (hp14 : .page 14 ∈ Zs) (h0 : r0.Within s Zs) :
    r0.Within (State.selftestResult s p r) Zs := by
  unfold State.selftestResult
  repeat' with_reducible first
    | assumption | apply State.Within.ite | apply State.Within.put | apply State.Within.setb
    | apply State.Within.retireLane | split
  all_goals first
    | assumption
    | decide
    | (rw [regZone_add _ _ 12 12 (Fin.isLt _) (by decide) (by decide) (by decide)]; assumption)
theorem State.Within.reloadPart {r0 s : State} {Zs : List Zone} (p : Part) (slot : Nat) (h_dock : .dock ∈ Zs)
    (h_load : .load ∈ Zs) (h_mem : .mem ∈ Zs) (hp12 : .page 12 ∈ Zs) (h0 : r0.Within s Zs) :
    r0.Within (State.reloadPart s p slot) Zs := by
  unfold State.reloadPart
  repeat' with_reducible first
    | assumption | apply State.Within.ite | apply State.Within.modDock | apply State.Within.partPhase
    | apply State.Within.startReads
theorem State.Within.cancelHold {r0 s : State} {Zs : List Zone} (n : Berth) (h_host : .host ∈ Zs)
    (hp12 : .page 12 ∈ Zs) (h0 : r0.Within s Zs) :
    r0.Within (State.cancelHold s n) Zs := by
  unfold State.cancelHold
  repeat' with_reducible first
    | assumption | apply State.Within.ite | apply State.Within.ddProgress | apply State.Within.modHost
theorem State.Within.ddCommand {r0 s : State} {Zs : List Zone} (v : Word) (hB : ∀ m, .berth m ∈ Zs)
    (hT : ∀ u, .tender u ∈ Zs) (h_coll : .coll ∈ Zs) (h_dock : .dock ∈ Zs) (h_free : .free ∈ Zs) (h_host : .host ∈ Zs)
    (h_load : .load ∈ Zs) (h_mem : .mem ∈ Zs) (h_moor : .moor ∈ Zs) (hp10 : .page 10 ∈ Zs) (hp12 : .page 12 ∈ Zs)
    (hp14 : .page 14 ∈ Zs) (h0 : r0.Within s Zs) :
    r0.Within (State.ddCommand s v) Zs := by
  unfold State.ddCommand
  repeat' with_reducible first
    | assumption | apply State.Within.ite | apply State.Within.wr | apply State.Within.logPush
    | apply State.Within.dockPart | apply State.Within.undockPart | apply State.Within.selftestPart
    | apply State.Within.reloadPart | apply State.Within.cancelHold | split
  all_goals first
    | assumption

/-! ### Writes -/

theorem State.Within.putKeyw {r0 s : State} {Zs : List Zone} (k : Nat) (v : Word) (h_load : .load ∈ Zs)
    (h0 : r0.Within s Zs) :
    r0.Within (State.putKeyw s k v) Zs := by
  unfold State.putKeyw
  repeat' with_reducible first
    | assumption | apply State.Within.ite | apply State.Within.loadPart
theorem State.Within.writeLogCtl {r0 s : State} {Zs : List Zone} (v : Word) (h_mem : .mem ∈ Zs) (hp10 : .page 10 ∈ Zs)
    (h0 : r0.Within s Zs) :
    r0.Within (State.writeLogCtl s v) Zs := by
  unfold State.writeLogCtl
  repeat' with_reducible first
    | assumption | apply State.Within.ite | apply State.Within.wr | apply State.Within.endJobs
    | apply State.Within.modLog | apply State.Within.mountReads | apply State.Within.logMount
    | apply State.Within.logDisable
  all_goals first
    | assumption
theorem State.Within.writeLogCmd {r0 s : State} {Zs : List Zone} (v : Word) (h_dev : .dev ∈ Zs) (h_free : .free ∈ Zs)
    (h_mem : .mem ∈ Zs) (hp10 : .page 10 ∈ Zs) (h0 : r0.Within s Zs) :
    r0.Within (State.writeLogCmd s v) Zs := by
  unfold State.writeLogCmd
  repeat' with_reducible first
    | assumption | apply State.Within.ite | apply State.Within.hostFlush | apply State.Within.logSaveTh
    | apply State.Within.logSavePar | apply State.Within.logTrig
theorem State.Within.tenderClear {r0 s : State} {Zs : List Zone} (t : Tender) (ht : .tender t ∈ Zs)
    (hp12 : .page 12 ∈ Zs) (h0 : r0.Within s Zs) :
    r0.Within (State.tenderClear s t) Zs := by
  unfold State.tenderClear
  repeat' with_reducible first
    | assumption | apply State.Within.ite | apply State.Within.setTd | apply State.Within.tput
    | apply State.Within.tputb
  all_goals first
    | assumption
    | decide
theorem State.Within.writePwmCtl {r0 s : State} {Zs : List Zone} (n : Berth) (v : Word) (hb : .berth n ∈ Zs)
    (h_coll : .coll ∈ Zs) (h_dock : .dock ∈ Zs) (hp12 : .page 12 ∈ Zs) (h0 : r0.Within s Zs) :
    r0.Within (State.writePwmCtl s n v) Zs := by
  unfold State.writePwmCtl
  repeat' with_reducible first
    | assumption | apply State.Within.ite | apply State.Within.disableEn | apply State.Within.enableEn
    | apply State.Within.bwr
  all_goals first
    | assumption
    | decide
theorem State.Within.writeDislvl {r0 s : State} {Zs : List Zone} (n : Berth) (v : Word) (hb : .berth n ∈ Zs)
    (h_coll : .coll ∈ Zs) (h_dock : .dock ∈ Zs) (hp12 : .page 12 ∈ Zs) (h0 : r0.Within s Zs) :
    r0.Within (State.writeDislvl s n v) Zs := by
  unfold State.writeDislvl
  repeat' with_reducible first
    | assumption | apply State.Within.ite | apply State.Within.bwr | apply State.Within.reEnableDis
    | apply State.Within.settle
  all_goals first
    | assumption
    | decide
theorem State.Within.writeSenseCtl {r0 s : State} {Zs : List Zone} (n : Berth) (v : Word) (hb : .berth n ∈ Zs)
    (h0 : r0.Within s Zs) :
    r0.Within (State.writeSenseCtl s n v) Zs := by
  unfold State.writeSenseCtl
  repeat' with_reducible first
    | assumption | apply State.Within.ite | apply State.Within.bputb | apply State.Within.bset
    | apply State.Within.bwr | apply State.Within.modPwm
  all_goals first
    | assumption
    | decide
theorem State.Within.homeWrite {r0 s : State} {Zs : List Zone} (n : Berth) (hb : .berth n ∈ Zs) (h_coll : .coll ∈ Zs)
    (h_dock : .dock ∈ Zs) (hp12 : .page 12 ∈ Zs) (h0 : r0.Within s Zs) :
    r0.Within (State.homeWrite s n) Zs := by
  unfold State.homeWrite
  repeat' with_reducible first
    | assumption | apply State.Within.ite | apply State.Within.disableEn | apply State.Within.home

/-! ### HostPort -/

theorem State.Within.noteFrame {r0 s : State} {Zs : List Zone} (h_dev : .dev ∈ Zs) (h0 : r0.Within s Zs) :
    r0.Within (State.noteFrame s) Zs := by
  unfold State.noteFrame
  repeat' with_reducible first
    | assumption | apply State.Within.ite | apply State.Within.modDev
theorem State.Within.rejectFrame {r0 s : State} {Zs : List Zone} (reason seq op : Nat) (h_coll : .coll ∈ Zs)
    (h_dev : .dev ∈ Zs) (h_host : .host ∈ Zs) (hp9 : .page 9 ∈ Zs) (h0 : r0.Within s Zs) :
    r0.Within (State.rejectFrame s reason seq op) Zs := by
  unfold State.rejectFrame
  repeat' with_reducible first
    | assumption | apply State.Within.ite | apply State.Within.setb | apply State.Within.wr
    | apply State.Within.incSat | apply State.Within.modHost | apply State.Within.noteFrame
    | apply State.Within.raise | split
  all_goals first
    | assumption
theorem State.Within.countFrame {r0 s : State} {Zs : List Zone} (h_dev : .dev ∈ Zs) (hp9 : .page 9 ∈ Zs)
    (h0 : r0.Within s Zs) :
    r0.Within (State.countFrame s) Zs := by
  unfold State.countFrame
  exact .noteFrame h_dev (.putWide _ _ _ (fun i hi => regZone_add HP_FRM0 i 9 2 hi (by decide) (by decide) (by decide) ▸ hp9) h0)
theorem State.Within.acceptEntry {r0 s : State} {Zs : List Zone} (seq : Nat) (e : HEntry) (h_dev : .dev ∈ Zs)
    (h_host : .host ∈ Zs) (hp9 : .page 9 ∈ Zs) (h0 : r0.Within s Zs) :
    r0.Within (State.acceptEntry s seq e) Zs := by
  unfold State.acceptEntry
  repeat' with_reducible first
    | assumption | apply State.Within.ite | apply State.Within.countFrame | apply State.Within.modHost
    | apply State.Within.put
  all_goals first
    | assumption
theorem State.Within.fetchNew {r0 s : State} {Zs : List Zone} (count : Nat) (h_host : .host ∈ Zs)
    (h0 : r0.Within s Zs) :
    r0.Within (State.fetchNew s count) Zs := by
  unfold State.fetchNew
  repeat' with_reducible first
    | assumption | apply State.Within.ite | apply State.Within.modHost
theorem State.Within.acceptFrame {r0 s : State} {Zs : List Zone} (f : RawFrame) (h : Header) (addr seq : Nat)
    (data : List Nat) (h_dev : .dev ∈ Zs) (h_host : .host ∈ Zs) (hp9 : .page 9 ∈ Zs) (h0 : r0.Within s Zs) :
    r0.Within (State.acceptFrame s f h addr seq data) Zs := by
  unfold State.acceptFrame
  repeat' with_reducible first
    | assumption | apply State.Within.ite | apply State.Within.setb | apply State.Within.countFrame
    | apply State.Within.modHost | apply State.Within.fetchNew | apply State.Within.acceptEntry
  all_goals first
    | assumption
theorem State.Within.hostFrame {r0 s : State} {Zs : List Zone} (f : RawFrame) (h_coll : .coll ∈ Zs)
    (h_dev : .dev ∈ Zs) (h_host : .host ∈ Zs) (hp9 : .page 9 ∈ Zs) (h0 : r0.Within s Zs) :
    r0.Within (State.hostFrame s f) Zs := by
  unfold State.hostFrame
  repeat' with_reducible first
    | assumption | apply State.Within.ite | apply State.Within.rejectFrame | apply State.Within.setb
    | apply State.Within.acceptFrame | split
  all_goals first
    | assumption
theorem State.Within.modEntry {r0 s : State} {Zs : List Zone} (k : Nat) (f : HEntry → HEntry) (h_host : .host ∈ Zs)
    (h0 : r0.Within s Zs) :
    r0.Within (State.modEntry s k f) Zs := by
  unfold State.modEntry
  repeat' with_reducible first
    | assumption | apply State.Within.ite | apply State.Within.modHost
theorem State.Within.fenceFor {r0 s : State} {Zs : List Zone} (e : HEntry) (h_coll : .coll ∈ Zs) (h_host : .host ∈ Zs)
    (hp9 : .page 9 ∈ Zs) (h0 : r0.Within s Zs) :
    r0.Within (State.fenceFor s e) Zs := by
  unfold State.fenceFor
  repeat' with_reducible first
    | assumption | apply State.Within.ite | apply State.Within.raise | apply State.Within.modHost
    | apply State.Within.setb
  all_goals first
    | assumption

/-! ### Clock -/

theorem State.Within.tideNext {r0 s : State} {Zs : List Zone} (h_tide : .tide ∈ Zs) (h0 : r0.Within s Zs) :
    r0.Within (State.tideNext s) Zs := by
  unfold State.tideNext
  repeat' with_reducible first
    | assumption | apply State.Within.ite | apply State.Within.modTide
theorem State.Within.tidePeriod {r0 s : State} {Zs : List Zone} (hB : ∀ m, .berth m ∈ Zs) (h_coll : .coll ∈ Zs)
    (h_dock : .dock ∈ Zs) (h_tide : .tide ∈ Zs) (hp12 : .page 12 ∈ Zs) (h0 : r0.Within s Zs) :
    r0.Within (State.tidePeriod s) Zs := by
  unfold State.tidePeriod
  repeat' with_reducible first
    | assumption | apply State.Within.ite | apply State.Within.tideNext | apply State.Within.brakePulse
    | apply State.Within.forAll | intro _ _ _
  all_goals first
    | assumption
    | exact hB _

end Sys2Proof.Machine
end

