-- ==== Sys2Proof/WellFormed.lean ====
section
/-! DEFINITION. Which commands are well formed: the numbers of an operand lie in the widths that the spec gives them.
(Berth, tender, lane, timer and register-value operands carry their bounds in their types.) -/

namespace Sys2Proof

/-- A mooring frame whose fields fit their widths (R488). -/
def MFrame.wf (f : MFrame) : Bool :=
  f.typ < 32 && f.len == f.pay.length && f.len ≤ 32 && f.src < 1024 && f.hops < 1024 && f.dst < 1024 && f.crc < 65536

/-- A host frame whose words fit 18 bits (R415). -/
def RawFrame.wf (f : RawFrame) : Bool := f.words.all (· < 2 ^ 18) && f.partialBits < 18

/-- Converter codes of 18 bits (R225). -/
def RawSet.wf (r : RawSet) : Bool :=
  r.i.toList.all (fun x => -(2 ^ 17) ≤ x && x < 2 ^ 17) && r.v.toList.all (fun x => -(2 ^ 17) ≤ x && x < 2 ^ 17)

/-- The operands of a command lie in their ranges. -/
def Instr.wf : Instr → Bool
  | .nop f | .write f | .read f | .fetch f | .barrier f | .fencerel f | .hostFrameRejected f => f.wf
  | .probe f | .loop f | .ring f | .claim f | .announce f | .rollFrame f | .rolldone f | .time f _ | .demand f
  | .fault f | .ledger f | .interleave f | .csignRecords f | .csignPropose f | .csignConfirm f | .csignWithdraw f
  | .csignResult f => f.wf
  | .registerWrite _ a _ => a < 65536
  | .pendingClear a _ => a < 65536
  | .fabricStall a => a.all fun x => x.2.2 < 65536
  | .resultSet _ r | .conversionTimeout _ _ r => r.wf
  | .selftestDone _ r => r.hi.wf && r.lo.wf
  | .memoryEntryComplete l => l.all (· < 2 ^ 18)
  | .entryRun k _ | .entryComplete k => k < 64
  | _ => true

end Sys2Proof
end

