-- ==== Sys2Proof/Tests/Slice0.lean ====
section
/-! SUPPORT. Tests of the model, and for every statement with hypotheses a theorem that concrete states and operands meet the
hypotheses of each of its clauses. Expected values come from the spec's rules, card tables and worked cases. -/

namespace Sys2Proof.Tests
open Sys2Proof.Machine

/-! ### Small states -/

/-- A manifest that declares every berth (30 nC, 25 kHz) and every tender, three memory devices, and node 5 of a ring. -/
def dcl : Decl where
  sels := [⟨1, 22⟩, ⟨1, 20⟩, ⟨1, 20⟩]
  berths := List.replicate 12 (some ⟨300, 25000, 30⟩)
  tenders := List.replicate 3 (some ⟨80, 400000⟩)
  mooring := some (5, false)

/-- In service with `dcl` in force, the tide on XIN and every berth STOPPED. -/
def idle : State :=
  ({ State.reset with dev := { mode := .service }, load := { decl := some dcl } }).wrs
    ((MF_STAT, 5) :: (TIDE_REFSTAT, 4) :: berthList.map fun n => (ba n BL_STATE, 1))

/-- `s` in device state `m`. -/
def inMode (m : DevMode) (s : State) : State := s.modDev fun d => { d with mode := m }

/-- `s` with berth `n` in state `k` of BL_STATE. -/
def berthIn (n : Berth) (k : Nat) (s : State) : State := s.bput n BL_STATE 3 0 k

/-- `s` with the start program of berth `n` in phase `k` of BO_PHASE, the berth STARTING. -/
def phaseIn (n : Berth) (k : Nat) (s : State) : State := (berthIn n stStarting s).bput n BO_PHASE 3 0 k

/-- `s` with berth `n` RUNNING, its counter at work, enabled. -/
def running (n : Berth) (s : State) : State :=
  ((berthIn n stRunning s).bset n BP_CTL 0).modPwm n fun q => { q with run := .running }

/-- `s` with tender `u` in state `k`. -/
def tenderIn (u : Tender) (k : Nat) (s : State) : State := s.setTd u k

/-- Loading, with the loader in state `k`. -/
def loadingIn (k : Nat) : State := State.reset.put MF_STAT 3 0 k

/-- In service in RING mode, numbered as node 5, and the same in CHAIN mode. -/
def ring : State := ((idle.put ML_STAT 9 8 mlRing).put ML_NODE 13 12 1).put ML_NODE 8 0 5
/-- As `ring`, in CHAIN mode. -/
def chain : State := ring.put ML_STAT 9 8 mlChain

/-- A mooring frame with the check word that R489 gives it. -/
def mframe (typ src dst : Nat) (pay : List Word) : MFrame :=
  { typ := typ, len := pay.length, mark := false, src := src, hops := 0, dst := dst, pay := pay,
    crc := frameCrc typ pay.length src dst pay }

/-- The words of a native host frame (R418 to R421): header, address, data and the check word for sequence number `seq`. -/
def hframe (words : List Nat) (seq : Nat) : RawFrame :=
  { words := words ++ [65536 * seq + crc16 (words.flatMap wordBytes3 ++ [seq])], partialBits := 0, trail := false, clocked := 0 }

/-- A host entry that writes or reads. -/
def entry (kind stream addr count : Nat) (data : List Word) : HEntry :=
  { kind := kind, tag := 0, stream := stream, addr := addr, count := count, data := data }

/-- `s` with one host entry. -/
def withEntry (e : HEntry) (s : State) : State := s.modHost fun h => { h with queue := [e] }

/-! ### The hypotheses of the statements can be met -/

theorem witness_StepRunsFront :
    ({ idle with pending := [.pumpRecover, .heal] } : State).pending = Instr.pumpRecover :: [Instr.heal] := by decide

/-- Berth 3 brakes in bursts, `tb` ticks of low sides in a period, one tide period before a period begins. -/
def bursting (tb : Nat) : State :=
  { (phaseIn 3 4 idle).modStart 3 (fun q => { q with tb := tb }) with tide := { now := 799 } }

theorem witness_EmptyQueuePeriod :
    (idle.pending = [] ∧ idle.awake = true ∧ idle.tide.corr = 0 ∧ idle.tide.phase < 2 ^ 24 ∧
      ∀ n, (idle.starting n && idle.phase n == 4 && !(idle.berth n).start.listening) = false) ∧
    ((inMode .sleep idle).pending = [] ∧ (inMode .sleep idle).awake = false) ∧
    ((bursting 256).pending = [] ∧ (bursting 256).awake = true ∧ (bursting 256).starting 3 = true ∧ (bursting 256).phase 3 = 4 ∧
      ((bursting 256).berth 3).start.listening = false ∧ 256 ≤ ((bursting 256).berth 3).start.tb ∧ 0 < ((bursting 256).alignTD 3).1) ∧
    (∃ t, step (bursting 256) = .next t ∧ t.tide.now = 800 ∧
      (t.tick + ((bursting 256).alignTD 3).1 - ((bursting 256).alignTD 3).2 % ((bursting 256).alignTD 3).1) %
        ((bursting 256).alignTD 3).1 = 0) :=
  ⟨by decide, by decide, by decide, _, rfl, by decide +kernel, by decide +kernel⟩

theorem witness_SoundStatesStaySound :
    State.reset.Sound ∧ ∃ t, step State.reset = .next t :=
  ⟨⟨⟨by decide, by decide⟩, by intro n p; cases p <;> revert n <;> unfold Leg.Safe <;> decide, by unfold TenderSt.Safe; decide⟩, _, rfl⟩

/-- A confirmed proposal that sets TH_FTHR of unit 0 to 130 °C. -/
def confirmed : State :=
  ((((idle.put CS_STAT 1 0 csConfirmed).put CS_STAT 5 4 byHost).put CS_PCNT 4 0 1).wr CS_PADR0 (BitVec.ofNat 18 0x870)).wr
    CS_PVAL0 0x2080

theorem witness_ProtectionSetChanges :
    ∃ t, exec .application confirmed = .next t ∧ t.prot ≠ confirmed.prot := ⟨_, rfl, by decide⟩

theorem witness_KeyIsWrittenOnce :
    (({ idle with key := some 5 } : State).key = some 5 ∧ ∃ t, exec .pumpRecover { idle with key := some 5 } = .next t) ∧
    ∃ t, exec (.keyProgramDone true) ((idle.put MF_STAT 3 0 mfKeyProg).putKeyw 0 7) = .next t ∧ t.key ≠ none :=
  ⟨⟨by decide, _, rfl⟩, _, rfl, by decide⟩

theorem witness_RegisterWrites :
    ((inMode .reset idle).awake = false ∧ idle.writeFails .host [(PWR_SLEEP, 1)] ≠ none) ∧
    (∃ c, cardAt (ba 0 BG_SCTHR) = some c ∧ ∃ f ∈ c.fields, f.acc = .rwl ∧ bits 0x3FFFF f.hi f.lo ≠ bits (idle.prd (ba 0 BG_SCTHR)) f.hi f.lo) ∧
    (idle.awake = true ∧ (cardAt PWR_FLAGS).isSome = true ∧ idle.access.wbufs = []) := by decide

theorem witness_BerthsAreSeparate : (1 : Berth) ≠ 0 ∧
    Instr.pwmStart 0 ∈ [Instr.pwmStart 0, .loadPoint 0, .realignStretchEnd 0, .safeStateTrip 0, .blankWindowEnd 0, .drydockEntry 0,
      .seaTrialFail 0, .seaTrialEnd 0, .demandEvaluation 0, .slip 0, .homingTimeout 0, .homingEndStop 0,
      .brokenSafeStateLine 0] := by decide

/-- In the reset that a wake has caused, with every wake source enabled. -/
def waking (s : State) : State := s.modDev fun d => { d with mode := .reset, wakeCfg := some 0xEFFF }

theorem witness_ResetAndRelease :
    (idle.dev.mode ≠ .unpowered ∧ idle.dev.mode ≠ .sleep ∧ 2000 ≤ 2000 ∧ idle.awake = true) ∧
    ((inMode .sleep (idle.setb PWR_WAKECFG 15)).wakeOn .pin = true ∧ (inMode .sleep (idle.setb PWR_WAKECFG 15)).dev.mode = .sleep) ∧
    ((waking idle).dev.mode = .reset ∧ (waking idle).dev.wakeCfg ≠ none ∧ (waking idle).wakeOn .mooring = true) ∧
    ((inMode .reset idle).dev.mode = .reset ∧ (0x25E71 : Word) ≠ 0x25E70) := by decide

theorem witness_RstnPulseLengths : 499 < 500 ∧ (500 ≤ 500 ∧ 1999 < 2000 ∧ idle.dev.mode ≠ .unpowered) ∧ 2000 ≤ 2000 := by decide

/-- Loading, in loader state `k`; a read of the loader has failed with VIO. -/
def brokeOff (k : Nat) (cands : List Nat) : State := { loadingIn k with load := { cands := cands, lost := true } }

theorem witness_SupplyMonitors :
    (idle.awake = true ∧ idle.flag PWR_STAT 7 = false ∧ idle.canRaise 0x01 = true ∧ (idle.setb PWR_STAT 7).flag PWR_STAT 7 = true) ∧
    (idle.canRaise 0x10 = true ∧ idle.dev.vioOk = true ∧ idle.inService = true ∧ idle.canRaise 0x02 = true ∧ idle.load.lost = false) ∧
    ((brokeOff mfHeaders []).dev.mode = .loading ∧ (brokeOff mfHeaders []).load.lost = true ∧
      (brokeOff mfHeaders []).mfState = mfHeaders) := by decide

/-- The warning has set the sag policy going, and every chosen berth has stopped. -/
def sagging : State := (idle.setb PWR_STAT 8).modDev fun d => { d with sagRun := true, sagHeld := 0x3 }
/-- The policy has run, and the warning has gone. -/
def sagDone : State := (idle.setb PWR_STAT 9).setb PWR_SAGCFG 8

/-- The idle policy is enabled, and the host has been silent for its time. -/
def quiet : State :=
  { idle.setb PWR_SLEEPCFG 17 with tide := { now := idle.get PWR_SLEEPCFG 13 0 * 200000 } }
/-- A sleep entry has stopped tender 1, which is enabled. -/
def entering : State :=
  (((idle.setb PWR_WAKECFG 14).modDev fun d => { d with sleep := .save }).tput 1 TD_CTL 0 0 1).modTender 1 fun x => { x with slept := true }

theorem witness_SagAndSleep :
    (idle.awake = true ∧ idle.flag PWR_STAT 8 = false ∧ idle.canRaise 0x00 = true ∧ idle.inService = true ∧ idle.dev.sagRun = false) ∧
    sagging.flag PWR_STAT 8 = true ∧
    (sagging.dev.sagRun = true ∧ sagging.dev.sagFlush = false ∧ sagging.dev.sagSave = false ∧
      sagging.inMem (· == .thermal) = false ∧
      (∀ n : Berth, sagging.dev.sagHeld.getLsbD n.val = true → sagging.stopDone n = true) ∧
      ∀ u, sagging.tdState u ≠ tdStopDelay ∧ sagging.tdState u ≠ tdStopRamp) ∧
    (sagDone.flag PWR_STAT 8 = false ∧ sagDone.flag PWR_STAT 9 = true ∧ sagDone.flag PWR_SAGCFG 8 = true ∧ sagDone.awake = true) ∧
    (idle.awake = true ∧ idle.dev.sleep = .none ∧ idle.anyDock = false ∧ (running 0 idle).bst 0 = stRunning) ∧
    (quiet.awake = true ∧ quiet.committed = true ∧ quiet.dev.sleep = .none ∧ quiet.anyDock = false ∧ quiet.flag PWR_SLEEPCFG 17 = true ∧
      quiet.uncleared = false ∧ quiet.dev.frameAt + quiet.get PWR_SLEEPCFG 13 0 * 200000 ≤ quiet.tide.now ∧
      ∀ n, (quiet.outOfUse n = true ∨ quiet.bst n = stStopped) ∧ quiet.bget n BD_DEM 16 0 < quiet.bget n BD_ON 16 0) ∧
    (State.reset.committed = false ∧
      ({ idle with coll := { pend := [⟨0x20, 7, 1, 1, 0, 0⟩] } } : State).uncleared = true ∧
      (quiet.modDev fun d => { d with frameAt := 1 }).tide.now <
        (quiet.modDev fun d => { d with frameAt := 1 }).dev.frameAt + quiet.get PWR_SLEEPCFG 13 0 * 200000 ∧
      (idle.bput 3 BD_DEM 16 0 0x10000).bget 3 BD_ON 16 0 ≤ (idle.bput 3 BD_DEM 16 0 0x10000).bget 3 BD_DEM 16 0) ∧
    (0x151EF : Word) ≠ 0x151EE ∧
    ((idle.modDev fun d => { d with sleep := .berths }).dev.sleep = .berths ∧ (∀ n, idle.stopDone n = true) ∧
      (tenderIn 1 tdRegulating idle).tdHere 1 = true ∧ (tenderIn 1 tdRegulating idle).tdState 1 = tdRegulating) ∧
    (∀ u, idle.tdState u = tdOff ∨ idle.tdState u = tdAbsent) ∧ (idle.mem.log.flush = false ∧ idle.inMem (· == .thermal) = false) ∧
    (entering.wakeOn .hcsn = true ∧ entering.awake = true ∧ entering.dev.sleep ≠ .none ∧ (entering.tender 2).slept = false ∧
      entering.tdHere 1 = true ∧ (entering.tender 1).slept = true ∧ entering.tflag 1 TD_CTL 0 = true ∧ entering.tdState 1 = tdOff ∧
      (entering.tender 1).dockWait = false) := by decide

/-- A manifest of generation 7 that declares berth 3 alone: VGD from outside, no reference on XIN, one 4 MB flash. Its digest, CRC
and TAG were computed outside the model (zlib; OpenSSL's CMAC under the all-zero key). -/
def image : List Nat :=
  [0x53, 0x5A, 0x4D, 0x46, 0x01, 0x00, 0xA8, 0x00, 0x00, 0x01, 0x00, 0x00, 0x07] ++
  List.replicate 19 0 ++
  [0xA8, 0x00, 0x00, 0x00, 0x20] ++
  List.replicate 27 0 ++
  [0xC8, 0x00, 0x00, 0x00, 0x14] ++
  List.replicate 91 0 ++
  [0xDC, 0x00, 0x00, 0x00, 0x10, 0x00, 0x00, 0x00, 0xE0, 0x2E, 0x01, 0x02, 0x98, 0x08, 0x64, 0x00, 0x00, 0x00, 0x00, 0x00, 0x01, 0x16] ++
  List.replicate 20 0 ++
  [0x2C, 0x01, 0xA8, 0x61] ++
  List.replicate 26 0 ++
  [0xC0, 0xB6, 0x59, 0x5F] ++
  List.replicate 12 0 ++
  [0x1C, 0x88, 0xF3, 0xED, 0xAE, 0xEC, 0x82, 0x82]

/-- Loading, with both headers in. -/
def headersRead (a b : List Nat) : State := { loadingIn mfHeaders with load := { got := [a, b] } }

/-- The one-time key is blank, the key words hold 7, and the loader has reached NONE. -/
def keyReady : State := ((loadingIn mfNone).putKeyw 0 7)

theorem witness_SlotSelectionAndKey :
    ((loadingIn mfHeaders).dev.mode = .loading ∧ (loadingIn mfHeaders).mfState = mfHeaders ∧ (loadingIn mfHeaders).load.lost = false ∧
      (loadingIn mfHeaders).inMem (· == .loader) = false ∧
      ∀ a ∈ [[], image], ∀ b ∈ [[], image], (headersRead a b).load.got = [a, b] ∧ headerFails [] ≠ [] ∧ headerFails image = []) ∧
    ((loadingIn mfNone).awake = true ∧ (loadingIn mfNone).mfState = mfNone ∧ (0x14D0B : Word) ≠ 0x14D0A) ∧
    (keyReady.awake = true ∧ keyReady.mfState = mfNone ∧ keyReady.key = none ∧ keyReady.keyWords ≠ 0) ∧
    ((loadingIn mfKeyProg).mfState = mfKeyProg ∧ (loadingIn mfKeyProg).key = none) := by decide +kernel

/-- Loading, slot `k` with the bytes `b` to be checked next. -/
def slotReady (k : Nat) (b : List Nat) : State := { loadingIn mfSlot with load := { cands := [k], got := [b] } }

set_option maxRecDepth 1000000 in
theorem witness_SlotCheckCommits :
    (∀ k ∈ [0, 1, 2], ∀ b ∈ [[], image], (slotReady k b).dev.mode = .loading ∧ (slotReady k b).mfState = mfSlot ∧
      (slotReady k b).load.cands = k :: [] ∧ k < 3 ∧ (slotReady k b).image .loader = some b) ∧
    (slotResult [] (slotReady 0 []).compat (slotReady 0 []).key false).1 ≠ 1 ∧
    (slotResult image (slotReady 0 image).compat (slotReady 0 image).key false).1 = 1 := by decide +kernel


/-- Loading with `dcl` in force, waiting for VGD, the reference running and a calibration cycle done. -/
def gateReady : State := { ((loadingIn mfWaitVgd).setb TIDE_CALSTAT 11).clrb TIDE_REFSTAT 3 with load := { decl := some dcl } }

theorem witness_FirstGateRelease :
    (gateReady.dev.mode = .loading ∧ gateReady.mfState = mfWaitVgd ∧ gateReady.refRunning = true ∧
      gateReady.flag TIDE_CALSTAT 11 = true ∧ gateReady.vgdUv .north = false ∧ gateReady.vgdUv .south = false) ∧
    ((gateReady.modColl fun c => { c with brokenL := 1 }).safeLine 0 = true ∧
      ((gateReady.put (ba 0 BL_STATE) 3 0 1).outOfUse 0 = false) ∧
      (gateReady.modDev fun d => { d with sleepLatch := true }).dev.sleepLatch = true ∧ gateReady.canRaise 0x05 = true) ∧
    ((gateReady.setb PWR_VGDSTAT 0).vgdUv .north = true ∧ gateReady.committed = true ∧ gateReady.canRaise 0xE4 = true) := by decide

/-- Committed, and waiting for the reference on the internal oscillator. -/
def refWaiting : State := ((idle.setb TIDE_REFSTAT 3).put MF_STAT 3 0 mfWaitRef)
/-- A calibration runs, `k` steps done. -/
def calibrating (k : Nat) : State := { idle.setb TIDE_CALSTAT 0 with tide := { calStep := k } }

/-- As `calibrating 3`, a group retired already. -/
def calibratingOn : State := { calibrating 3 with tide := { calStep := 3, retired := [4] } }

theorem witness_ReferenceAndCalibration :
    (loadingIn mfRefSearch).searching = true ∧
    (refWaiting.awake = true ∧ refWaiting.refExternal = true ∧ refWaiting.onInternal = true ∧ refWaiting.tide.lost = false ∧
      refWaiting.mfState = mfWaitRef) ∧
    (((loadingIn mfHeaders).clrb TIDE_REFSTAT 3).dev.mode = .loading ∧ ((loadingIn mfHeaders).clrb TIDE_REFSTAT 3).committed = false ∧
      ((loadingIn mfHeaders).clrb TIDE_REFSTAT 3).onInternal = false) ∧
    (idle.awake = true ∧ idle.refExternal = true ∧ idle.onInternal = false ∧ idle.canRaise 0x12 = true) ∧
    ((calibrating 15).awake = true ∧ (calibrating 15).flag TIDE_CALSTAT 0 = true ∧ (calibrating 15).tide.calStep < 16 ∧
      (calibrating 15).tide.retired = [] ∧ 16 < 17) ∧
    ((calibrating 16).mfState ≠ mfRefSearch ∧ ((calibrating 16).put MF_STAT 3 0 mfRefSearch).mfState = mfRefSearch) ∧
    ((calibrating 16).tide.calStep = 16 ∧ (calibrating 16).tide.retired = [] ∧ (calibrating 16).canRaise 0x13 = true) ∧
    (calibratingOn.awake = true ∧ calibratingOn.flag TIDE_CALSTAT 0 = true ∧ calibratingOn.tide.retired ≠ []) := by decide

/-- Watch timer `k` in mode `m` with length 1000, and the same while it runs. -/
def timer (k : Fin 24) (m : Nat) : State := (idle.put (TIDE_WTCFG0 + 2 * k.val) 2 0 m).wr (TIDE_WTCFG0 + 2 * k.val + 1) 1000
/-- As `timer`, running. -/
def timerRuns (k : Fin 24) (m : Nat) : State :=
  (timer k m).modTide fun t => { t with wt := t.wt.set k.val { running := true, len := 1000 } }

theorem witness_WatchTimers :
    ((timer 0 wtOneshot).awake = true ∧ (timer 0 wtOneshot).wtMode 0 = wtOneshot ∧ 1 ≤ (timer 0 wtOneshot).wtLen 0) ∧
    ((timer 23 wtPeriodic).wtMode 23 = wtPeriodic ∧ 1 ≤ (timer 23 wtPeriodic).wtLen 23) ∧
    ((timer 1 wtFree).wtMode 1 = wtFree ∧ (timer 1 wtBlank).wtMode 1 = wtBlank) ∧
    (((timerRuns 17 wtPeriodic).tide.wt.getD 17 {}).running = true ∧ ((timerRuns 18 wtOneshot).tide.wt.getD 18 {}).running = true) ∧
    ((timer 2 wtOneshot).writeFails .host [(TIDE_WTCFG0 + 4, 3)] = none ∧ (timer 2 wtOneshot).wtMode 2 ≠ bits 3 2 0 ∧
      (timer 2 wtOneshot).writeFails .host [(TIDE_WTCFG0 + 4, 2)] = none ∧ (timer 2 wtOneshot).wtMode 2 = bits 2 2 0) := by decide

/-- `running n` with a load armed and PERIOD pending. -/
def armed (n : Berth) : State :=
  ((running n idle).bset n BP_STAT 4).modPwm n fun q => { q with pend := 1 }

theorem witness_ShadowsAndLoads :
    (idle.awake = true ∧ idle.writeFails .host [(ba 3 (shadowOff 0), 0x32000)] = none ∧
      idle.writeFails .host [(ba 3 (shadowOff 9), 0x19000)] = none ∧ (0 : Fin 10) ≠ 9) ∧
    (1 ≤ 1 ∧ 6 ≤ 6 ∧ (running 0 idle).bst 0 = stRunning) ∧
    (((armed 2).modPwm 2 fun q => { q with run := .waiting }).berth 2).pwm.run = .waiting ∧
    ((armed 2).halted = false ∧ ((armed 2).berth 2).pwm.run = .running ∧ (armed 2).bflag 2 BP_STAT 4 = true) ∧
    ((running 2 idle).bflag 2 BP_STAT 4 = false ∧ (running 2 idle).bflag 2 BP_CTL 0 = true ∧ idle.bflag 2 BP_CTL 0 = false) ∧
    ((4 : Word).getLsbD 2 = true ∧ (1 : Word).getLsbD 0 = true ∧ Berth.quay 5 = .north ∧ (2 : Word).getLsbD 1 = true ∧
      Berth.quay 6 = .south) := by decide

theorem witness_PwmEnableAndDisable :
    (idle.awake = true ∧ idle.writeFails .host [(ba 4 BP_CTL, 1)] = none ∧ (1 : Word).getLsbD 0 = true ∧ idle.bflag 4 BP_CTL 0 = false ∧
      0 < idle.bnat 4 BP_PERIODA) ∧
    ((running 4 idle).writeFails .host [(ba 4 BP_CTL, 0)] = none ∧ (0 : Word).getLsbD 0 = false ∧
      (running 4 idle).bflag 4 BP_CTL 0 = true ∧ (running 4 idle).halted = false ∧ (running 4 idle).bflag 4 BP_FORCE 6 = false ∧
      (armed 4).bflag 4 BP_STAT 4 = true ∧ (armed 4).writeFails .host [(ba 4 BP_CTL, 0)] = none) := by decide

/-- `running n` with another run state, and with a stretch due. -/
def runState (n : Berth) (r : PwmRun) (k : Nat) : State := (running n idle).modPwm n fun q => { q with run := r, stretch := k }
/-- Phase `p` of berth 0 between its switches, with command `h`. -/
def between (p : Phase) (h : Bool) : State :=
  (running 0 idle).modLeg 0 p fun l => { l with h := h, bsFirst := true }

theorem witness_CounterEvents :
    (idle.halted = false ∧ ((runState 1 .waiting 0).berth 1).pwm.run = .waiting ∧ ((runState 1 .waiting 0).leg 1 .u).refresh = false) ∧
    (((running 1 idle).berth 1).pwm.run = .running ∧ 0 < 1 ∧ 0x31FFF < ((running 1 idle).berth 1).pwm.force.per) ∧
    (((running 1 idle).berth 1).pwm.stretch = 0 ∧ ((runState 1 .running 5).berth 1).pwm.stretch ≠ 0 ∧
      ((runState 1 .running 5).berth 1).pwm.run = .running) ∧
    ((runState 1 .stretch 0).halted = false ∧ ((runState 1 .stretch 0).berth 1).pwm.run = .stretch) ∧
    ((between .u true).gateRow 0 .u = .pwm ∧ ((between .u true).berth 0).pwm.run = .running ∧ ((between .u true).leg 0 .u).hi = false ∧
      ((between .u true).leg 0 .u).lo = false ∧ ((between .u true).leg 0 .u).h = true ∧ ((between .u true).leg 0 .u).bsFirst = true ∧
      (((between .u true).modLeg 0 .u fun l => { l with bsFirst := false, bsOk := true }).leg 0 .u).bsOk = true ∧
      ((between .u true).leg 0 .u).blockHi ((between .u true).vgdUv (Berth.quay 0)) = false) ∧
    ((between .w false).gateRow 0 .w = .pwm ∧ ((between .w false).leg 0 .w).h = false ∧
      ((between .w false).leg 0 .w).blockLo ((between .w false).vgdUv (Berth.quay 0)) = false) ∧
    ((idle.modLeg 0 .v fun l => { l with hi := true }).leg 0 .v).hi = true := by decide

/-- `idle` with the trip of berth `n` latched by its TRIPN pin, the berth SAFE. -/
def tripped (n : Berth) : State := ((berthIn n stSafe idle).bset n BP_TRIP 6).bset n BP_TRIP causePin
/-- The safe-state line of every berth is asserted. -/
def lined (s : State) : State := s.modColl fun c => { c with brokenL := 0xFFF }
/-- Berth 0 within a blanking window. -/
def blanked (s : State) : State := s.modPwm 0 fun q => { q with blank := some ⟨1000, 2000⟩ }
/-- TRIPNN low. -/
def pinLow (s : State) : State := s.modDev fun d => { d with pins := { d.pins with tripnN := false } }

theorem witness_TripsAndTheirClear :
    ((lined idle).inService = true ∧ (lined idle).outOfUse 0 = false ∧ (lined idle).safeLine 0 = true ∧
      (lined idle).bflag 0 BP_TRIP 6 = false ∧ (lined idle).bst 0 ≠ stUnmooring ∧ (lined idle).bst 0 ≠ stDrydock ∧
      (lined idle).bst 0 ≠ stSeaTrial ∧ (berthIn 0 stUnmooring (lined idle)).bst 0 = stUnmooring) ∧
    ((lined (tripped 0)).safeLine 0 = true ∧ (lined (tripped 0)).bflag 0 BP_TRIP 6 = true) ∧
    ((idle.berth 0).pwm.blank = none ∧ idle.bflag 0 BP_TRIP 6 = false ∧ 40 < 41 ∧ 19 < 20 ∧ idle.canRaise 0x48 = true ∧
      idle.canRaise 0x49 = true) ∧
    (((blanked idle).berth 0).pwm.blank = some ⟨1000, 2000⟩ ∧ (blanked (pinLow idle)).tripLow (Berth.quay 0) = true ∧
      (blanked idle).tripLow (Berth.quay 0) = false) ∧
    ((tripped 0).awake = true ∧ (tripped 0).bflag 0 BP_TRIP 6 = true ∧ (tripped 0).tripLow (Berth.quay 0) = false ∧
      (tripped 0).brakeTrip (Berth.quay 0) = false ∧ (tripped 0).safeLine 0 = false ∧ (tripped 0).bst 0 = stSafe) ∧
    (pinLow (tripped 0)).tripLow (Berth.quay 0) = true := by decide

theorem witness_ForceAndDebugHalt :
    ((phaseIn 0 5 idle).awake = true ∧ (phaseIn 0 5 idle).starting 0 = true ∧ Master.host ≠ .self) ∧
    (idle.starting 0 = false ∧ idle.bst 0 ≠ stDrydock ∧ (0x7F : Word).getLsbD 6 = true) ∧
    ((berthIn 0 stDrydock idle).writeFails .host [(ba 0 BP_FORCE, 0x7F)] = none ∧ (berthIn 0 stDrydock idle).inService = true ∧
      (berthIn 0 stDrydock idle).outOfUse 0 = false ∧ (berthIn 0 stDrydock idle).bflag 0 BP_TRIP 6 = false ∧
      (berthIn 0 stDrydock idle).halted = false ∧ ((berthIn 0 stDrydock idle).bput 0 BP_FORCE 6 0 0x7F).forceCode 0 .u = 3) ∧
    (idle.mfState = mfService ∧ idle.flag MF_STAT 9 = false ∧ (idle.setb MF_STAT 9).flag MF_STAT 9 = true) ∧
    ((idle.setb GLB_DBGHALT 0).awake = true ∧ (idle.setb GLB_DBGHALT 0).halted = true ∧
      ((running 0 (idle.setb GLB_DBGHALT 0)).berth 0).pwm.run ≠ .waiting) := by decide

/-- Adaptive drive of berth 3 on. -/
def adaptive : State := idle.bset 3 BG_CTL 0

theorem witness_EdgeMeasurementSteersCode :
    (idle.inService = true ∧ idle.outOfUse 0 = false ∧ isH 0 = true) ∧
    (adaptive.inService = true ∧ adaptive.outOfUse 3 = false ∧ isH 3 = false ∧ adaptive.bflag 3 BG_CTL 0 = true ∧
      adaptive.bflag 3 BG_CTL 1 = false) := by decide

/-- The pump runs; the high side of phase U of berth 1 is on. -/
def hiOn : State := idle.modLeg 1 .u fun l => { l with hi := true, bsOk := true }

theorem witness_PumpBootstrapAndVgd :
    ((idle.setb PWR_PUMP 0).awake = true ∧ (idle.setb PWR_PUMP 0).flag PWR_PUMP 0 = true ∧ (idle.setb PWR_PUMP 0).flag PWR_PUMP 1 = false ∧
      idle.canRaise 0x43 = true) ∧
    ((idle.leg 1 .u).hi = false ∧ (hiOn.leg 1 .u).hi = true ∧ hiOn.bget 1 BG_BSCNT 4 0 < 15) ∧
    (((hiOn.bput 1 BG_BSCNT 4 0 15).leg 1 .u).hi = true ∧ (hiOn.bput 1 BG_BSCNT 4 0 15).bget 1 BG_BSCNT 4 0 = 15 ∧
      hiOn.outOfUse 1 = false ∧ hiOn.canRaise (0x80 + 8 * 1 + 2) = true) ∧
    (idle.awake = true ∧ Berth.quay 5 = .north ∧ Berth.quay 6 ≠ .north ∧ idle.canRaise 0x41 = true) ∧
    ((inMode .reset idle).awake = false ∧ idle.flag PWR_VGDSTAT 2 = false ∧ idle.canRaise 0x42 = true) := by decide

theorem witness_InterlockAndShortCircuit :
    (idle.inService = true ∧ idle.outOfUse 0 = false ∧ idle.canRaise (0x80 + 1) = true ∧ idle.tdHere 2 = true ∧ idle.canRaise 0x4D = true) ∧
    (hiOn.awake = true ∧ hiOn.vgdUv (Berth.quay 1) = false ∧ (hiOn.leg 1 .u).scBlank = false ∧ (hiOn.leg 1 .u).hi = true ∧
      hiOn.bget 1 BG_SCCNT 2 0 < 7 ∧ (hiOn.bput 1 BG_SCCNT 2 0 7).bget 1 BG_SCCNT 2 0 = 7 ∧ hiOn.canRaise (0x80 + 8) = true) ∧
    (((idle.modLeg 1 .w fun l => { l with lo := true }).leg 1 .w).hi = false ∧
      ((idle.modLeg 1 .w fun l => { l with lo := true }).leg 1 .w).lo = true) ∧
    ((idle.leg 1 .v).scBlank = false ∧ (idle.leg 1 .v).hi = false ∧ (idle.leg 1 .v).lo = false) ∧
    (((hiOn.modLeg 1 .u fun l => { l with scBlank := true }).leg 1 .u).scBlank = true ∧
      ((hiOn.modLeg 1 .u fun l => { l with scBlank := true }).leg 1 .u).hi = true) ∧
    ((hiOn.berth 1).pwm.scFrom = none ∧ (-200000 : Int).natAbs ≤ 4000 * hiOn.scThr 1 ∧ 4000 * hiOn.scThr 1 < (-200001 : Int).natAbs) := by
  decide

/-- Chopper and brake trip of Quay North enabled, and its brake trip asserted. -/
def braked : State := { idle with prot := [(PWR_BRKCTL, 3), (0x123, 5)] }
/-- As `braked`, the brake trip asserted. -/
def brakeOn : State := braked.setb PWR_BRKSTAT 4

theorem witness_Brake :
    (braked.inService = true ∧ braked.vgdUv .north = false ∧ (-131072 : Int) ≤ -131072 ∧ (131071 : Int) ≤ 131071) ∧
    (braked.pflag PWR_BRKCTL 1 = true ∧ braked.brakeTrip .north = false ∧ Berth.quay 5 = .north ∧ braked.outOfUse 5 = false ∧
      braked.bflag 5 BP_TRIP 6 = false ∧ Berth.quay 6 ≠ .north ∧ braked.canRaise 0x44 = true) ∧
    ((brakeOn.setb PWR_BRKSTAT (brkBit 2 .north)).flag PWR_BRKSTAT (brkBit 2 .north) = true ∧
      (brakeOn.setb PWR_BRKSTAT (brkBit 2 .north)).inService = true ∧ brakeOn.prd 0x123 ≠ 0) ∧
    (brakeOn.inService = true ∧ brakeOn.pflag PWR_BRKCTL 1 = true ∧ brakeOn.brakeTrip .north = true ∧
      brakeOn.flag PWR_BRKSTAT (brkBit 2 .north) = false) := by decide

/-- A sample of berth 2 is held. -/
def held : State := (running 2 idle).modSens 2 fun q => { q with held := true, heldAt := 100, target := 1 }

/-- Every berth rests, the tide at `799`. -/
def resting : State := { idle with tide := { now := 799 } }
/-- Berth 2 runs, a guard from tick `a` to tick `e`. -/
def guarded (a e : Nat) : State := (running 2 idle).modPwm 2 fun q => { q with guard := some (a, e) }
/-- Two channels of one sample that have not completed in time. -/
def slow : Channels := ⟨⟨true, false, false⟩, ⟨false, false, true⟩⟩

theorem witness_SamplesAndResults :
    ((running 2 idle).inService = true ∧ (running 2 idle).outOfUse 2 = false ∧ (running 2 idle).halted = false ∧
      (running 2 idle).bflag 2 BS_SENSE 13 = false ∧ ((running 2 idle).berth 2).pwm.run = .running ∧ (running 2 idle).pulsed 2 = false ∧
      ((running 2 idle).berth 2).pwm.late = none ∧ ((running 2 idle).berth 2).pwm.sampAt = none ∧
      ((running 2 idle).berth 2).pwm.guard = none ∧
      ((running 2 idle).berth 2).pwm.divCnt % ((running 2 idle).bget 2 BS_CTL 5 3 + 1) = 0) ∧
    (((guarded 0x18000 0x19100).berth 2).pwm.guard = some (0x18000, 0x19100) ∧
      min ((guarded 0x18000 0x19100).berth 2).pwm.force.sampt (((guarded 0x18000 0x19100).berth 2).pwm.force.per - 1) *
        (guarded 0x18000 0x19100).prescale 2 = 0x19000) ∧
    ((((running 2 idle).bput 2 BS_CTL 5 3 1).modPwm 2 fun q => { q with divCnt := 1 }).berth 2).pwm.divCnt %
      (((running 2 idle).bput 2 BS_CTL 5 3 1).bget 2 BS_CTL 5 3 + 1) ≠ 0 ∧
    ((resting.berth 2).pwm.run = .off ∧ resting.pulsed 2 = false ∧ resting.sampledPeriod 2 (resting.sampleAt 2).1 = true ∧
      (resting.berth 2).pwm.sampAt ≠ some (resting.sampleAt 2).2 ∧ resting.inService = true ∧ resting.outOfUse 2 = false) ∧
    ((phaseIn 2 5 idle).pulsed 2 = true ∧ (phaseIn 2 5 idle).inService = true ∧ (phaseIn 2 5 idle).outOfUse 2 = false) ∧
    ((idle.bset 2 BS_SENSE 13).bflag 2 BS_SENSE 13 = true ∧ (idle.setb GLB_DBGHALT 0).halted = true) ∧
    ((idle.berth 2).sens.held = false ∧ (held.berth 2).sens.held = true ∧ held.bst 2 ≠ stDrydock ∧ held.bst 2 ≠ stOut ∧
      (held.berth 2).noToken = false ∧ held.bget 2 BS_SENSE 5 3 = 0) ∧
    (slow.i.get .u = true ∧ slow.v.get .w = true ∧ held.bflag 2 BS_SENSE 3 = false ∧ held.bflag 2 BS_SENSE 8 = false ∧
      held.outOfUse 2 = false ∧ held.canRaise (0x80 + 8 * 2 + 4) = true) := by decide +kernel

theorem witness_OffsetCalibration :
    (idle.awake = true ∧ idle.bflag 7 BP_CTL 0 = false ∧ idle.allOff 7 = true ∧ (berthIn 7 stDrydock idle).bst 7 = stDrydock) ∧
    ((running 7 idle).bflag 7 BP_CTL 0 = true ∧ hiOn.allOff 1 = false) ∧
    ((idle.bset 7 BS_SENSE 13).bflag 7 BS_SENSE 13 = true ∧ (idle.bset 7 BS_SENSE 13).starting 7 = false ∧
      idle.bflag 7 BS_SENSE 13 = false ∧ 2048 < ((524417 + 128 : Int) / 256).natAbs ∧ ¬2048 < ((524288 + 128 : Int) / 256).natAbs) := by
  decide


theorem witness_EngineArithmetic : 2 ^ 80 - 1 < 2 ^ 80 ∧
    (-131072 ≤ (131071 * 65536 + 0x8000) / 65536 ∧ (131071 * 65536 + 0x8000) / 65536 ≤ 131071) ∧
    ¬((131072 * 65536 + 0x8000 : Int) / 65536 ≤ 131071) := by decide

/-- Berths 2 and 3 wait for a lane with the same target load point. -/
def twoWait : State :=
  (idle.modBerth 2 fun b => { b with waiting := some ⟨500, 1, 10, []⟩ }).modBerth 3 fun b => { b with waiting := some ⟨500, 1, 10, []⟩ }
/-- Berth 2 runs, its token with `target` load points to go in lane 1. -/
def inLane (target : Nat) : State :=
  (running 2 idle).modBerth 2 fun b => { b with running := some (⟨500, target, 10, List.replicate 9 0⟩, 1, []) }
/-- What the token of `inLane` computes. -/
def laneOut (s : State) : TokOut := ((tokenE (s.viewOf 2 (List.replicate 9 0) []) 2 10).run { sat := false, k := s.free }).1

theorem witness_TokensAndPackages :
    ((∃ l, twoWait.lane l = 0 ∧ twoWait.laneBerth l = none) ∧ ∃ n, (twoWait.berth n).waiting.isSome = true ∧ (twoWait.berth n).running = none) ∧
    (∀ l, (idle.wr LE_LANE 0x3FFFF).lane l ≠ 0) ∧
    ((∀ k ∈ [0, 1], ((inLane k).berth 2).running = some (⟨500, k, 10, List.replicate 9 0⟩, 1, []))) ∧
    ((laneOut (inLane 1)).pkg.isSome = true ∧ (1 : Nat) ≠ 0) ∧ (laneOut (inLane 0)).pkg.isSome = true ∧
    (laneOut (berthIn 2 stStopped (inLane 1))).pkg = none :=
  ⟨by decide, by decide, by decide, ⟨by decide +kernel, by decide⟩, by decide +kernel, by decide +kernel⟩

/-- Lane 2 in self-test. -/
def laneTest : State := idle.putLane 2 2

/-- Lane 1 is docked and finishes its token. -/
def docking : State := (inLane 1).putLane 1 3

theorem witness_LaneAndStorageErrors :
    (idle.lane 1 = 0 ∧ idle.canRaise 0x14 = true ∧ (4 : Fin 5) ≠ 1 ∧ idle.lane 4 = 1 ∧ ∀ j : Fin 5, j ≠ 1 → j < 4 → idle.lane j ≠ 1) ∧
    ((∀ k : Fin 5, k ≠ 1 → (idle.putLane 4 4).lane k ≠ 1) ∧ (inLane 1).laneBerth 1 = some 2 ∧ ((inLane 1).berth 2).waiting = none) ∧
    (idle.lane 4 ≠ 0 ∧ idle.laneBerth 4 = none) ∧
    (laneTest.lane 2 = 2 ∧ laneTest.dock.undock.getLsbD (2 : Fin 5).val = false ∧ laneTest.canRaise 0x17 = true ∧
      ∀ k : Fin 5, k ≠ 2 → (laneTest.putLane 4 4).lane k ≠ 1) ∧
    (idle.canRaise 0x15 = true ∧ idle.canRaise 0x16 = true ∧ idle.canRaise 0x19 = true ∧ idle.canRaise 0x1A = true ∧ (1 : Berth) ≠ 0) := by
  decide

theorem witness_LaneAndStorageErrors_tokens :
    (docking.lane 1 ≠ 0 ∧ docking.laneBerth 1 = some 2 ∧ (docking.berth 2).running = some (⟨500, 1, 10, List.replicate 9 0⟩, 1, []) ∧
      (docking.berth 2).waiting = none) ∧
    (idle.laneBerth 1 = none ∧ (inLane 1).lane 1 = 0 ∧ (inLane 1).laneBerth 1 ≠ none) ∧
    ((twoWait.berth 2).waiting ≠ none ∧ (idle.berth 2).waiting = none) := by decide

/-- Berth 3 with the window of its loss search full. -/
def searching (m : Bool) (pout : Int) : State :=
  idle.modBerth 3 fun b => { b with loss := { win := 0x3FFFF, measure := m, pin := 900, pout := pout, prev := some (1000, 700) } }
/-- Berth 3 with DIV raised by 1, and 4096 accepted packages. -/
def divRaised : State := ((idle.bput 3 BS_CTL 5 3 1).bset 3 BF_CTL 7).modBerth 3 fun b => { b with accRow := 4096 }

theorem witness_SearchDivAndLedger :
    (idle.bnat 3 BF_LSWIN ≤ ((searching false 0).berth 3).loss.win ∧ ((searching false 0).berth 3).loss.measure = false) ∧
    (((searching true 0).berth 3).loss.measure = true ∧ ((searching true 0).berth 3).loss.pout ≤ 0) ∧
    (((searching true 800).berth 3).loss.measure = true ∧ 0 < ((searching true 800).berth 3).loss.pout ∧
      ((searching true 800).berth 3).ctl.fwang ≤ 0 ∧ ((searching true 800).berth 3).loss.prev = some (1000, 700)) ∧
    (4096 ≤ (divRaised.berth 3).accRow ∧ (divRaised.berth 3).divMf < divRaised.bget 3 BS_CTL 5 3 ∧ divRaised.bflag 3 BF_CTL 7 = true) ∧
    idle.awake = true := by decide

/-- `idle` with the demand of berth `n` at full, so that it calls, and no calibration before its starts. -/
def called (n : Berth) : State := (idle.bclr n BS_CTL 9).bput n BD_DEM 16 0 0x10000
/-- A listen of berth `n` with `k` samples that turned by `turned` codes in 5 ms. -/
def listens (n : Berth) (turned : Int) (s : State) : State :=
  s.modStart n fun q => { q with listening := true, listen := { n := 100, turned := turned, span := 100000, big := true } }
/-- Berth `n` in RECATCH, its listen heard 7500 (forward). -/
def recatching (n : Berth) : State := listens n 30000 (berthIn n stRecatch (idle.bput n BO_PHASE 3 0 11))

theorem witness_StartAndListen :
    ((called 3).bst 3 = stStopped ∧ (called 3).startAllowed 3 = true ∧ (called 3).demandCalls 3 = true ∧ (called 3).bflag 3 BP_CTL 0 = false) ∧
    (((called 3).bset 3 BD_CTL 17).startAllowed 3 = false ∧ ((called 3).bput 3 BD_DEM 16 0 0).demandCalls 3 = false) ∧
    (((called 3).bset 3 BS_CTL 9).bflag 3 BS_CTL 9 = true) ∧
    (((called 3).bset 3 BO_CTL 2).bflag 3 BS_CTL 9 = false ∧ ((called 3).bset 3 BO_CTL 2).bflag 3 BO_CTL 2 = true ∧
      ((called 3).bset 3 BO_CTL 2).bflag 3 BO_STAT 6 = false) ∧
    (((called 0).bput 0 BO_CTL 4 2 4).cicada 0 = true ∧ ((called 0).bput 0 BO_CTL 4 2 4).bflag 0 BO_CTL 2 = false ∧
      (called 3).cicada 3 = false) ∧
    ((berthIn 3 stHolding (called 3)).bst 3 = stHolding ∧ (berthIn 3 stHolding (called 3)).demandCalls 3 = true ∧
      (berthIn 3 stHolding (called 3)).startFree 3 = true ∧ ((berthIn 3 stHolding (called 3)).setb 0x86D 3).startFree 3 = false ∧
      (berthIn 3 stHolding ((called 3).bput 3 BD_DEM 16 0 0)).demandCalls 3 = false) ∧
    (((listens 3 0 (phaseIn 3 2 idle)).berth 3).start.listening = true ∧ (listens 3 0 (phaseIn 3 2 idle)).bst 3 = stStarting ∧
      (listens 3 0 (phaseIn 3 2 idle)).phase 3 = 2 ∧ ((listens 3 0 (phaseIn 3 2 idle)).berth 3).start.giveUp = false ∧
      (listens 3 0 (phaseIn 3 2 idle)).listenResult 3 = (true, 0, 0)) ∧
    (((listens 3 (-10000) (phaseIn 3 2 idle)).berth 3).start.fwd = true ∧ WCATCH.natAbs ≤ (-2500 : Int).natAbs ∧
      ((listens 3 (-10000) (phaseIn 3 2 idle)).listenResult 3).2.1 = -2500) ∧
    (((listens 3 10000 (phaseIn 3 4 idle)).listenResult 3).1 = true ∧ ((listens 3 10000 (phaseIn 3 4 idle)).listenResult 3).2.1 = 2500 ∧
      isH 3 = false ∧ (2500 : Int).natAbs < WOBS.natAbs ∧ (listens 3 10000 (phaseIn 3 4 idle)).phase 3 = 4) ∧
    (((listens 3 30000 (phaseIn 3 2 idle)).listenResult 3).2.1 = 7500 ∧ WOBS.natAbs ≤ (7500 : Int).natAbs ∧
      ((listens 3 30000 (phaseIn 3 2 idle)).berth 3).start.homing = false) ∧
    ((recatching 0).bst 0 = stRecatch ∧ (recatching 0).phase 0 = 11 ∧ ((recatching 0).berth 0).start.listening = true ∧ isH 0 = true ∧
      ((recatching 0).listenResult 0).1 = true ∧ ((recatching 0).listenResult 0).2.1 = 7500) ∧
    (((recatching 0).modStart 0 fun q => { q with giveUp := true }).berth 0).start.giveUp = true := by decide


/-- The scan or polarity test of berth 0 with an accumulated response `a` over one update. -/
def scanned (k : Nat) (a : Int) (q : StartSt → StartSt) : State :=
  (phaseIn 0 k idle).modStart 0 fun s => q { s with accA := a, scanN := 1 }
/-- The probe of berth 3: pulse `j` in its decay, with a peak. -/
def probing (j : Nat) (peak : Option Nat) : State :=
  (phaseIn 3 5 idle).modStart 3 fun s => { s with probe := j, decay := true, peak := peak, clkw := 1200 }

theorem witness_StartPhases :
    ((phaseIn 3 4 idle).starting 3 = true ∧ (phaseIn 3 4 idle).phase 3 = 4 ∧ ((phaseIn 3 4 idle).berth 3).start.listening = false) ∧
    ((phaseIn 3 3 idle).starting 3 = true ∧ (phaseIn 3 3 idle).phase 3 = 3) ∧
    ((phaseIn 0 7 (idle.bwr 0 BO_CICMIN 100)).starting 0 = true ∧ (phaseIn 0 7 (idle.bwr 0 BO_CICMIN 100)).phase 0 = 7 ∧
      ((phaseIn 0 7 (idle.bwr 0 BO_CICMIN 100)).berth 0).start.scanN = 0 ∧ 0 < (phaseIn 0 7 (idle.bwr 0 BO_CICMIN 100)).bnat 0 BO_CICMIN) ∧
    ((scanned 7 1000000 id).phase 0 = 7 ∧
      (scanned 7 1000000 id).bnat 0 BO_CICMIN ≤ isqrt (1000000 * 1000000 + 0 * 0 : Int).toNat / 1) ∧
    ((scanned 8 1000 id).phase 0 = 8 ∧ ((scanned 8 1000 id).berth 0).start.polNeg = false) ∧
    (((scanned 8 1000 fun s => { s with polNeg := true, polP := 1000 }).berth 0).start.polNeg = true ∧
      32 * ((1000 : Int) - 1000).natAbs < 1000 + 1000) ∧
    (((scanned 8 1000 fun s => { s with polNeg := true, polP := 2000 }).berth 0).start.homing = false ∧
      (scanned 8 1000 fun s => { s with polNeg := true, polP := 2000 }).bst 0 = stStarting ∧
      2000 + 1000 ≤ 32 * ((2000 : Int) - 1000).natAbs) ∧
    ((phaseIn 3 5 idle).starting 3 = true ∧ (phaseIn 3 5 idle).phase 3 = 5 ∧ ((phaseIn 3 5 idle).berth 3).start.decay = false) ∧
    (((probing 0 none).berth 3).start.decay = true ∧ ((probing 0 none).berth 3).start.peak = none ∧ ((probing 0 none).berth 3).start.misses = 0) ∧
    (((probing 10 (some 0x800)).berth 3).start.peak = some 0x800 ∧ 0x800 ≤ ((probing 10 (some 0x800)).bwr 3 BF_ILIM 0x800).bnat 3 BF_ILIM ∧
      ((probing 10 (some 0x800)).berth 3).start.probe < 11) ∧
    (((probing 3 (some 0x3FFFF)).bwr 3 BF_ILIM 0x800).bnat 3 BF_ILIM < 0x3FFFF ∧ ((probing 3 (some 0x3FFFF)).berth 3).start.cuts = 0) ∧
    (((phaseIn 3 10 idle).modStart 3 fun q => { q with homeHold := true }).starting 3 = true ∧
      (((phaseIn 3 10 idle).modStart 3 fun q => { q with homeHold := true }).berth 3).start.homeHold = true ∧
      ((phaseIn 3 5 idle).berth 3).start.homeHold = false) ∧
    ((phaseIn 3 6 idle).phase 3 = 6 ∧ ((phaseIn 3 6 idle).berth 3).start.homeEnd = false) ∧
    (((phaseIn 3 9 idle).modCtl 3 fun c => { c with agree := THAND }).phase 3 = 9 ∧
      THAND ≤ (((phaseIn 3 9 idle).modCtl 3 fun c => { c with agree := THAND }).berth 3).ctl.agree ∧
      ((phaseIn 3 9 idle).berth 3).start.homing = false ∧ (phaseIn 3 9 idle).bst 3 = stStarting ∧
      ((phaseIn 3 9 idle).berth 3).ctl.agree < THAND) := by decide

/-- Berth 3 has failed `k` starts and waits. -/
def waited (k : Nat) (s : State) : State := s.modStart 3 fun q => { q with fails := k, wait := true }
/-- Berth 3 has been lost for 2 ms. -/
def lost (s : State) : State := s.modCtl 3 fun c => { c with bad := LOSTT }

/-- Berth 3 is the last that stops before the waiting stop of tender 0. -/
def lastOne : State := { tenderIn 0 tdRegulating (berthIn 3 stStopping idle) with therm := { waitStop := true } }

theorem witness_FailuresAndStops :
    ((∀ p ∈ [(StartFailure.openLoop, 9), (.reverseBrake, 4), (.probeCut, 5), (.probeMiss, 5)],
        (phaseIn 3 p.2 idle).bst 3 = stStarting ∧ failPhase p.1 (phaseIn 3 p.2 idle) 3 = true) ∧
      ((phaseIn 3 9 idle).modStart 3 fun q => { q with homing := true, fails := 2 }).bst 3 = stStarting ∧
      (((phaseIn 3 9 idle).modStart 3 fun q => { q with homing := true, fails := 2 }).berth 3).start.homing = true ∧
      2 ≤ (((phaseIn 3 9 idle).modStart 3 fun q => { q with homing := true, fails := 2 }).berth 3).start.fails ∧
      idle.canRaise (0x80 + 8 * 3 + 7) = true) ∧
    ((idle.berth 3).start.wait = false ∧ ((waited 1 (berthIn 3 stSafe idle)).berth 3).start.wait = true ∧
      (waited 1 (berthIn 3 stSafe idle)).bst 3 ≠ stStopped) ∧
    (((waited 1 (called 3)).berth 3).start.wait = true ∧ (waited 1 (called 3)).bst 3 = stStopped ∧
      ((waited 1 (called 3)).modStart 3 fun q => { q with wait := false }).startAllowed 3 = true ∧
      (waited 1 (called 3)).demandCalls 3 = true) ∧
    (idle.awake = true) ∧
    (((lost (running 3 (idle.bset 3 BO_CTL 3))).berth 3).start.homing = false ∧
      LOSTT ≤ ((lost (running 3 (idle.bset 3 BO_CTL 3))).berth 3).ctl.bad ∧ (lost (running 3 (idle.bset 3 BO_CTL 3))).bst 3 = stRunning ∧
      (lost (running 3 (idle.bset 3 BO_CTL 3))).bflag 3 BO_CTL 3 = true ∧ (lost (running 3 (idle.bset 3 BO_CTL 3))).bflag 3 BO_STAT 6 = false ∧
      (((lost (running 3 (idle.bset 3 BO_CTL 3))).berth 3).start.times.filter fun t => since idle.tide.now t ≤ oneSecond).length ≠ 3) ∧
    ((lost (running 3 (idle.bset 3 BO_STAT 6))).bflag 3 BO_STAT 6 = true ∧ idle.canRaise (0x80 + 8 * 3 + 5) = true) ∧
    ((lost (berthIn 3 stStopping idle)).bst 3 = stStopping ∧ LOSTT ≤ ((lost (berthIn 3 stStopping idle)).berth 3).ctl.bad) ∧
    (lastOne.bst 3 = stStopping ∧ lastOne.therm.waitStop = true ∧
      (∀ m, m ≠ 3 → lastOne.bst m = stStopped ∨ lastOne.bst m = stSafe ∨ lastOne.outOfUse m = true) ∧
      lastOne.tdState 0 = tdRegulating ∧ lastOne.tflag 0 TD_STAT 8 = false) ∧
    ((berthIn 3 stStopping idle).floored 3 = true ∧ (berthIn 3 stStopping idle).bint 3 BO_OMEGA = 0) ∧
    (((berthIn 0 stStopping idle).modStart 0 fun q => { q with stopRef := 5 }).bst 0 = stStopping ∧ idle.floored 0 = false ∧
      (((berthIn 0 stStopping idle).modStart 0 fun q => { q with stopRef := 5 }).berth 0).start.stopRef ≠ 0) ∧
    (berthIn 3 stUnmooring idle).bst 3 = stUnmooring := by decide

theorem witness_Positioner :
    ((idle.bset 3 BD_CTL 17).awake = true ∧ (idle.bset 3 BD_CTL 17).bflag 3 BD_CTL 17 = true ∧ (idle.bset 3 BD_CTL 17).bst 3 = stStopped ∧
      (idle.bset 3 BD_CTL 17).bflag 3 BP_CTL 0 = false ∧ (idle.bset 3 BD_CTL 17).startFree 3 = true) ∧
    idle.bflag 3 BD_CTL 17 = false ∧
    ((((running 3 idle).modStart 3 fun q => { q with homing := true }).berth 3).start.homing = true ∧ (idle.berth 3).start.homeEnd = false ∧
      ((running 3 idle).modStart 3 fun q => { q with homing := true }).bst 3 = stRunning ∧
      TLISTEN ≤ (((running 3 idle).modCtl 3 fun c => { c with slow := TLISTEN }).berth 3).ctl.slow) ∧
    ((berthIn 3 stHolding idle).bst 3 = stHolding ∧ 20000 ≤ (((berthIn 3 stHolding idle).modCtl 3 fun c => { c with slip := 20000 }).berth 3).ctl.slip ∧
      ((berthIn 3 stHolding idle).berth 3).ctl.slip < 20000) := by decide

/-- Berth 8 with source `k` of its demand, and an active edge 5 ms ago followed by an inactive one after 2 ms. -/
def demSource (k : Nat) : State :=
  { (idle.bput 8 BD_CTL 1 0 k).modDem 8 fun q => { q with actAt := some 0, actLen := some 10240000 } with tide := { now := 100000 } }

/-- As `demSource k`, source `j` written and not in effect yet. -/
def turned (k j : Nat) : State :=
  ((demSource k).bput 8 BD_CTL 1 0 j).modDem 8 fun q => { q with old := some ((demSource k).brd 8 BD_CTL) }

theorem witness_DemandSources :
    ((demSource 2).inService = true ∧ (demSource 2).outOfUse 8 = false ∧ (demSource 2).demSrc 8 ≠ 0) ∧
    ((demSource 0).demSrc 8 = 0 ∧ false = (demSource 0).demInv 8 ∧ ((demSource 0).berth 8).dem.actAt = some 0 ∧
      true ≠ (demSource 0).demInv 8 ∧ ((demSource 0).berth 8).dem.actLen = some 10240000) ∧
    ((∀ x ∈ [1000, 5000], ((demSource 0).bwr 8 BD_PMIN (BitVec.ofNat 18 x)).bnat 8 BD_PMIN * 5120 ≤ (demSource 0).tick - 0) ∧
      (demSource 0).tick + 0 - 0 ≤ ((demSource 0).bwr 8 BD_PMAX 20000).bnat 8 BD_PMAX * 5120 ∧
      (demSource 0).tick + 0 - 0 < ((demSource 0).bwr 8 BD_PMIN 5001).bnat 8 BD_PMIN * 5120 ∧
      ((demSource 0).bwr 8 BD_PMAX 4999).bnat 8 BD_PMAX * 5120 < (demSource 0).tick + 0 - 0) ∧
    (demSource 1).demSrc 8 = 1 ∧
    (idle.awake = true ∧ idle.writeFails .host [(ba 8 BD_HDEM, 0x8000)] = none ∧ (inMode .loading idle).inService = false ∧
      (demSource 2).demSrc 8 = 2 ∧ (demSource 2).writeFails .host [(ba 8 BD_HDEM, 0x8000)] = none ∧
      (demSource 1).demSrc 8 ≠ 2 ∧ (demSource 1).bget 8 BD_CTL 1 0 ≠ 2 ∧ (turned 1 2).demSrc 8 ≠ 2 ∧ (turned 1 2).bget 8 BD_CTL 1 0 = 2) ∧
    ((demSource 2).writeFails .host [(ba 8 BD_CTL, 3)] = none ∧ (demSource 2).bget 8 BD_CTL 1 0 ≠ bits 3 1 0 ∧
      (demSource 2).writeFails .host [(ba 8 BD_CTL, (demSource 2).brd 8 BD_CTL)] = none) ∧
    ((0x20010 : Word).getLsbD 17 = true ∧ idle.writeFails .host [(ba 8 BD_CCTL, 0x20010)] = none) := by decide

/-- Berth 3 demands by the host, with value `a` delivered, RUNNING. -/
def demanded (a : Nat) : State :=
  (running 3 ((idle.bput 3 BD_CTL 1 0 2).bwr 3 BD_LOSST 100)).modDem 3 fun q => { q with vals := [a], fresh := true }
/-- As `demanded`, silent for 99 ms. -/
def silent : State := (demanded 0).modDem 3 fun q => { q with fresh := false, lossMs := 99 }

theorem witness_DemandEvaluation :
    ((turned 1 2).inService = true ∧ (turned 1 2).outOfUse 8 = false ∧ ((turned 1 2).berth 8).dem.old = some ((demSource 1).brd 8 BD_CTL) ∧
      bits ((demSource 1).brd 8 BD_CTL) 1 0 ≠ (turned 1 2).bget 8 BD_CTL 1 0 ∧ ((turned 1 2).berth 8).dem.hostPend = false ∧
      (((turned 1 2).modDem 8 fun q => { q with hostPend := true }).berth 8).dem.hostPend = true) ∧
    ((demanded 0x10000).berth 3).dem.old = none ∧
    ((demanded 0x10000).inService = true ∧ (demanded 0x10000).outOfUse 3 = false ∧ (demanded 0x10000).demSrc 3 = 2 ∧
      ((demanded 0x10000).berth 3).dem.hostPend = false ∧ (demanded 0x10000).bflag 3 BD_STAT 0 = false ∧
      ((demanded 0x10000).berth 3).dem.vals = [0x10000] ∧ 0x10000 ≤ 0x10000 ∧ ((demanded 0x10000).berth 3).dem.fresh = true ∧
      0 < (demanded 0x10000).bnat 3 BD_LOSST ∧ (demanded 0x10000).bget 3 BD_ON 16 0 ≤ 0x10000 ∧ (demanded 0x10000).bst 3 = stRunning ∧
      (demanded 0x10000).bflag 3 BD_CTL 17 = false ∧ decide ((0x10000 : Int) < 0) = (demanded 0x10000).bflag 3 BD_STAT 2 ∧
      decide ((0x10000 : Int) < 0) ≠ ((demanded 0x10000).bset 3 BD_STAT 2).bflag 3 BD_STAT 2) ∧
    (0 < (demanded 0).bget 3 BD_ON 16 0 ∧ 0 < (demanded 0).bget 3 BD_OFF 16 0) ∧
    (berthIn 3 stDrydock (demanded 0)).bst 3 = stDrydock ∧
    ((silent.berth 3).dem.fresh = false ∧ 0 < silent.bnat 3 BD_LOSST ∧ silent.bnat 3 BD_LOSST ≤ (silent.berth 3).dem.lossMs + 1 ∧
      silent.canRaise (0x80 + 8 * 3 + 7) = true) := by decide

/-- Berth 3 with a curve of `k` points in force, X rising by 0x1000. -/
def curved (k : Nat) : State :=
  ((idle.bput 3 BD_CCTLA 4 0 k).bset 3 BD_CCTLA 5).wrs ((List.range k).map fun i => (ba 3 (BD_CXA0 + i), BitVec.ofNat 18 (0x1000 * (i + 1))))

theorem witness_CurvePassesThroughPoints :
    (idle.bput 3 BD_CCTLA 5 5 0).bflag 3 BD_CCTLA 5 = false ∧
    ((curved 0).bflag 3 BD_CCTLA 5 = true ∧ (curved 0).bget 3 BD_CCTLA 4 0 = 0) ∧
    (0 < (curved 2).bget 3 BD_CCTLA 4 0 ∧ 0xFFF < (curved 2).bnat 3 BD_CXA0) ∧
    ((∀ i < 1, i + 1 < 2 ∧ (curved 2).bnat 3 (BD_CXA0 + i) < (curved 2).bnat 3 (BD_CXA0 + i + 1)) ∧ (curved 2).bget 3 BD_CCTLA 4 0 = 2 ∧
      (curved 2).bnat 3 (BD_CXA0 + (2 - 1)) ≤ 0x2000) := by decide


/-- The thermal model has started, with a round of the sensors `run` in progress. -/
def thermal (run : BitVec 10) : State := { idle with therm := { started := true, run := run } }

/-- A round of the first NTC of Quay North, which is enabled. -/
def ntcOn : State := (thermal 0x40).setb TH_CTL 1

theorem witness_ThermalRoundsAndModel :
    ((thermal 0).awake = true ∧ (thermal 0).therm.started = true ∧ (thermal 0).therm.run = 0 ∧ (0x201 : Word).getLsbD 0 = true ∧
      (thermal 0).sensorOk 0 = true) ∧
    ((thermal 2).therm.run ≠ 0 ∧ idle.therm.started = false) ∧
    ((thermal 0x20).sensorOk 5 = true ∧ ntcOn.sensorOk 6 = true ∧ ntcOn.therm.run.getLsbD 6 = true) ∧
    ((thermal 0x20).therm.run.getLsbD (5 : Fin 10).val = true ∧ (5 : Fin 10).val < 6 ∧ (thermal 0x20).therm.req = 0) ∧
    ((thermal 0x40).therm.run.getLsbD (6 : Fin 10).val = true ∧ 6 ≤ (6 : Fin 10).val ∧ 98 * 3300 < 100 * 3235 ∧ 100 * 65 < 2 * 3300 ∧
      (thermal 0x40).therm.req = 0 ∧ (thermal 0x40).canRaise 0x36 = true) ∧
    ((idle.setb TH_BROKEN 9).flag TH_BROKEN 9 = true ∧ (0x200 : Word).getLsbD 9 = true) ∧
    ((thermal 0).therm.first = false ∧ (thermal 0).therm.used = []) := by decide

theorem witness_ThermalStopsAndComparators :
    ((thermal 0).awake = true ∧ (thermal 0).therm.started = true ∧ (thermal 0).outOfUse 11 = false ∧ (thermal 0).canRaise 0x33 = true ∧
      71 ∈ unitNodes 11 ∧ ((thermal 0).node 71).stop = false) ∧
    (idle.therm.comps.getLsbD (5 : Fin 6).val = false ∧ idle.canRaise 0x30 = true ∧
      ({ idle with therm := { comps := 0x20 } } : State).therm.comps.getLsbD (5 : Fin 6).val = true) ∧
    (idle.flag GLB_SKEWNOW (9 : Fin 10).val = false ∧ idle.canRaise 0x11 = true) ∧
    (({ tenderIn 0 tdRegulating idle with therm := { waitStop := true } } : State).therm.waitStop = true ∧
      (tenderIn 0 tdRegulating idle).tflag 0 TD_STAT 8 = false ∧ (tenderIn 0 tdRegulating idle).tdState 0 = tdRegulating ∧
      idle.therm.waitStop = false) := by decide

/-- Tender 1 in state `k` with conduction times of 1000 ticks. -/
def tending (k : Nat) (f : TenderSt → TenderSt) : State :=
  (tenderIn 1 k idle).modTender 1 fun x => f { x with per := 12800, next1 := 1000, next2 := 1000, cur := 1000 }

theorem witness_TenderEdgesAndSample :
    ((tending tdRegulating id).tdHere 1 = true ∧ (tending tdRegulating id).tdActive 1 = true ∧ (tending tdRegulating id).stripUv = false ∧
      ((tending tdRegulating id).tender 1).ilkBusy = false ∧ ((tending tdRegulating id).tender 1).next1 ≠ 0 ∧
      ((tending tdRegulating id).tender 1).ov = false ∧ ((tending tdRegulating id).tender 1).due = none ∧
      0 < ((tending tdRegulating id).tender 1).per) ∧
    ((tenderIn 1 tdOff idle).tdActive 1 = false) ∧
    ((tending tdRegulating id).tdGates 1 = true ∧ ((tending tdRegulating id).tender 1).hi = false ∧
      ((tending tdRegulating id).tender 1).zc = false ∧
      ((tending tdRegulating id).tender 1).cur + ((tending tdRegulating id).tdDead 1).1 + ((tending tdRegulating id).tdDead 1).2 +
        (tending tdRegulating id).tget 1 TD_MINON 10 0 ≤ ((tending tdRegulating id).tender 1).per) ∧
    (((tending tdRegulating fun x => { x with lo := true }).tender 1).lo = true ∧
      ((tending tdRegulating fun x => { x with lo := true }).tput 1 TD_CTL 1 1 0).tflag 1 TD_CTL 1 = false ∧
      (500 * sgn (idle.trd 1 TD_ZC) ≤ 500 * sgn (idle.trd 1 TD_ZC) ∧ 500 * sgn (idle.trd 1 TD_ZC) < 100000000)) ∧
    (((tending tdRegulating fun x => { x with hi := true }).tender 1).hi = true ∧
      (500 * (tending tdRegulating fun x => { x with hi := true }).tdIlimf 1 : Int) < 100000000 ∧ 154 ≤ 154 ∧ 153 < 154 ∧
      (0 : Int) ≤ 500 * (tending tdRegulating fun x => { x with hi := true }).tdIlimf 1) ∧
    ((1100 * (tending tdRegulating id).tget 1 TD_VREF 10 0 : Int) < 12000000) ∧
    ((⟨12000000, 0, 0, false, 0, false⟩ : TenderMeas).late = false ∧ (⟨12000000, 0, 0, false, 0, true⟩ : TenderMeas).late = true ∧
      16000 * 2 ^ (tending tdRegulating id).tget 1 TD_WIN 1 0 <
        (((tending tdRegulating id).tdVr 1 : Int) * 1000 - 12000000).natAbs) := by decide

theorem witness_TenderStatesAndMonitors :
    (∀ k ∈ [tdStartDelay, tdHiccup, tdRamp, tdStopDelay, tdStopRamp, tdLatched, tdRegulating],
      (tenderIn 2 k idle).tdHere 2 = true ∧ (tenderIn 2 k idle).tdState 2 = k) ∧
    (3 * idle.tget 2 TD_VREF 10 0 ≤ 10 * 0x7FF ∧ 10 * 0 < 3 * idle.tget 2 TD_VREF 10 0) ∧
    ((tending tdRegulating fun x => { x with limAt := some 5 }).tender 1).limAt.isSome = true ∧
    (idle.tget 2 TD_RETRY 2 0 < 7 ∧ idle.tget 2 TD_RETRY 2 0 = 0 ∧ (idle.tput 2 TD_RETRY 2 0 7).tget 2 TD_RETRY 2 0 = 7 ∧
      idle.canRaise 0x47 = true ∧ idle.canRaise (0x4A + 2) = true) ∧
    ((tenderIn 2 tdStopRamp idle).tender 2).thWait = false ∧
    ((tenderIn 1 tdOff idle).tdHere 1 = true ∧ idle.awake = true ∧ idle.writeFails .host [(ta 1 TD_CTL, 1)] = none ∧
      idle.tflag 1 TD_CTL 0 = false ∧ (idle.tender 1).dockWait = false) ∧
    (((tenderIn 1 tdRegulating idle).tput 1 TD_CTL 0 0 1).writeFails .host [(ta 1 TD_CTL, 0)] = none ∧
      ((tenderIn 1 tdRegulating idle).tput 1 TD_CTL 0 0 1).tflag 1 TD_CTL 0 = true ∧
      (((tenderIn 1 tdRegulating idle).tput 1 TD_CTL 0 0 1).tputb 1 TD_STAT 8 true).tflag 1 TD_STAT 8 = true) ∧
    (tenderIn 1 tdOff idle).tdState 1 ≠ tdLatched ∧
    ((1100 * (tending tdRegulating fun x => { x with vfb := 12000000 }).tget 1 TD_VREF 10 0 : Int) <
        ((tending tdRegulating fun x => { x with vfb := 12000000 }).tender 1).vfb ∧
      ((tending tdRegulating id).tender 1).vfb ≤ (1100 * (tending tdRegulating id).tget 1 TD_VREF 10 0 : Int) ∧
      (tending tdRegulating fun x => { x with vfb := 12000000 }).tdInBand 1 = false ∧
      (tending tdRegulating fun x => { x with vfb := 1000 * (idle.tget 1 TD_VREF 10 0 : Int) }).tdInBand 1 = true) ∧
    ((idle.tputb 1 TD_STAT 5 true).tflag 1 TD_STAT 5 = true ∧ idle.canRaise 0x4E = true ∧ idle.canRaise 0x4D = true) ∧
    (idle.stripUv = false ∧ idle.canRaise 0x46 = true ∧ ({ idle with stripUv := true } : State).stripUv = true) := by decide

/-- An event of source `k` that affects berth 0, its severity 4 and its reaction `r`, raised and not decided. -/
def raisedOf (k r : Nat) : State :=
  { running 0 idle with coll := { raised := [{ src := k, affected := 1 }] }, prot := [(FC_MAP + k, BitVec.ofNat 18 (32 + r))] }

theorem witness_CollectorDecision :
    ((raisedOf 0x20 3).coll.raised ≠ [] ∧ (raisedOf 0x20 3).coll.first = none ∧ (raisedOf 0x20 3).bst 0 = stRunning) ∧
    (∃ t, exec .collectorDecision (raisedOf 0x20 3) = .next t ∧ t.safeLine 0 = false ∧
      (raisedOf 0x20 3).pendOn ((raisedOf 0x20 3).formed { src := 0x20, affected := 1 }) 0 = 3) ∧
    (∃ t, exec .collectorDecision (raisedOf 0x20 4) = .next t ∧ t.safeLine 0 = true) ∧
    (∃ e ∈ (raisedOf 0x20 3).coll.raised, (raisedOf 0x20 3).pget FC_CTL 6 4 ≤ (raisedOf 0x20 3).severity e.src) ∧
    ({ idle with coll := { pend := [⟨0x20, 4, 3, 1, 0, 0⟩], first := some ⟨{ src := 0x20, affected := 1 }, 4, [], 0⟩ } } : State).coll.first =
      some ⟨{ src := 0x20, affected := 1 }, 4, [], 0⟩ :=
  ⟨by decide, ⟨_, rfl, by decide +kernel⟩, ⟨_, rfl, by decide +kernel⟩, by decide, by decide⟩

/-- The factory facility is enabled. -/
def factory : State := idle.modDev fun d => { d with pins := { d.pins with testen := true } }
/-- Source 0x01 is pending, and its condition holds. -/
def levelHeld : State := { idle.setb PWR_STAT 7 with coll := { pend := [⟨0x01, 4, 1, 1, 0, 0⟩] } }

theorem witness_BrokenPairsAndClearing :
    (idle.awake = true ∧ idle.coll.broken.contains (0xFF : Fin 256).val = false ∧ reservedSource 0x20 = false ∧ idle.canRaise 0x18 = true) ∧
    ({ idle with coll := { broken := [0x20] } } : State).coll.broken.contains (0x20 : Fin 256).val = true ∧
    (idle.coll.brokenL.getLsbD (11 : Berth).val = false ∧ idle.inService = true ∧ idle.outOfUse 11 = false ∧ idle.dev.pins.testen = false) ∧
    (neverRaised 0x20 = false ∧ neverRaised 0x06 = true ∧ factory.coll.brokenL.getLsbD (11 : Berth).val = false) ∧
    (factory.dev.pins.testen = true ∧ factory.awake = true ∧ factory.coll.broken.contains (0x20 : Fin 256).val = false) ∧
    (isPendWord FC_PEND0 = true ∧ isPendWord (FC_PEND0 + 14) = true ∧ isPendWord (FC_PEND0 + 15) = false) ∧
    (levelHeld.awake = true ∧ levelHeld.pending? 0x01 = true ∧ levelHeld.flag PWR_STAT 7 = true ∧ levelHeld.canRaise 0x01 = true) := by
  decide

/-- A READ of one word at 0x0000, and frames of the other opcodes (R419). -/
def readFrame : RawFrame := hframe [2 * 2 ^ 15 + 1 * 256, 0] 0
/-- A frame of opcode `op` with COUNT 0 and override `ovr`. -/
def bareFrame (op ovr seq : Nat) : RawFrame := hframe [op * 2 ^ 15 + ovr, 0] seq
/-- A FETCH of one word, REPEAT as `rep`. -/
def fetchFrame (rep : Nat) : RawFrame := hframe [3 * 2 ^ 15 + 256 + rep * 64, 0] 0
/-- A WRITE of 5 to PWR_SAGCFG. -/
def writeFrame : RawFrame := hframe [1 * 2 ^ 15 + 256, 0x106, 5] 0
/-- Opcode, sequence number and REPEAT of a frame that passes the tests. -/
def accepted (s : State) (f : RawFrame) : Option (Nat × Nat × Bool) :=
  match s.verdict f with | .accept h _ seq _ => some (h.op, seq, h.rep) | _ => none

theorem witness_HostFrames :
    (idle.hostListens = true ∧
      (∀ c ∈ [(readFrame, 2), (writeFrame, 1), (bareFrame 4 0 0, 4), (bareFrame 5 0x25 0, 5), (bareFrame 0 0 0, 0)],
        idle.frameOp c.1 = c.2 ∧ accepted idle c.1 = some (c.2, 0, false))) ∧
    (idle.verdict (bareFrame 4 0 3) = .dup ∧ idle.frameOp (bareFrame 4 0 3) = 4) ∧
    (idle.verdict { bareFrame 4 0 0 with words := [] } = .reject 2 0 0 ∧ idle.verdict { readFrame with words := [1, 2, 3] } = .reject 3 0 0 ∧
      idle.verdict (bareFrame 4 0 2) = .reject 5 2 4 ∧ rejectSource 3 = some 0x20 ∧ idle.canRaise 0x20 = true) := by decide +kernel

theorem witness_FetchAnswers :
    (idle.hostListens = true ∧ idle.frameOp (fetchFrame 0) = 3 ∧
      accepted idle (fetchFrame 0) = some (3, 0, false)) ∧
    accepted { idle with host := { block := some ⟨1, 0, [0]⟩ } } (fetchFrame 1) = some (3, 0, true) := by decide +kernel

/-- One waiting entry, and the same in a fenced stream. -/
def queued (kind stream addr count : Nat) (data : List Word) : State := withEntry (entry kind stream addr count data) idle
/-- One running entry with status `st`. -/
def runs (kind stream st : Nat) : State := withEntry { entry kind stream 0 1 [] with phase := .running, status := st } idle

theorem witness_EntriesRunAndComplete :
    (({ queued 0 13 0x106 1 [5] with host := { (queued 0 13 0x106 1 [5]).host with fenced := 0x2000 } } : State).entryStarts 0 = true ∧
      (0x2000 : BitVec 15).getLsbD 13 = true) ∧
    ((queued 0 13 0x106 1 [5]).awake = true ∧ (queued 0 13 0x106 1 [5]).host.queue[0]? = some (entry 0 13 0x106 1 [5]) ∧
      (queued 0 13 0x106 1 [5]).entryStarts 0 = true ∧ (queued 0 13 0x106 1 [5]).host.fenced.getLsbD 13 = false) ∧
    rangeOk false 0x300 1 = false ∧ rangeOk false 0x106 1 = true ∧
    (idle.writeFails .host [(PWR_SLEEP, 5)] = some PWR_SLEEP ∧ idle.writeFails .host [(0x106, 5)] = none) ∧
    ((queued 1 13 0 2 []).entryStarts 0 = true ∧ rangeOk false 0 2 = true) ∧
    ((queued 1 13 0 0 []).entryStarts 0 = true ∧ (queued 2 15 0 0 []).entryStarts 0 = true ∧ (queued 3 5 0 0 []).entryStarts 0 = true) ∧
    (∃ i < 1, ∃ x, ({ idle with host := { queue := [entry 1 13 0 1 [], entry 1 13 0 1 []] } } : State).host.queue[i]? = some x ∧
      x.stream = 13 ∧ x.phase ≠ .done) ∧
    ((runs 0 13 0).host.queue[0]? = some { entry 0 13 0 1 [] with phase := .running, status := 0 } ∧
      (runs 0 14 5).host.queue[0]? = some { entry 0 14 0 1 [] with phase := .running, status := 5 } ∧
      (runs 0 14 5).host.fenced.getLsbD 14 = false ∧ (runs 0 14 5).canRaise 0x22 = true ∧
      (runs 3 5 0).host.queue[0]? = some { entry 3 5 0 1 [] with phase := .running, status := 0 }) := by decide


/-- A host entry of the memory port. -/
def mentry (sel nin : Nat) (out : List Nat) : MemEntry := { job := .host, sel := sel, nin := nin, out := out }
/-- `idle` with entries at the memory port. -/
def port (l : List MemEntry) : State := idle.modMem fun m => { m with queue := l }
/-- A host entry described in MP_HENT0 to MP_HENT2: select 0, 8-bit words, two out and one in. -/
def described : State := ((idle.wr MP_HENT0 8).wr MP_HENT1 2).wr MP_HENT2 1

/-- A poll of select `k` between two runs. -/
def polling (k : Nat) : MemEntry := { mentry k 1 [5] with between := true, ran := true, poll := some (1, 0, 10) }

theorem witness_MemoryEntriesRun :
    (described.awake = true ∧ described.writeFails .host [(MP_HCMD, 1)] = none) ∧
    ((port [mentry 0 1 [5]]).hostBusy = true ∧ 144 < ((described.wr MP_HENT1 144).get MP_HENT1 7 0) + (described.wr MP_HENT1 144).get MP_HENT2 7 0) ∧
    (∀ e ∈ [mentry 0 1 [5], mentry 0 0 [], mentry 3 1 [5], { mentry 3 1 [5] with job := .loader }],
      (port [e]).mem.docked = false ∧ (port [e]).dev.vioOk = true ∧ (port [e]).awake = true ∧ (port [e]).mem.queue.any (·.wire) = false ∧
      startable [] (port [e]).mem.queue = some e) ∧
    (idle.selOk 0 = true ∧ [5].length + 1 ≠ 0 ∧ idle.selOk 3 = false ∧ idle.canRaise 0x24 = true) ∧
    ((port [{ mentry 0 1 [5] with wire := true }]).mem.queue.find? (·.wire) = some { mentry 0 1 [5] with wire := true } ∧
      [5].length + 144 - 1 ≤ 144) ∧
    ((port [{ mentry 0 1 [5] with wire := true, poll := some (1, 0, 10) }]).mem.queue.find? (·.wire) =
      some { mentry 0 1 [5] with wire := true, poll := some (1, 0, 10) } ∧ ([1].getD 0 0 % 256) &&& 1 ≠ 0) ∧
    ((port [{ mentry 0 1 [5] with wire := true, job := .loader }]).mem.queue.find? (·.wire) =
      some { mentry 0 1 [5] with wire := true, job := .loader }) ∧
    ((port [mentry 0 1 [5]]).mem.wait = [] ∧ (port [polling 0, polling 2]).mem.queue.find? (fun e => e.poll.isSome && e.ran && e.sel == 2) =
        some (polling 2) ∧
      ∀ e ∈ (port [polling 0, polling 2]).mem.queue, e.sel = 3 → e.poll = none ∨ e.ran = false) := by decide

/-- READY, logging enabled, with the logbook state that `f` gives. -/
def logging (f : LogSt → LogSt) : State := ((idle.setb LOG_CTL 11).put LOG_STAT 2 0 logReady).modLog f
/-- A buffered record. -/
def rec0 : LogRec := { typ := 4, pay := [] }
/-- A trace of one channel of berth 0 is configured. -/
def tracing (f : TraceSt → TraceSt) : State :=
  (logging fun l => { l with trace := f l.trace }).wr LOG_TRCFG 1

theorem witness_Logbook :
    ((logging fun l => { l with buf := [rec0], prog := 1 }).mem.log.prog ≠ 0 ∧ (logging fun l => { l with slot := 59 }).mem.log.slot < 60) ∧
    ((logging fun l => { l with buf := [rec0] }).logState = logReady ∧ (logging fun l => { l with buf := [rec0] }).mem.log.prog = 0 ∧
      (logging fun l => { l with buf := [rec0] }).mem.log.buf ≠ [] ∧ (logging fun l => { l with buf := [rec0] }).mem.log.off = false ∧
      (logging fun l => { l with buf := [rec0] }).mem.docked = false ∧ (logging fun l => { l with slot := 63 }).mem.log.slot < 64 ∧
      (logging fun l => { l with buf := [rec0] }).mem.log.cur = true ∧ (logging fun l => { l with buf := [rec0] }).awake = true) ∧
    ((idle.put LOG_STAT 2 0 logFailed).awake = true ∧ (idle.put LOG_STAT 2 0 logFailed).logState = logFailed ∧ idle.mem.docked = false) ∧
    ((logging fun l => { l with flush := true }).mem.log.flush = true ∧ (logging fun l => { l with flush := true }).mem.log.buf = [] ∧
      (logging fun l => { l with flush := true, buf := [rec0] }).mem.log.buf ≠ []) ∧
    ((logging fun l => { l with lost := 3, buf := List.replicate 60 rec0 }).mem.log.lost ≠ 0 ∧
      4 ≤ (logging fun l => { l with lost := 3, buf := List.replicate 60 rec0 }).logFree) ∧
    (((logging id).mem.log.cur && (logging id).mem.log.ready) = false ∧ (logging id).mem.log.prep = .none) ∧
    ((idle.setb LOG_CTL 11).committed = true ∧ (idle.setb LOG_CTL 11).flag LOG_CTL 11 = true ∧ (idle.setb LOG_CTL 11).logState = logOff) ∧
    ((logging id).awake = true ∧ (logging id).writeFails .host [(LOG_CTL, 0)] = none ∧ (logging id).flag LOG_CTL 11 = true ∧
      (0 : Word).getLsbD 11 = false ∧ (logging id).inMem MemJob.ofLog = false ∧ (logging id).mem.log.prep = .none ∧
      (logging fun l => { l with prog := 1 }).mem.log.prog ≠ 0) ∧
    (idle.logState ≠ logReady ∧ idle.trChannels = 0) ∧
    ((tracing id).trChannels ≠ 0 ∧ (tracing id).mem.log.trace.trig = none ∧
      (tracing fun t => { t with trig := some (5, 0xFF) }).mem.log.trace.trig ≠ none ∧
      (tracing fun t => { t with trig := some (5, 0xFF) }).mem.log.trace.left = 0 ∧
      (tracing fun t => { t with trig := some (5, 0xFF) }).mem.log.trace.frozen = false) ∧
    ((logging fun l => { l with buf := List.replicate 48 rec0, trace := { frozen := true, burst := [rec0] } }).mem.log.trace.frozen = true ∧
      16 ≤ (logging fun l => { l with buf := List.replicate 48 rec0, trace := { frozen := true, burst := [rec0] } }).logFree ∧
      [rec0].length ≤ 16 - 15 ∧ 16 - 15 < [rec0, rec0].length) ∧
    (logging fun l => { l with buf := List.replicate 49 rec0 }).logFree < 16 := by decide

/-- The read of a sector, on the wire. -/
def sectorIn : MemEntry := { job := .prepare, sel := 1, nin := 4096, wire := true }
/-- A sector is prepared; its read is on the wire. -/
def preparing (f : LogSt → LogSt) : State :=
  (logging fun l => f { l with prep := .verify }).modMem fun m => { m with queue := [sectorIn] }
/-- A mount has read the records `slots` and every sector of the parameter area. -/
def mounted (slots : List SlotRead) (lost : Bool) : State :=
  (idle.put LOG_STAT 2 0 logMounting).modLog fun l =>
    { l with mount := { slots := slots, pars := List.replicate (idle.rd LOG_PARSECT).toNat ⟨none, [], []⟩, lost := lost } }
/-- A sector whose old header has SSEQ 7 and ERASES 3; the CRC of the header was computed outside the model (zlib). -/
def oldSector : List Nat :=
  [0x7E, 0, 0, 0, 7, 0, 0, 0, 3, 0, 0, 0] ++ List.replicate 48 0xFF ++ [0x0C, 0x24, 0x84, 0x88] ++ List.replicate 4032 0xFF

theorem witness_Logbook_sectors :
    ((preparing id).mem.queue.find? (·.wire) = some sectorIn ∧ sectorIn.nin = 4096 ∧ sectorIn.poll = none ∧
      (preparing id).mem.log.prep = .verify ∧ (preparing id).mem.log.off = false) ∧
    (∀ b ∈ [true, false], (preparing fun l => { l with seen := some b }).mem.log.seen = some b) ∧
    ((preparing id).mem.log.seen = none ∧ (preparing id).mem.log.prep ≠ .again ∧
      (preparing fun l => { l with prep := .again, seen := some false }).mem.log.prep = .again ∧ (preparing id).canRaise 0x26 = true) ∧
    (∀ b ∈ [true, false], (mounted [] b).logState = logMounting ∧ (mounted [] b).mem.docked = false ∧ (mounted [] b).inMem MemJob.ofMount = false ∧
      (mounted [] b).mem.log.mount.lost = b) ∧
    ((mounted [] false).rd LOG_PARSECT).toNat ≤ (mounted [] false).mem.log.mount.pars.length ∧
    ((idle.put LOG_STAT 2 0 logMounting).mem.log.mount.pars.length < (idle.rd LOG_PARSECT).toNat) ∧
    (highSeq (mounted [.valid 1 65535 7] false).mem.log.mount.slots = some (65535, 7) ∧ highSeq (mounted [] false).mem.log.mount.slots = none ∧
      (mounted [] false).mem.log.mount.current = none ∧ idle.canRaise 0x26 = true) := by decide +kernel

set_option maxRecDepth 1000000 in
theorem witness_Logbook_header :
    (∃ i < 4096, oldSector.getD i 0 % 2 ^ sectorIn.wlen ≠ 0xFF) ∧ sectorHead (sectorIn.words oldSector) = some (7, 3) ∧
      (∀ i < 4096, (List.replicate 4096 0xFF).getD i 0 % 2 ^ sectorIn.wlen = 0xFF) :=
  ⟨⟨0, by decide +kernel⟩, by decide +kernel, fun i h => by
    rw [List.getD_eq_getElem?_getD, List.getElem?_replicate, if_pos h]; rfl⟩

/-- An ANNOUNCE frame of node `src`. -/
def ann (src : Nat) : MFrame := mframe 2 src 511 [0, 0, 0]
/-- The device as the anchor of its ring. -/
def anchor : State := (ring.modMoor fun m => { m with role := .anchor }).setb ML_STAT 7

theorem witness_MooringSlots :
    (idle.committed = true ∧ idle.awake = true ∧ idle.hasMooring = true ∧ idle.dev.bypassOpen = false) ∧
    ((ring.put ML_STAT 9 8 mlJoining).mlMode = mlJoining ∧ 0 < (ring.put ML_CTL 17 15 1).get ML_CTL 17 15 ∧ (ring.put ML_CTL 17 15 0).get ML_CTL 17 15 = 0) ∧
    (ring.mlMode = mlRing ∧ ring.moor.role = .repeater ∧ ring.moor.dockA = false ∧ ring.moor.dockB = false) ∧
    ((ring.modMoor fun m => { m with dockA := true }).moor.dockA = true ∧ (ring.modMoor fun m => { m with dockB := true }).moor.dockB = true) ∧
    ((ring.modMoor fun m => { m with out := [ann 5] }).moor.flight = none ∧ (ring.modMoor fun m => { m with out := [ann 5] }).moor.out ≠ []) ∧
    ((ring.modMoor fun m => { m with flight := some (ann 5) }).moor.flight ≠ none ∧ ring.moor.out = [] ∧
      (ring.modMoor fun m => { m with flight := some (ann 5) }).isOwn (ann 5) = true ∧ ring.numbered = true) ∧
    (frameOk (ann 9) = true ∧ ring.isOwn (ann 9) = false ∧ (ann 9).typ ≠ 3 ∧ frameOk { ann 9 with crc := (ann 9).crc + 1 } = false ∧
      ring.canRaise 0x29 = true) ∧
    (anchor.mlMode = mlRing ∧ anchor.moor.role ≠ .repeater ∧ anchor.moor.yields = false ∧ anchor.moor.dockA = false ∧
      anchor.moor.dockB = false ∧ (ann 9).mark = false ∧
      { ann 9 with mark := true }.mark = true ∧ anchor.isOwn (ann 9) = false ∧
      (anchor.modMoor fun m => { m with flight := some (ann 5) }).isOwn (ann 5) = true) ∧
    (anchor.modMoor fun m => { m with yields := true }).moor.yields = true := by decide +kernel

theorem witness_MooringChains :
    (ring.mlMode = mlRing ∧ ring.canRaise 0x27 = true ∧ ring.canRaise 0x2A = true ∧ ring.flag ML_STAT 5 = false ∧ ring.canRaise 0x28 = true) ∧
    ((chain.modMoor fun m => { m with dockA := true }).portDocked .a = true ∧ (chain.modMoor fun m => { m with dockB := true }).portDocked .b = true ∧
      chain.moor.dockA = false ∧ chain.moor.dockB = false) ∧
    (chain.mlMode = mlChain ∧ (chain.modMoor fun m => { m with outA := [ann 9], outB := [ann 9] }).moor.outA = ann 9 :: [] ∧
      (chain.modMoor fun m => { m with outA := [ann 9], outB := [ann 9] }).moor.outB = ann 9 :: [] ∧ chain.moor.outA = [] ∧ chain.moor.ownA = []) ∧
    (frameOk (ann 9) = true ∧ (ann 9).typ ≠ 0 ∧ (ann 9).typ ≠ 14 ∧ ¬((ann 9).src = chain.node? ∧ chain.numbered = true) ∧ (ann 9).typ ≠ 13 ∧
      chain.flag ML_STAT 5 = false ∧ chain.flag ML_STAT 6 = false) ∧
    ((chain.setb ML_STAT 5).flag ML_STAT 5 = true ∧ (chain.setb ML_STAT 6).flag ML_STAT 6 = true) ∧
    (frameOk (mframe 14 9 511 []) = true ∧ chain.moor.probes < 10 ∧ 10 ≤ (chain.modMoor fun m => { m with probes := 10 }).moor.probes ∧
      chain.maySend 13 = true ∧ frameOk { mframe 14 9 511 [] with typ := 15 } = false) ∧
    (frameOk (mframe 13 5 511 []) = true ∧ chain.numbered = true ∧ (mframe 13 5 511 []).src = chain.node? ∧ chain.moor.mute = false) ∧
    (frameOk (mframe 12 9 511 (wordsOf 3 100000)) = true ∧
      ofWords (mframe 12 9 511 (wordsOf 3 100000)).pay = (chain.tide.now + 100000) % 2 ^ 54 ∧
      frameOk (mframe 12 9 511 (wordsOf 3 0)) = true ∧ ofWords (mframe 12 9 511 (wordsOf 3 0)).pay = chain.tide.now ∧ chain.tide.now < 2 ^ 54) ∧
    (chain.modMoor fun m => { m with ringAt := some 7 }).moor.ringAt ≠ none := by decide +kernel

/-- A CLAIM from node 9 with APRI 7, a valid time and the UID `u`; an ANNOUNCE of node `k` by a device with the UID `u`. -/
def claimOf (apri : Word) (u : Nat) : MFrame := mframe 1 9 511 ((8 + apri) :: wordsOf 2 u)
/-- An ANNOUNCE of node `k`. -/
def annOf (k : Word) (u : Nat) : MFrame := mframe 2 9 511 (k :: wordsOf 2 u)
/-- A ROLL frame that offers numbers from `k` on. -/
def rollOf (src : Nat) (k : Word) : MFrame := mframe 3 src 511 [k]
/-- In RING mode without a number. -/
def unnumbered : State := ring.put ML_NODE 13 12 0
/-- In RING mode without a number, every number taken. -/
def full : State :=
  { idle with regs := (ML_STAT, 0x200) :: (List.range 29).map fun i => (ML_TAKEN0 + i, 0x3FFFF) }

theorem witness_AnchorAndNumbers :
    (∃ u ∈ [0, 1], u ≠ Config.uid ∧ ofWords ((claimOf 7 u).pay.drop 1) = u ∧ frameOk (claimOf 7 u) = true ∧ anchor.mlMode ≠ mlBypass ∧
      (claimOf 7 u).src < 512 ∧ anchor.moor.role ≠ .repeater ∧
      (⟨true, 7, u⟩ : Rank).above anchor.rank = true ∧
      ((anchor.setb ML_NODE 15).put ML_CTL 17 15 7).mlMode = mlRing ∧
      (⟨true, 3, u⟩ : Rank).above ((anchor.setb ML_NODE 15).put ML_CTL 17 15 7).rank = false) ∧
    (ring.deaf = false ∧ idle.deaf = true ∧ (ring.modMoor fun m => { m with dockA := true }).deaf = true) ∧
    ((anchor.put ML_CTL 17 15 1).get ML_CTL 17 15 ≠ 0 ∧ anchor.moor.mute = false ∧ (anchor.put ML_CTL 17 15 0).get ML_CTL 17 15 = 0) ∧
    ((ring.modMoor fun m => { m with role := .provisional }).moor.role = .provisional ∧ ring.mlMode ≠ mlBypass ∧ ring.moor.yields = false) ∧
    (∃ u ∈ [0, 1], u ≠ Config.uid ∧ ofWords ((annOf 5 u).pay.drop 1) = u ∧ frameOk (annOf 5 u) = true ∧
      (payWord (annOf 5 u) 0).getLsbD 10 = false ∧ bits (payWord (annOf 5 u) 0) 8 0 = 5 ∧ frameOk (annOf 511 u) = true ∧
      (payWord (annOf 511 u) 0).getLsbD 10 = false ∧ bits (payWord (annOf 511 u) 0) 8 0 = 511) ∧
    (ring.numbered = true ∧ ring.node? = 5 ∧ ring.canRaise 0x2D = true ∧ ring.flag ML_NODE 14 = false ∧ (ring.setb ML_NODE 14).flag ML_NODE 14 = true) ∧
    (ring.flag ML_STAT 7 = false ∧ anchor.flag ML_STAT 7 = true ∧ anchor.hasMooring = true ∧ anchor.awake = true ∧ anchor.numbered = true ∧
      anchor.moor.role = .anchor) ∧
    (frameOk (rollOf 5 6) = true ∧ (rollOf 5 6).src = ring.node? ∧ (rollOf 9 6).src ≠ ring.node? ∧ frameOk (rollOf 9 6) = true) ∧
    (unnumbered.numbered = false ∧ bits (payWord (rollOf 9 511) 0) 9 0 ≤ 511 ∧ unnumbered.flag (ML_TAKEN0 + 511 / 18) (511 % 18) = false) ∧
    (full.mlMode = mlRing ∧ full.numbered = false ∧ ∀ j < 512, full.flag (ML_TAKEN0 + j / 18) (j % 18) = true) ∧
    frameOk (mframe 4 9 511 [0]) = true := by
  refine ⟨?_, by decide +kernel, by decide +kernel, by decide +kernel, ?_, by decide +kernel, by decide +kernel, by decide +kernel, by decide +kernel,
    ⟨by decide, by decide, fun j hj => ?_⟩, by decide +kernel⟩
  · by_cases h : 0 = Config.uid
    · exact ⟨1, by decide +kernel, by omega, by decide +kernel⟩
    · exact ⟨0, by decide +kernel, h, by decide +kernel⟩
  · by_cases h : 0 = Config.uid
    · exact ⟨1, by decide +kernel, by omega, by decide +kernel⟩
    · exact ⟨0, by decide +kernel, h, by decide +kernel⟩
  · exact List.all_eq_true.mp (show (List.range 512).all (fun j => full.flag (ML_TAKEN0 + j / 18) (j % 18)) = true by decide +kernel) j
      (List.mem_range.mpr hj)


/-- The node takes TIME frames (ALIGN), `k` far ones in a row. -/
def aligning (k : Nat) : State := (ring.setb ML_NODE 15).modMoor fun m => { m with farRun := k }
/-- A TIME frame from node 9 with time `t`, fraction and correction 0. -/
def timeOf (t : Nat) : MFrame := mframe 5 9 511 (wordsOf 3 t ++ [0, 0, 0])

/-- An offset of 3 ticks was found 5 tide periods ago, over the wrap of the tide time. -/
def drifted : State := { aligning 2 with tide := { now := 4, lastOfs := some (3, 2 ^ 54 - 1) } }

theorem witness_TideAlignment :
    ring.mlMode = mlRing ∧
    ((anchor.setb ML_NODE 15).moor.role = .anchor ∧ (anchor.setb ML_NODE 15).rank.timeok = true ∧ anchor.mlMode = mlRing ∧
      anchor.numbered = true ∧ anchor.moor.mute = false) ∧
    (∀ t ∈ [0, 1, 2 ^ 53], (aligning 2).deaf = false ∧ frameOk (timeOf t) = true ∧ (aligning 2).flag ML_NODE 15 = true ∧
      ¬((aligning 2).numbered = true ∧ (timeOf t).src = (aligning 2).node?) ∧ (-2 : Int) ^ 61 ≤ -(256 * t : Nat) ∧ -(256 * t : Nat) < (2 : Int) ^ 61 ∧
      (((aligning 2).tide.now * 256 + (0 : Fin 256).val : Int) -
        (ofWords ((timeOf t).pay.take 3) * 256 + bits (payWord (timeOf t) 3) 7 0 + ofWords ((timeOf t).pay.drop 4)) - -(256 * t : Nat)) % 2 ^ 62 = 0) ∧
    (((aligning 2).rd ML_ALIGNLIM).toNat < 256 * 2 ^ 53 ∧ 2 ≤ (aligning 2).moor.farRun ∧ (aligning 2).moor.far = false ∧
      (aligning 2).canRaise 0x2B = true ∧ (0 : Int).natAbs ≤ ((aligning 2).rd ML_STEPLIM).toNat ∧
      ((aligning 2).rd ML_STEPLIM).toNat < 256 * 2 ^ 53 ∧ (∀ n, (aligning 2).bflag n BP_CTL 0 = false) ∧ (aligning 2).moor.role ≠ .anchor) ∧
    (running 0 (aligning 2)).bflag 0 BP_CTL 0 = true ∧ 0 < ((aligning 2).rd ML_ALIGNINT).toNat * 20000 ∧
    (aligning 2).tide.lastOfs = none ∧ (drifted.tide.lastOfs = some (3, 2 ^ 54 - 1) ∧ drifted.deaf = false ∧
      drifted.flag ML_NODE 15 = true ∧ 0 < (drifted.rd ML_ALIGNINT).toNat * 20000 ∧ 0 < since drifted.tide.now (2 ^ 54 - 1)) := by
  decide +kernel

/-- Offsets of -125 and 250 ticks, 1 ms apart and to be removed in 1 ms: 625 ticks over 20000 periods are 2048 in 2^-16 tick
per period (R508). -/
theorem test_time_correction : (match exec (.time (timeOf 20000) 250)
      { (aligning 0).wr ML_ALIGNINT 1 with tide := { now := 20000, lastOfs := some (-125, 0) } } with
    | .next t => t.tide.corr == -2048 && t.tide.now == 20000 | _ => false) = true := by decide +kernel

/-- Channel 3 is owned; berth 4 follows channel 3 of the ring. -/
def owning : State := ((ring.setb ML_DEMOWN0 3).bput 4 BD_CTL 1 0 3).bput 4 BD_CTL 16 11 3
/-- A FAULT frame of node 9: source 0x44, severity 7, at time 100. -/
def faultOf : MFrame := mframe 7 9 511 ((7 * 256 + 0x44) :: wordsOf 3 100)
/-- An INTERLEAVE frame for berth `n` of node `k`. -/
def ilvOf (k n : Word) : MFrame := mframe 10 9 511 [n * 512 + k, 0x8000]
/-- FAULT and LEDGER frames are received, LEDGER sent. -/
def receiving : State := ring.wr ML_CTL 0x3A00

/-- What `faultOf` is known by: its origin, source and time. -/
def faultKey : Nat × Nat × Nat := (9, 0x44, 100)

theorem witness_RingTraffic :
    (owning.maySend 6 = true ∧ owning.mlMode = mlRing ∧ 3 ∈ owning.ownChannels ∧ owning.demSrc 4 = 3 ∧
      owning.bget 4 BD_CTL 16 11 ∈ owning.ownChannels ∧ owning.demSrc 5 ≠ 3) ∧
    (frameOk (mframe 6 9 511 [2, 0, 0x8000]) = true ∧ owning.deaf = false ∧
      ¬(owning.numbered = true ∧ (mframe 6 9 511 [2, 0, 0x8000]).src = owning.node?) ∧ 1 + 1 < (mframe 6 9 511 [2, 0, 0x8000]).pay.length ∧
      owning.bget 4 BD_CTL 16 11 = bits (payWord (mframe 6 9 511 [2, 0, 0x8000]) 0) 5 0 + 1) ∧
    (frameOk faultOf = true ∧ receiving.deaf = false ∧ receiving.flag ML_CTL 9 = true ∧
      ¬(receiving.numbered = true ∧ faultOf.src = receiving.node?) ∧ receiving.get ML_CTL 5 3 ≤ bits (payWord faultOf 0) 10 8 ∧
      faultKey = (faultOf.src, bits (payWord faultOf 0) 7 0, ofWords (faultOf.pay.drop 1)) ∧ faultKey ∉ receiving.moor.taken ∧
      faultKey ∈ (receiving.modMoor fun m => { m with taken := [faultKey] }).moor.taken ∧ receiving.canRaise 0x2C = true) := by
  decide +kernel

theorem witness_RingTraffic_frames :
    ((ring.modMoor fun m => { m with copies := [faultOf] }).moor.copies = faultOf :: [] ∧ ring.maySend 7 = true) ∧
    (receiving.flag ML_CTL 13 = true ∧ receiving.maySend 9 = true ∧ ring.flag ML_CTL 13 = false) ∧
    (frameOk (mframe 9 9 511 [1, 0, 2, 0, 3, 0, 0, 0]) = true ∧ receiving.flag ML_CTL 12 = true) ∧
    ((ring.setb ML_ILVTX0 17).awake = true ∧ ring.hasMooring = true ∧ (ring.setb ML_ILVTX0 17).ilvPairs ≠ [] ∧ ring.maySend 10 = true ∧
      ring.ilvPairs = []) ∧
    (frameOk (ilvOf 5 11) = true ∧ (ilvOf 5 11).len = 2 ∧ ring.numbered = true ∧ (ilvOf 5 11).src ≠ ring.node? ∧
      bits (payWord (ilvOf 6 11) 0) 8 0 ≠ ring.node? ∧ bits (payWord (ilvOf 5 11) 0) 8 0 = ring.node? ∧
      bits (payWord (ilvOf 5 11) 0) 12 9 = (11 : Berth).val ∧ ring.outOfUse 11 = false ∧ ring.bflag 11 BP_CTL 0 = false ∧
      (running 11 ring).bflag 11 BP_CTL 0 = true) ∧
    ((receiving.setb ML_ILVMASK 11).flag ML_CTL 11 = true ∧ (receiving.setb ML_ILVMASK 11).flag ML_ILVMASK (11 : Berth).val = true ∧
      receiving.flag ML_ILVMASK (10 : Berth).val = false) ∧
    ((ring.modDev fun d => { d with bypassOpen := true }).dev.bypassOpen = true ∧ ring.writeFails .host [(ML_RLEDCLR, 1)] = none) := by
  decide +kernel

/-- Node 9 is the peer; a record for TH_FTHR of unit 0 is staged. -/
def peered : State :=
  { ((ring.put CS_PCNT 4 0 1).wr CS_PADR0 0x850).wr CS_PVAL0 (ring.prd 0x850) with prot := [(CS_PEER, 0x209)] }
/-- A CSIGN frame of the peer. -/
def csign (op pid idx : Nat) (r : List Word) : MFrame := mframe 8 9 5 (csW0 op pid idx :: r)
/-- `peered`, with record 0 of proposal 3 in the receive buffer. -/
def buffered : State := peered.modCs fun c => { c with bufPid := some 3, buf := [(0, 0x850, peered.prd 0x850)] }

theorem witness_CountersignProposals :
    (peered.proposalFails wayHost peered.staged true = none ∧ peered.proposalFails wayPeer peered.staged true = none ∧
      ({ peered with load := { decl := some { dcl with pilot := 5 } } } : State).proposalFails wayPilot peered.staged true = none ∧
      ({ peered with prot := [(CS_PEER, 0x209), (CS_SEAL, 1)] } : State).pflag CS_SEAL 0 = true ∧
      ({ peered with prot := [(CS_PEER, 0x209), (CS_SEAL, 1)] } : State).proposalFails wayHost peered.staged true = none) ∧
    (peered.awake = true ∧ peered.writeFails .host [(CS_CMD, 2)] = none ∧ (2 : Word).getLsbD 1 = true ∧
      peered.proposalFails (bits 2 5 5) peered.staged true = none ∧ idle.proposalFails (bits 2 5 5) idle.staged true = some 3 ∧
      (peered.put CS_PCNT 4 0 0).proposalFails (bits 2 5 5) (peered.put CS_PCNT 4 0 0).staged true = some 4 ∧ peered.canRaise 0xE7 = true) ∧
    (peered.csTakes (csign 0 3 15 [0x850, 0]) 0 = true ∧ csIndex (csign 0 3 15 [0x850, 0]) + 0 < 16 ∧
      idle.csTakes (csign 0 3 15 [0x850, 0]) 0 = false) ∧
    (buffered.csTakes (csign 1 3 0 [1]) 1 = true ∧ 1 = bits (payWord (csign 1 3 0 [1]) 1) 4 0 ∧ buffered.mlMode = mlRing ∧
      buffered.moor.mute = false ∧ buffered.proposalFails wayHost (buffered.cs.records 1) (buffered.csBuffered 3 1) = none ∧
      buffered.proposalFails wayHost (buffered.cs.records 2) (buffered.csBuffered 3 2) = some 4) ∧
    (peered.maySend 8 = true ∧ peered.csState = csIdle ∧ peered.get CS_PCNT 4 0 ≤ 16 ∧ 0 < peered.get CS_PCNT 4 0 ∧
      confirmed.csState ≠ csIdle ∧ peered.cs.txPid < 128) ∧
    (peered.csTakes (csign 4 3 0 [1]) 4 = true ∧ (csign 4 3 0 [1]).src = (peered.wr CS_TXDST 9).get CS_TXDST 8 0) := by decide +kernel

/-- The host's proposal waits for the pilot code, or for the peer's or the other host's confirmation; its age is `t`. -/
def proposed (who way t : Nat) : State :=
  { ((peered.put CS_STAT 1 0 csProposed).put CS_STAT 5 4 who).put CS_STAT 7 6 way with tide := { now := t } }
/-- `s` with the value `d` in CS_CONF0 and CS_CONF1. -/
def withConf (d : Nat) (s : State) : State := (s.wr CS_CONF0 (BitVec.ofNat 18 d)).put (CS_CONF0 + 1) 13 0 (d / 2 ^ 18)

set_option maxRecDepth 1000000 in
theorem witness_SecondVoiceAndApplication :
    ((proposed byMoor wayHost 0).awake = true ∧ (proposed byMoor wayHost 0).writeFails .host [(CS_CMD, 4)] = none ∧ (4 : Word).getLsbD 1 = false ∧
      (4 : Word).getLsbD 2 = true ∧ peered.csAwaits byMoor wayHost = false ∧ (proposed byMoor wayHost 0).csAwaits byMoor wayHost = true ∧
      (proposed byMoor wayHost 9999999).csWindowOver = false ∧ (proposed byMoor wayHost 10000000).csWindowOver = true ∧
      (proposed byMoor wayHost 0).csConf ≠ (proposed byMoor wayHost 0).digest ∧
      (withConf (proposed byMoor wayHost 0).digest (proposed byMoor wayHost 0)).csConf = (proposed byMoor wayHost 0).digest) ∧
    ((proposed byHost wayPilot 0).writeFails .host [(CS_CMD, 8)] = none ∧ (8 : Word).getLsbD 2 = false ∧ (8 : Word).getLsbD 3 = true ∧
      peered.csAwaits byHost wayPilot = false ∧ (proposed byHost wayPilot 0).csAwaits byHost wayPilot = true ∧
      (proposed byHost wayPilot 0).csConf ≠ (proposed byHost wayPilot 0).digest ^^^ (proposed byHost wayPilot 0).decl.pilot ∧
      (proposed byHost wayPilot 0).get CS_STAT 16 13 < 15 ∧ ((proposed byHost wayPilot 0).put CS_STAT 16 13 7).get CS_STAT 16 13 = 7) ∧
    ((proposed byHost wayPeer 0).writeFails .host [(CS_CMD, 16)] = none ∧ (16 : Word).getLsbD 4 = true ∧ (16 : Word).getLsbD 3 = false ∧
      (proposed byHost wayPeer 0).csState ≠ csIdle ∧ (proposed byHost wayPeer 0).csProposer = byHost) ∧
    ((proposed byHost wayPeer 0).csTakes (csign 2 3 0 [1, 2]) 2 = true ∧ (proposed byHost wayPeer 0).csAwaits byHost wayPeer = true ∧
      (payWord (csign 2 3 0 [1, 2]) 1).toNat + 2 ^ 18 * bits (payWord (csign 2 3 0 [1, 2]) 2) 13 0 ≠ (proposed byHost wayPeer 0).digest) ∧
    (((proposed byMoor wayHost 0).put CS_PNODE 15 0 (3 * 512 + 9)).csTakes (csign 3 3 0 []) 3 = true ∧
      (proposed byMoor wayHost 0).csProposer = byMoor ∧ csPid (csign 3 3 0 []) = ((proposed byMoor wayHost 0).put CS_PNODE 15 0 (3 * 512 + 9)).get CS_PNODE 15 9) ∧
    ((proposed byHost wayPeer 0).csState = csProposed ∧ confirmed.csState = csConfirmed ∧ confirmed.staged.all confirmed.safePoint = true ∧
      confirmed.canRaise 0xE8 = true) := by decide +kernel

/-- A confirmed proposal that sets BG_SCTHR of berth 0 to 0x1E, as in the worked case of chapter 17. -/
def confirmedSc : State := ((idle.put CS_STAT 1 0 csConfirmed).put CS_PCNT 4 0 1).wrs
  [(CS_PADR0, BitVec.ofNat 18 0x4094), (CS_PVAL0, 0x1E)]

/-- The new threshold acts from the berth's next boundary, not at its application (R534). -/
theorem test_threshold_waits : (match exec .application confirmedSc with
    | .next t => t.pget (ba 0 BG_SCTHR) 7 0 == 0x1E && t.scThr 0 == 0x32 && (t.modPwm 0 fun q => { q with scFrom := none }).scThr 0 == 0x1E &&
        ({ t with tide := { now := 800 } } : State).scThr 0 == 0x1E && ({ t with tide := { now := 799 } } : State).scThr 0 == 0x32
    | _ => false) = true := by decide +kernel

/-- The word of DD_CMD for an action and a part code (R540, R541). -/
def dd (act part : Nat) : Word := BitVec.ofNat 18 (act * 32768 + part)

theorem witness_Docking :
    (idle.awake = true ∧ bits (dd actDock 22) 17 15 = actDock ∧ partOf (bits (dd actDock 0) 4 0) = some (.berth 0) ∧
      partOf (bits (dd actDock 22) 4 0) = some .portB) ∧
    (idle.writeFails .host [(DD_CMD, dd actDock 0)] = none ∧ (running 0 idle).bst 0 = stRunning ∧
      (running 0 idle).writeFails .host [(DD_CMD, dd actDock 0)] = none ∧ idle.bst 0 ≠ stRunning ∧ idle.bst 0 ≠ stStopping) ∧
    (idle.writeFails .host [(DD_CMD, dd actDock 12)] = none ∧ idle.lane 0 = 0) ∧
    ((tenderIn 1 tdRegulating idle).writeFails .host [(DD_CMD, dd actDock 18)] = none ∧ (tenderIn 1 tdRegulating idle).tdState 1 = tdRegulating ∧
      (tenderIn 1 tdOff idle).writeFails .host [(DD_CMD, dd actDock 18)] = none ∧ (tenderIn 1 tdOff idle).tdState 1 = tdOff) ∧
    (idle.writeFails .host [(DD_CMD, dd actDock 20)] = none ∧ idle.mem.docked = false) ∧
    (idle.writeFails .host [(DD_CMD, dd actDock 21)] = none ∧ idle.writeFails .host [(DD_CMD, dd actDock 22)] = none) ∧
    (((berthIn 4 stDrydock idle).modBerth 4 fun b => { b with dockEntry := true }).bst 4 = stDrydock ∧
      (((berthIn 4 stDrydock idle).modBerth 4 fun b => { b with dockEntry := true }).berth 4).dockEntry = true ∧
      idle.shortsLow 4 = false ∧ idle.bflag 4 BP_TRIP 6 = false ∧ idle.halted = false ∧ (idle.berth 4).dockEntry = false) := by decide

/-- Berth `n` docked, its stream held. -/
def docked (n : Berth) : State := (berthIn n stDrydock idle).modHost fun h => { h with held := 1#12 <<< n.val }
/-- Berth 3 docked, its reload in progress. -/
def reloading (b : List Nat) (lost : Bool) : State :=
  { docked 3 with dock := { reload := some (.berth 3, 0) }, load := { decl := some dcl, got := [b], lost := lost } }
/-- Results of a self-test of a berth; the offsets are 0, and the low voltage level of phase W is wrong by `d`. -/
def tested (d : Int) : SelfTest :=
  { hi := ⟨Tri.all 65536, Tri.all 65536⟩, lo := ⟨Tri.all (-65536), ⟨16384, 16384, 16384 + d⟩⟩, pass := true }

set_option maxRecDepth 1000000 in
theorem witness_DrydockWork :
    ((docked 3).awake = true ∧ (docked 3).writeFails .host [(DD_CMD, dd actUndock 3)] = none ∧ bits (dd actUndock 3) 17 15 = actUndock ∧
      partOf (bits (dd actUndock 3) 4 0) = some (.berth 3)) ∧
    ((idle.putLane 1 3).writeFails .host [(DD_CMD, dd actUndock 13)] = none ∧ partOf (bits (dd actUndock 13) 4 0) = some (.lane 1)) ∧
    ((tenderIn 1 tdDocked idle).writeFails .host [(DD_CMD, dd actUndock 18)] = none ∧ ((tenderIn 1 tdDocked idle).tender 1).dockWait = false) ∧
    (((idle.put LOG_STAT 2 0 logDocked).modMem fun m => { m with docked := true, log := { m.log with before := logReady } }).writeFails .host
        [(DD_CMD, dd actUndock 20)] = none) ∧
    ((idle.modMoor fun m => { m with dockA := true }).writeFails .host [(DD_CMD, dd actUndock 21)] = none ∧
      (idle.modMoor fun m => { m with dockB := true }).writeFails .host [(DD_CMD, dd actUndock 22)] = none) ∧
    ((berthIn 3 stSeaTrial idle).bst 3 = stSeaTrial ∧ idle.canRaise 0xE9 = true ∧ idle.bflag 3 BP_TRIP 6 = false ∧ idle.bst 3 ≠ stSeaTrial) ∧
    ((docked 3).writeFails .host [(DD_CMD, dd actSelftest 3)] = none ∧ (docked 3).writeFails .host [(DD_CMD, dd actReload 3)] = none ∧
      (docked 3).writeFails .host [(DD_CMD, dd actCancelq 3)] = none ∧ bits (dd actCancelq 3) 17 15 = actCancelq) ∧
    (idle.ddCommandFails (dd actUndock 3) = true ∧ ({ docked 3 with dock := { selftests := [.berth 3] } } : State).testing (.berth 3) = true ∧
      idle.canRaise 0xEB = true ∧ idle.testing (.berth 3) = false) ∧
    (idle.testPasses (.berth 3) (tested 163) = true ∧ idle.testPasses (.berth 3) (tested 164) = false ∧
      idle.failedChannels 3 (tested 163) = 0) := by decide +kernel

set_option maxRecDepth 1000000 in
theorem witness_DrydockWork_reload :
    (∀ b ∈ [[], image], (reloading b false).dock.reload = some (.berth 3, 0) ∧ (reloading b false).image .reload = some b) ∧
    (((reloading [] false).reloadCheck (.berth 3) []).1 ≠ 1 ∧ ((reloading [] false).reloadCheck (.berth 3) []).1 < 16 ∧
      idle.canRaise 0xEA = true ∧ ((reloading image false).reloadCheck (.berth 3) image).1 = 1) ∧
    ((reloading [] true).load.lost = true ∧ (reloading [] false).load.lost = false ∧
      ((reloading [] false).modMem fun m => { m with queue := [loaderRead .reload 0 168] }).inMem (· == .reload) = true) ∧
    (({ reloading [] false with prot := [(CS_SEAL, 1)] } : State).pflag CS_SEAL 0 = true ∧ sealedImage image = false ∧
      idle.dock.reload = none) := by
  decide +kernel

/-! ### Ill-formed terms -/

/-- A mooring frame that fits, and the one field that `f` changes. -/
def badFrame (f : MFrame → MFrame) : Bool := (Instr.probe (mframe 1 9 511 [0, 0])).wf && !(Instr.probe (f (mframe 1 9 511 [0, 0]))).wf
theorem test_wf_frame : badFrame (fun f => { f with typ := 32 }) = true ∧ badFrame (fun f => { f with len := 3 }) = true ∧
    badFrame (fun f => { f with pay := List.replicate 33 0, len := 33 }) = true ∧ badFrame (fun f => { f with src := 1024 }) = true ∧
    badFrame (fun f => { f with hops := 1024 }) = true ∧ badFrame (fun f => { f with dst := 1024 }) = true ∧
    badFrame (fun f => { f with crc := 65536 }) = true := by decide +kernel
theorem test_wf_host : (Instr.read (hframe [0, 0] 0)).wf = true ∧ (Instr.read { hframe [0, 0] 0 with words := [262144] }).wf = false ∧
    (Instr.read { hframe [0, 0] 0 with partialBits := 18 }).wf = false := by decide +kernel
theorem test_wf_address : (Instr.registerWrite .host 65535 0).wf = true ∧ (Instr.registerWrite .host 65536 0).wf = false ∧
    (Instr.pendingClear 65536 0).wf = false ∧ (Instr.fabricStall none).wf = true ∧ (Instr.fabricStall (some (.host, 1, 65536))).wf = false := by decide
theorem test_wf_raw : (Instr.resultSet 0 ⟨⟨131071, 0, -131072⟩, ⟨0, 0, 0⟩⟩).wf = true ∧
    (Instr.resultSet 0 ⟨⟨131072, 0, 0⟩, ⟨0, 0, 0⟩⟩).wf = false ∧
    (Instr.conversionTimeout 0 ⟨⟨true, false, false⟩, ⟨false, false, false⟩⟩ ⟨⟨0, 0, 0⟩, ⟨0, -131073, 0⟩⟩).wf = false ∧
    (Instr.selftestDone (.berth 0) (tested 0)).wf = true ∧ (Instr.selftestDone (.berth 0) (tested 131072)).wf = false ∧
    (Instr.memoryEntryComplete [262143]).wf = true ∧ (Instr.memoryEntryComplete [262144]).wf = false := by decide
theorem test_wf_entry : (Instr.entryRun 63 none).wf = true ∧ (Instr.entryRun 64 none).wf = false ∧ (Instr.entryComplete 64).wf = false := by
  decide

/-! ### Check values of the codes the spec names, and its worked cases -/

/-- The published check values of CRC-16/CCITT-FALSE and CRC-32 over "123456789" (R421, R117). -/
theorem test_crc : crc16 [0x31, 0x32, 0x33, 0x34, 0x35, 0x36, 0x37, 0x38, 0x39] = 0x29B1 ∧
    crc32 [0x31, 0x32, 0x33, 0x34, 0x35, 0x36, 0x37, 0x38, 0x39] = 0xCBF43926 := by decide +kernel

set_option maxRecDepth 100000 in
/-- Example 1 of RFC 4493: the AES-CMAC of the empty message. -/
theorem test_cmac : aesCmac [0x2b, 0x7e, 0x15, 0x16, 0x28, 0xae, 0xd2, 0xa6, 0xab, 0xf7, 0x15, 0x88, 0x09, 0xcf, 0x4f, 0x3c] [] =
    [0xbb, 0x1d, 0x69, 0x29, 0xe9, 0x59, 0x37, 0x28, 0x7f, 0xa3, 0x7d, 0x12, 0x9b, 0x75, 0x67, 0x46] := by decide +kernel

/-- The fan curve of the worked case after R329. -/
def fan : State := idle.wrs [(ba 8 BD_CCTLA, 0x23), (ba 8 BD_CXA0, 0x199A), (ba 8 (BD_CXA0 + 1), 0x8000), (ba 8 (BD_CXA0 + 2), 0xE666),
  (ba 8 BD_CYA0, 0x4000), (ba 8 (BD_CYA0 + 1), 0xA000), (ba 8 (BD_CYA0 + 2), 0xF333)]
theorem test_curve : fan.curve 8 19661 = 28672 ∧ fan.curve 8 0xE666 = 0xF333 := by decide +kernel

/-- The berth of the worked case before R254. -/
def modulating : State := idle.wrs [(ba 2 BP_PERIOD, 204800), (ba 2 BP_DEADTA, 104), (ba 2 BF_CTL, 16), (ba 2 BF_DTCBAND, 3277), (ba 2 BF_MINPW, 1024)]
theorem test_modulate : modulate modulating 2 ⟨19661, 1521, -21182⟩ 0x10000 ⟨26214, 1311, -27525⟩ = (⟨166320, 109570, 38477⟩, false) ∧
    placeCompare 204800 166320 = (0x4B28, 0x2D4D8) ∧ placeCompare 204800 109570 = (0xB9FF, 0x26601) ∧
    placeCompare 204800 38477 = (0x144D9, 0x1DB26) := by decide +kernel

/-- The words of the confirmation in the worked case after R536: their value is the digest against the pilot code. -/
theorem test_pilot : (idle.wrs [(CS_CONF0, 0x35687), (CS_CONF0 + 1, 0x74E)]).csConf = 0x12345678 ^^^ 0x0F0F00FF := by decide +kernel

/-- The current scale of the worked case after R250: 50 A of 100 A. -/
theorem test_scale : rdiv (32000 * 67109) 65536 = 32768 := by decide

/-! ### Words of the opcode table -/

/-- The table gives no row bits, so no word spells a command. -/
theorem test_decode : decodeTableWord 0 0 = none ∧ (State.reset.withFetchWord 0 0 = State.reset) := by decide +kernel

end Sys2Proof.Tests
end

section
/-! What a reset leaves, and the length of a low pulse on RSTN (R81, R82, R84). -/

namespace Sys2Proof.Machine

/-! ### Registers after a reset -/

/-- No register but PWR_RSTCAUSE and PWR_VGDSTAT is written while the device enters reset. -/
theorem State.enterReset_rd_other (s : State) (cause a : Nat) (hc : a ≠ PWR_RSTCAUSE) (hv : a ≠ PWR_VGDSTAT) :
    (s.enterReset cause).rd a = resetWord a := by
  unfold State.enterReset
  rw [State.rd_put, if_neg hv, State.rd_put, if_neg hc]
  rfl

/-- The VGD bits of PWR_VGDSTAT show the supply, which a reset does not touch. -/
theorem State.enterReset_vgd (s : State) (cause : Nat) :
    (s.enterReset cause).get PWR_VGDSTAT 1 0 = s.get PWR_VGDSTAT 1 0 := by
  unfold State.enterReset
  rw [State.get_put_same _ _ _ _ _ (by decide) (by decide)]
  exact Nat.mod_eq_of_lt (bits_lt _ 1 0)

/-- The causes shown so far fit PWR_RSTCAUSE. -/
theorem State.oldCauses_lt (s : State) : s.oldCauses < 2 ^ 9 := by
  unfold State.oldCauses
  split
  · exact bits_lt _ 8 0
  · decide

/-- PWR_RSTCAUSE adds the new cause to those shown so far: the field holds every cause, so none is cut off (R81). -/
theorem State.enterReset_causes (s : State) (cause : Nat) (h : cause < 9) :
    (s.enterReset cause).get PWR_RSTCAUSE 8 0 = s.oldCauses ||| 2 ^ cause := by
  have fits : s.oldCauses ||| 2 ^ cause < 2 ^ 9 :=
    Nat.or_lt_two_pow s.oldCauses_lt (Nat.pow_lt_pow_right (by decide) h)
  unfold State.enterReset
  rw [State.get_put_other _ _ _ _ _ _ _ _ (by decide), State.get_put_same _ _ _ _ _ (by decide) (by decide)]
  exact Nat.mod_eq_of_lt fits

/-- Entering reset for a cause of PWR_RSTCAUSE leaves what R84 says, and adds the cause to those shown so far (R81). -/
theorem State.enterReset_resetFrom (s : State) (cause : Nat) (h : cause < 9) :
    s.ResetFrom (s.enterReset cause) (s.oldCauses ||| 2 ^ cause) :=
  ⟨rfl, s.enterReset_causes cause h, s.enterReset_rd_other cause, s.enterReset_vgd cause, fun _ => rfl,
    rfl, rfl, rfl, rfl, rfl, rfl, rfl, rfl⟩

/-- A reset does not depend on how many free values have been used before it. -/
theorem State.enterReset_useFree_resetFrom (s : State) (k cause : Nat) (h : cause < 9) :
    s.ResetFrom ((s.useFree k).enterReset cause) (s.oldCauses ||| 2 ^ cause) :=
  (s.useFree k).enterReset_resetFrom cause h

/-! ### A low pulse on RSTN (R82) -/

/-- A pulse below 0.5 µs changes nothing. -/
theorem exec_rstnLow_short (s : State) (ns : Nat) (h : ns < 500) : exec (.rstnLow ns) s = .next s :=
  congrArg Host.Outcome.next (if_pos (.inr h))

/-- From 0.5 µs on, a pulse acts on a device that has power: as its length says, or as the next free value does. -/
theorem exec_rstnLow_acts (s : State) (ns : Nat) (h : 500 ≤ ns) (hm : s.dev.mode ≠ .unpowered) :
    exec (.rstnLow ns) s = .next (
      if 2000 ≤ ns then s.enterReset 3
      else if s.freeVal % 2 = 0 then s.useFree 1
      else (s.useFree 1).enterReset 3) :=
  congrArg Host.Outcome.next (if_neg (not_or.mpr ⟨hm, Nat.not_lt.mpr h⟩))

/-- A pulse of 2 µs or longer resets a device that has power. -/
theorem exec_rstnLow_long (s : State) (ns : Nat) (h : 2000 ≤ ns) (hm : s.dev.mode ≠ .unpowered) :
    exec (.rstnLow ns) s = .next (s.enterReset 3) := by
  rw [exec_rstnLow_acts s ns (by omega) hm, if_pos h]

/-- On a pulse between the two lengths the next free value is used up; an even one leaves the device alone, an odd one
resets it. -/
theorem exec_rstnLow_between (s : State) (ns : Nat) (h : 500 ≤ ns) (h' : ns < 2000) (hm : s.dev.mode ≠ .unpowered) :
    exec (.rstnLow ns) s = .next (if s.freeVal % 2 = 0 then s.useFree 1 else (s.useFree 1).enterReset 3) := by
  rw [exec_rstnLow_acts s ns h hm, if_neg (Nat.not_le.mpr h')]

/-- Settles O11: below 0.5 µs nothing happens, from 2 µs on the device resets, and between the two the free value
decides. -/
theorem rstnPulseLengths : Obligations.RstnPulseLengths := by
  refine fun s ns => ⟨exec_rstnLow_short s ns, fun h h' hm => ?_, fun h hm => ?_⟩
  · by_cases even : s.freeVal % 2 = 0
    · left
      rw [exec_rstnLow_between s ns h h' hm, if_pos even]
    · right
      refine ⟨_, ?_, s.enterReset_useFree_resetFrom 1 3 (by decide)⟩
      rw [exec_rstnLow_between s ns h h' hm, if_neg even]
  · exact ⟨_, exec_rstnLow_long s ns h hm, s.enterReset_resetFrom 3 (by decide)⟩

end Sys2Proof.Machine
end

section
/-! The both-on interlock and the short-circuit protection (R197 to R204, R366): what a protection that turns a switch off
leaves of its half-bridge, of BG_EVT, of its count and of the collector. -/

namespace Sys2Proof.Machine

/-! ### Registers that read alike -/

theorem State.bget_of_rd {s t : State} {n : Berth} {o : Nat} (h : t.rd (ba n o) = s.rd (ba n o)) (hi lo : Nat) :
    t.bget n o hi lo = s.bget n o hi lo :=
  congrArg (bits · hi lo) h

theorem State.bflag_of_rd {s t : State} {n : Berth} {o : Nat} (h : t.rd (ba n o) = s.rd (ba n o)) (b : Nat) :
    t.bflag n o b = s.bflag n o b :=
  congrArg (fun w => bits w b b == 1) h

theorem State.outOfUse_of_rd {s t : State} {n : Berth} (h : t.rd (ba n BL_STATE) = s.rd (ba n BL_STATE)) :
    t.outOfUse n = s.outOfUse n :=
  congrArg (· == stOut) (State.bget_of_rd h 3 0)

theorem State.bflag_bset_same (s : State) (n : Berth) (o b : Nat) (hb : b < 18) : (s.bset n o b).bflag n o b = true :=
  State.flag_put_same s (ba n o) b 1 hb

/-- Another register of the berth whose field is written. -/
theorem State.rd_bput_ba (s : State) (n : Berth) (o hi lo v r : Nat) (h : r ≠ o) :
    (s.bput n o hi lo v).rd (ba n r) = s.rd (ba n r) := by
  unfold State.bput
  rw [State.rd_put, if_neg (mt (ba_same n r o).mp h)]

theorem State.rd_bset_ba (s : State) (n : Berth) (o b r : Nat) (h : r ≠ o) : (s.bset n o b).rd (ba n r) = s.rd (ba n r) :=
  s.rd_bput_ba n o b b 1 r h

@[simp] theorem State.leg_put (s : State) (a hi lo v : Nat) (n : Berth) (p : Phase) : (s.put a hi lo v).leg n p = s.leg n p := rfl
@[simp] theorem State.leg_bset (s : State) (n m : Berth) (o b : Nat) (p : Phase) : (s.bset n o b).leg m p = s.leg m p := rfl
@[simp] theorem State.leg_bput (s : State) (n m : Berth) (o hi lo v : Nat) (p : Phase) :
    (s.bput n o hi lo v).leg m p = s.leg m p := rfl
@[simp] theorem State.leg_modSens (s : State) (n : Berth) (f : SensSt → SensSt) (p : Phase) :
    (s.modSens n f).leg n p = s.leg n p := by
  unfold State.leg State.modSens
  rw [State.berth_modBerth, if_pos rfl]

/-! ### Raising a source -/

/-- Whether a source can be raised depends on the device and the collector alone. -/
theorem State.canRaise_of_parts {s t : State} (hd : t.dev = s.dev) (hc : t.coll = s.coll) (k : Nat) :
    t.canRaise k = s.canRaise k := by
  simp only [State.canRaise, State.awake, State.pairIdle, hd, hc]

theorem State.Raised.of_coll {s t : State} (h : t.coll = s.coll) {k : Nat} (hr : s.Raised k) : t.Raised k := by
  unfold State.Raised at *
  rwa [h]

theorem State.raiseBerth_raised (s : State) (n : Berth) (k forced : Nat) (hu : s.outOfUse n = false)
    (hk : s.canRaise (0x80 + 8 * n.val + k) = true) : (s.raiseBerth n k forced).Raised (0x80 + 8 * n.val + k) := by
  unfold State.raiseBerth
  rw [if_neg (by simp [hu])]
  exact s.raise_raised _ hk

@[simp] theorem State.leg_raiseBerth (s : State) (n m : Berth) (k forced : Nat) (p : Phase) :
    (s.raiseBerth n k forced).leg m p = s.leg m p := by
  unfold State.raiseBerth
  split
  · rfl
  · rw [State.raise_eq]; rfl

@[simp] theorem State.tender_raiseTender (s : State) (u v : Tender) (k : Nat) :
    (s.raiseTender u k).tender v = s.tender v := by
  unfold State.raiseTender State.raiseAll
  rw [State.raise_eq]; rfl

theorem State.raiseTender_regs (s : State) (u : Tender) (k : Nat) : (s.raiseTender u k).regs = s.regs :=
  State.raise_regs _ _

/-! ### The offset calibration that waits in drydock (R543) -/

@[simp] theorem State.leg_startCal (s : State) (n : Berth) (p : Phase) : (s.startCal n).leg n p = s.leg n p := by
  unfold State.startCal
  dsimp only
  split
  · rw [State.leg_put, State.leg_modSens, State.leg_bset]
  · rw [State.leg_modSens, State.leg_bset]

/-- A calibration that starts writes no register of the berth but BS_SENSE. -/
theorem State.rd_startCal_ba (s : State) (n : Berth) (o : Nat) (h : o ≠ BS_SENSE) :
    (s.startCal n).rd (ba n o) = s.rd (ba n o) := by
  have page : DD_BSTAT0 + n.val < 0x4000 := by have := n.isLt; show 0xC50 + n.val < 0x4000; omega
  unfold State.startCal
  dsimp only
  split
  · rw [State.rd_put, if_neg (ba_ne_page n o _ page), State.rd_modSens, State.rd_bset_ba _ _ _ _ _ h]
  · rw [State.rd_modSens, State.rd_bset_ba _ _ _ _ _ h]

@[simp] theorem State.leg_dockCal (s : State) (n : Berth) (p : Phase) : (s.dockCal n).leg n p = s.leg n p := by
  unfold State.dockCal
  split
  · exact State.leg_startCal _ n p
  · rfl

theorem State.rd_dockCal_ba (s : State) (n : Berth) (o : Nat) (h : o ≠ BS_SENSE) :
    (s.dockCal n).rd (ba n o) = s.rd (ba n o) := by
  unfold State.dockCal
  split
  · exact State.rd_startCal_ba _ n o h
  · rfl

theorem State.dockCal_within (s : State) (n : Berth) : s.Within (s.dockCal n) [.berth n, .dock, .page 12] :=
  State.Within.refl.dockCal n (by simp) (by simp) (by simp)

theorem State.dockCal_coll (s : State) (n : Berth) : (s.dockCal n).coll = s.coll := (s.dockCal_within n).coll (by simp)
theorem State.dockCal_dev (s : State) (n : Berth) : (s.dockCal n).dev = s.dev := (s.dockCal_within n).dev (by simp)

/-! ### A half-bridge whose switches are cut -/

@[simp] theorem State.rd_cutLeg (s : State) (n : Berth) (p : Phase) (hi lo : Bool) (f : Leg → Leg) (a : Nat) :
    (s.cutLeg n p hi lo f).rd a = s.rd a := rfl

theorem State.leg_cutLeg (s : State) (n : Berth) (p : Phase) (hi lo : Bool) (f : Leg → Leg) :
    (s.cutLeg n p hi lo f).leg n p = f ((s.leg n p).cut hi lo (s.tickOf n) (s.bget n BG_REFW 14 0)) := by
  unfold State.cutLeg
  rw [State.leg_modLeg, if_pos ⟨rfl, rfl⟩]

/-- A cut turns off the switches that it names. -/
@[simp] theorem Leg.cut_hi (l : Leg) (lo : Bool) (t w : Nat) : (l.cut true lo t w).hi = false := by simp [Leg.cut]
@[simp] theorem Leg.cut_lo (l : Leg) (hi : Bool) (t w : Nat) : (l.cut hi true t w).lo = false := by simp [Leg.cut]

/-! ### The both-on interlock (R197, R198, R366) -/

/-- Both outputs are off, and both switches are held by the interlock. -/
theorem State.interlockBerth_leg (s : State) (n : Berth) (p : Phase) :
    ((s.interlockBerth n p).leg n p).hi = false ∧ ((s.interlockBerth n p).leg n p).lo = false ∧
      ((s.interlockBerth n p).leg n p).ilkHi = true ∧ ((s.interlockBerth n p).leg n p).ilkLo = true := by
  unfold State.interlockBerth
  rw [State.leg_dockCal, State.leg_raiseBerth, State.leg_bset, State.leg_cutLeg]
  simp

theorem State.interlockBerth_event (s : State) (n : Berth) (p : Phase) :
    (s.interlockBerth n p).bflag n BG_EVT (3 + p.idx) = true := by
  have fits : 3 + p.idx < 18 := by have := Phase.idx_lt p; omega
  unfold State.interlockBerth
  rw [State.bflag_of_rd ((State.rd_dockCal_ba _ n BG_EVT (by decide)).trans (State.rd_raiseBerth ..))]
  exact State.bflag_bset_same _ n BG_EVT _ fits

theorem State.interlockBerth_raised (s : State) (n : Berth) (p : Phase) (hu : s.outOfUse n = false)
    (hk : s.canRaise (0x80 + 8 * n.val + 1) = true) : (s.interlockBerth n p).Raised (0x80 + 8 * n.val + 1) := by
  have kept : ∀ f, ((s.cutLeg n p true true f).bset n BG_EVT (3 + p.idx)).outOfUse n = false := fun f =>
    (State.outOfUse_of_rd (State.rd_bset_ba _ _ _ _ _ (by decide))).trans hu
  exact (State.raiseBerth_raised _ n 1 0 (kept _) hk).of_coll (State.dockCal_coll _ n)

/-- An interlock event of a tender: both gates off and held. -/
def State.interlockTender (s : State) (u : Tender) : State :=
  ((s.tdCut u).modTender u fun x => { x with ilk := true, ilkBusy := true }).raiseTender u 0x4D

theorem State.interlockTender_tender (s : State) (u : Tender) :
    ((s.interlockTender u).tender u).hi = false ∧ ((s.interlockTender u).tender u).lo = false ∧
      ((s.interlockTender u).tender u).ilk = true := by
  unfold State.interlockTender State.tdCut
  rw [State.tender_raiseTender, State.tender_modTender, if_pos rfl, State.tender_modTender, if_pos rfl]
  exact ⟨rfl, rfl, rfl⟩

theorem State.interlockTender_within (s : State) (u : Tender) : s.Within (s.interlockTender u) [.tender u, .coll] :=
  ((State.Within.refl.tdCut u (by simp)).modTender u _ (by simp)).raiseTender u _ (by simp)

theorem State.interlockTender_raised (s : State) (u : Tender) (hk : s.canRaise 0x4D = true) :
    (s.interlockTender u).Raised 0x4D :=
  State.raise_raised _ { src := 0x4D, affected := _, adr := ta u TD_EVT } hk

theorem exec_interlockEvent_berth (s : State) (n : Berth) (p : Phase) (hs : s.inService = true) (hu : s.outOfUse n = false) :
    exec (.interlockEvent (.berth n p)) s = .next (s.interlockBerth n p) :=
  congrArg Host.Outcome.next (if_pos (by simp [hs, hu]))

theorem exec_interlockEvent_tender (s : State) (u : Tender) (h : s.tdHere u = true) :
    exec (.interlockEvent (.tender u)) s = .next (s.interlockTender u) :=
  congrArg Host.Outcome.next (if_pos h)

/-! ### A short-circuit detection (R199 to R204) -/

@[simp] theorem State.rd_noteDetect (s : State) (n : Berth) (p : Phase) (a : Nat) : (s.noteDetect n p).rd a = s.rd a := rfl

/-- A detection that is noted changes of the half-bridges its own tick alone. -/
theorem State.leg_noteDetect (s : State) (n : Berth) (p r : Phase) :
    (s.noteDetect n p).leg n r = if r = p then { s.leg n p with scAt := some (s.tickOf n) } else s.leg n r := by
  unfold State.noteDetect
  rw [State.leg_modSens, State.leg_modLeg]
  simp

theorem State.pwm_noteDetect (s : State) (n : Berth) (p : Phase) : ((s.noteDetect n p).berth n).pwm = (s.berth n).pwm := by
  unfold State.noteDetect State.modSens State.modLeg
  rw [State.berth_modBerth, if_pos rfl, State.berth_modBerth, if_pos rfl]

/-- The output of a switch, and its hold by the short-circuit protection. -/
def Leg.out (l : Leg) : Side → Bool
  | .high => l.hi | .low => l.lo
def Leg.scHeld (l : Leg) : Side → Bool
  | .high => l.scHi | .low => l.scLo
def Leg.scHold (l : Leg) : Side → Leg
  | .high => { l with scHi := true } | .low => { l with scLo := true }

/-- A detection turns a switch off and holds it, and shows in BG_EVT (R200). -/
def State.scTurnOff (s : State) (n : Berth) (p : Phase) (sd : Side) : State :=
  (((s.noteDetect n p).cutLeg n p (sd == .high) (sd == .low) fun l => l.scHold sd).bset n BG_EVT (9 + switchIdx p sd)).dockCal n

/-- The count of a switch's detections becomes `c`, and at the eighth it returns to 0 with source k = 0 raised (R204). -/
def State.scCount (s : State) (n : Berth) (p : Phase) (sd : Side) (c : Nat) : State :=
  let i := switchIdx p sd
  if c = 8 then (s.bput n BG_SCCNT (3 * i + 2) (3 * i) 0).raiseBerth n 0 else s.bput n BG_SCCNT (3 * i + 2) (3 * i) c

/-- What a detection does to the switch that conducts. -/
def State.scProtect (s : State) (n : Berth) (p : Phase) (sd : Side) : State :=
  (s.scTurnOff n p sd).scCount n p sd (s.bget n BG_SCCNT (3 * switchIdx p sd + 2) (3 * switchIdx p sd) + 1)

theorem State.scDetect_hi (s : State) (n : Berth) (p : Phase) (hi : (s.leg n p).hi = true) :
    s.scDetect n p = s.scProtect n p .high := by
  simp only [State.scDetect, hi]
  rfl

theorem State.scDetect_lo (s : State) (n : Berth) (p : Phase) (hi : (s.leg n p).hi = false) (lo : (s.leg n p).lo = true) :
    s.scDetect n p = s.scProtect n p .low := by
  simp only [State.scDetect, hi, lo]
  rfl

/-- With neither switch on, a detection is noted and sets its phase's bit (R201). -/
theorem State.scDetect_off (s : State) (n : Berth) (p : Phase) (hi : (s.leg n p).hi = false) (lo : (s.leg n p).lo = false) :
    s.scDetect n p = (s.noteDetect n p).bset n BG_EVT p.idx := by
  simp only [State.scDetect, hi, lo]
  rfl

/-! ### The switch that is turned off -/

theorem State.leg_scTurnOff (s : State) (n : Berth) (p : Phase) (sd : Side) : ∃ t w, (s.scTurnOff n p sd).leg n p =
    (Leg.cut { s.leg n p with scAt := some (s.tickOf n) } (sd == .high) (sd == .low) t w).scHold sd := by
  unfold State.scTurnOff
  rw [State.leg_dockCal, State.leg_bset, State.leg_cutLeg, State.leg_noteDetect, if_pos rfl]
  exact ⟨_, _, rfl⟩

@[simp] theorem State.leg_scCount (s : State) (n : Berth) (p : Phase) (sd : Side) (c : Nat) (r : Phase) :
    (s.scCount n p sd c).leg n r = s.leg n r := by
  unfold State.scCount
  dsimp only
  split
  · rw [State.leg_raiseBerth, State.leg_bput]
  · rw [State.leg_bput]

theorem State.scProtect_leg (s : State) (n : Berth) (p : Phase) (sd : Side) :
    ((s.scProtect n p sd).leg n p).out sd = false ∧ ((s.scProtect n p sd).leg n p).scHeld sd = true ∧
      ((s.scProtect n p sd).leg n p).scBlank = (s.leg n p).scBlank := by
  obtain ⟨t, w, e⟩ := s.leg_scTurnOff n p sd
  unfold State.scProtect
  rw [State.leg_scCount, e]
  cases sd
  · exact ⟨Leg.cut_hi _ false t w, rfl, rfl⟩
  · exact ⟨Leg.cut_lo _ false t w, rfl, rfl⟩

/-! ### The registers of the berth -/

/-- No register of the berth but BG_EVT, BS_SENSE and the count is written. -/
theorem State.rd_scTurnOff_ba (s : State) (n : Berth) (p : Phase) (sd : Side) (o : Nat) (he : o ≠ BG_EVT)
    (hs : o ≠ BS_SENSE) : (s.scTurnOff n p sd).rd (ba n o) = s.rd (ba n o) := by
  unfold State.scTurnOff
  rw [State.rd_dockCal_ba _ n o hs, State.rd_bset_ba _ _ _ _ _ he, State.rd_cutLeg,
    State.rd_noteDetect]

theorem State.rd_scCount_ba (s : State) (n : Berth) (p : Phase) (sd : Side) (c o : Nat) (h : o ≠ BG_SCCNT) :
    (s.scCount n p sd c).rd (ba n o) = s.rd (ba n o) := by
  unfold State.scCount
  dsimp only
  split
  · rw [State.rd_raiseBerth, State.rd_bput_ba _ _ _ _ _ _ _ h]
  · rw [State.rd_bput_ba _ _ _ _ _ _ _ h]

theorem State.scProtect_event (s : State) (n : Berth) (p : Phase) (sd : Side) :
    (s.scProtect n p sd).bflag n BG_EVT (9 + switchIdx p sd) = true := by
  have fits : 9 + switchIdx p sd < 18 := by have := switchIdx_lt p sd; omega
  unfold State.scProtect State.scTurnOff
  rw [State.bflag_of_rd ((State.rd_scCount_ba _ n p sd _ BG_EVT (by decide)).trans
    (State.rd_dockCal_ba _ n BG_EVT (by decide)))]
  exact State.bflag_bset_same _ n BG_EVT _ fits

/-! ### The count of detections (R204) -/

/-- The count reads back: its three bits hold every value that is written. -/
theorem State.bget_scCount (s : State) (n : Berth) (p : Phase) (sd : Side) (c : Nat) (h : c ≤ 8) :
    (s.scCount n p sd c).bget n BG_SCCNT (3 * switchIdx p sd + 2) (3 * switchIdx p sd) = if c = 8 then 0 else c := by
  have idx := switchIdx_lt p sd
  have same : ∀ v, v < 8 → (s.bput n BG_SCCNT (3 * switchIdx p sd + 2) (3 * switchIdx p sd) v).bget n BG_SCCNT
      (3 * switchIdx p sd + 2) (3 * switchIdx p sd) = v := fun v hv => by
    refine (State.get_put_same _ _ _ _ _ (by omega) (by omega)).trans (Nat.mod_eq_of_lt ?_)
    rwa [show 3 * switchIdx p sd + 2 + 1 - 3 * switchIdx p sd = 3 by omega]
  unfold State.scCount
  dsimp only
  split
  · rw [State.bget_of_rd (State.rd_raiseBerth ..)]
    exact same 0 (by decide)
  · exact same c (by omega)

theorem State.scProtect_counts (s : State) (n : Berth) (p : Phase) (sd : Side)
    (h : s.bget n BG_SCCNT (3 * switchIdx p sd + 2) (3 * switchIdx p sd) < 7) :
    (s.scProtect n p sd).bget n BG_SCCNT (3 * switchIdx p sd + 2) (3 * switchIdx p sd) =
      s.bget n BG_SCCNT (3 * switchIdx p sd + 2) (3 * switchIdx p sd) + 1 := by
  unfold State.scProtect
  rw [State.bget_scCount _ n p sd _ (by omega), if_neg (by omega)]

theorem State.scProtect_eighth (s : State) (n : Berth) (p : Phase) (sd : Side)
    (h : s.bget n BG_SCCNT (3 * switchIdx p sd + 2) (3 * switchIdx p sd) = 7) :
    (s.scProtect n p sd).bget n BG_SCCNT (3 * switchIdx p sd + 2) (3 * switchIdx p sd) = 0 := by
  unfold State.scProtect
  rw [State.bget_scCount _ n p sd _ (by omega), if_pos (by omega)]

theorem State.scProtect_eighth_raised (s : State) (n : Berth) (p : Phase) (sd : Side)
    (h : s.bget n BG_SCCNT (3 * switchIdx p sd + 2) (3 * switchIdx p sd) = 7) (hu : s.outOfUse n = false)
    (hk : s.canRaise (0x80 + 8 * n.val) = true) : (s.scProtect n p sd).Raised (0x80 + 8 * n.val) := by
  have inUse : ((s.scTurnOff n p sd).bput n BG_SCCNT (3 * switchIdx p sd + 2) (3 * switchIdx p sd) 0).outOfUse n = false :=
    (State.outOfUse_of_rd ((State.rd_bput_ba _ _ _ _ _ _ _ (by decide)).trans
      (s.rd_scTurnOff_ba n p sd BL_STATE (by decide) (by decide)))).trans hu
  have can : ((s.scTurnOff n p sd).bput n BG_SCCNT (3 * switchIdx p sd + 2) (3 * switchIdx p sd) 0).canRaise
      (0x80 + 8 * n.val) = true :=
    (State.canRaise_of_parts (State.dockCal_dev _ n) (State.dockCal_coll _ n) _).trans hk
  unfold State.scProtect State.scCount
  rw [h, if_pos rfl]
  exact State.raiseBerth_raised _ n 0 0 inUse can

/-! ### The commands of the comparator (R199, R202) -/

/-- A voltage within the threshold is no detection. -/
theorem State.scAbove_eq_false (s : State) (n : Berth) (v : Int) (h : v.natAbs ≤ 4000 * s.scThr n) : s.scAbove n v = false :=
  decide_eq_false (Nat.not_lt.mpr h)

theorem State.scThr_of_none (s : State) (n : Berth) (h : (s.berth n).pwm.scFrom = none) :
    s.scThr n = s.pget (ba n BG_SCTHR) 7 0 := by
  unfold State.scThr
  simp only [h]

theorem exec_shortCircuitDetect_below (s : State) (n : Berth) (p : Phase) (v : Int) (h : v.natAbs ≤ 4000 * s.scThr n) :
    exec (.shortCircuitDetect n p v) s = .next s :=
  congrArg Host.Outcome.next (if_pos (by simp [s.scAbove_eq_false n v h]))

theorem exec_shortCircuitDetect_blank (s : State) (n : Berth) (p : Phase) (v : Int) (h : (s.leg n p).scBlank = true) :
    exec (.shortCircuitDetect n p v) s = .next s :=
  congrArg Host.Outcome.next (if_pos (by simp [h]))

theorem exec_scBlankEnd_below (s : State) (n : Berth) (p : Phase) (v : Int) (h : v.natAbs ≤ 4000 * s.scThr n) :
    exec (.scBlankEnd n p v) s = .next (s.modLeg n p fun l => { l with scBlank := false }) :=
  congrArg Host.Outcome.next (if_neg (by simp [s.scAbove_eq_false n v h]))

theorem exec_shortCircuitDetect_acts (s : State) (n : Berth) (p : Phase) (v : Int) (ha : s.awake = true)
    (hg : s.vgdUv n.quay = false) (hv : 4000 * s.scThr n < v.natAbs) (hb : (s.leg n p).scBlank = false) :
    exec (.shortCircuitDetect n p v) s = .next (s.scDetect n p) :=
  congrArg Host.Outcome.next (if_neg (by simp [ha, hg, hb, State.scAbove, hv]))

theorem exec_scBlankEnd_acts (s : State) (n : Berth) (p : Phase) (v : Int) (ha : s.awake = true)
    (hg : s.vgdUv n.quay = false) (hv : 4000 * s.scThr n < v.natAbs) (hb : (s.leg n p).scBlank = true) :
    exec (.scBlankEnd n p v) s = .next ((s.modLeg n p fun l => { l with scBlank := false }).scDetect n p) :=
  congrArg Host.Outcome.next (if_pos (by simp [ha, hg, hb, State.scAbove, hv]))

theorem State.scDetect_within (s : State) (n : Berth) (p : Phase) :
    s.Within (s.scDetect n p) [.berth n, .coll, .dock, .page 12] :=
  State.Within.refl.scDetect n p (by simp) (by simp) (by simp) (by simp)

/-- With neither switch on, a detection reaches the berth alone, and of its registers the phase's bit alone (R201). -/
theorem State.scDetect_off_frame (s : State) (n : Berth) (p : Phase) (hi : (s.leg n p).hi = false)
    (lo : (s.leg n p).lo = false) :
    s.Only (s.scDetect n p) [(ba n BG_EVT, p.idx, p.idx)] ∧ s.Within (s.scDetect n p) [.berth n] := by
  have fits : p.idx < 18 := by have := Phase.idx_lt p; omega
  rw [s.scDetect_off n p hi lo]
  exact ⟨(State.Only.rfl.upd rfl).setb _ _ fits (List.mem_singleton_self _),
    (State.Within.refl.noteDetect n p (by simp)).bset n _ _ (by decide) (by simp)⟩

theorem State.scDetect_off_event (s : State) (n : Berth) (p : Phase) (hi : (s.leg n p).hi = false)
    (lo : (s.leg n p).lo = false) : (s.scDetect n p).bflag n BG_EVT p.idx = true := by
  have fits : p.idx < 18 := by have := Phase.idx_lt p; omega
  rw [s.scDetect_off n p hi lo]
  exact State.bflag_bset_same _ n BG_EVT _ fits

theorem State.scDetect_off_leg (s : State) (n : Berth) (p r : Phase) (hi : (s.leg n p).hi = false)
    (lo : (s.leg n p).lo = false) :
    (s.scDetect n p).leg n r = if r = p then { s.leg n p with scAt := some (s.tickOf n) } else s.leg n r := by
  rw [s.scDetect_off n p hi lo, State.leg_bset, State.leg_noteDetect]

theorem State.scDetect_off_pwm (s : State) (n : Berth) (p : Phase) (hi : (s.leg n p).hi = false)
    (lo : (s.leg n p).lo = false) : ((s.scDetect n p).berth n).pwm = (s.berth n).pwm := by
  rw [s.scDetect_off n p hi lo]
  exact s.pwm_noteDetect n p

/-- Settles O26: the interlock's two commands, then the comparator's by what stands at the half-bridge: below the threshold,
the high side on, the low side alone on, both off, and blanking with its end. -/
theorem interlockAndShortCircuit : Obligations.InterlockAndShortCircuit := by
  refine ⟨fun s => ⟨fun n p hs hu => ?_, fun u h => ?_, fun _ _ => ⟨_, rfl, rfl⟩, fun _ => ⟨_, rfl, rfl⟩⟩,
    fun s n p v => ⟨s.scThr_of_none n, fun below => ?_, fun ha hg hv => ?_⟩⟩
  · obtain ⟨hi, lo, ilkHi, ilkLo⟩ := s.interlockBerth_leg n p
    exact ⟨_, exec_interlockEvent_berth s n p hs hu, hi, lo, ilkHi, ilkLo, s.interlockBerth_event n p,
      State.Within.refl.interlockBerth n p (by simp) (by simp) (by simp) (by simp), s.interlockBerth_raised n p hu⟩
  · obtain ⟨hi, lo, ilk⟩ := s.interlockTender_tender u
    exact ⟨_, exec_interlockEvent_tender s u h, hi, lo, ilk, State.raiseTender_regs _ u _, s.interlockTender_within u,
      s.interlockTender_raised u⟩
  · exact ⟨exec_shortCircuitDetect_below s n p v below, _, exec_scBlankEnd_below s n p v below, rfl⟩
  refine ⟨fun hb hi => ?_, fun hb hi lo => ?_, fun hb hi lo => ?_, exec_shortCircuitDetect_blank s n p v, fun hb hi => ?_⟩
  · have within := s.scDetect_within n p
    refine ⟨_, exec_shortCircuitDetect_acts s n p v ha hg hv hb, ?_⟩
    rw [s.scDetect_hi n p hi] at within ⊢
    obtain ⟨off, held, -⟩ := s.scProtect_leg n p .high
    exact ⟨off, held, s.scProtect_event n p .high, within, s.scProtect_counts n p .high,
      fun seven => ⟨s.scProtect_eighth n p .high seven, s.scProtect_eighth_raised n p .high seven⟩⟩
  · refine ⟨_, exec_shortCircuitDetect_acts s n p v ha hg hv hb, ?_⟩
    rw [s.scDetect_lo n p hi lo]
    obtain ⟨off, held, -⟩ := s.scProtect_leg n p .low
    exact ⟨off, held, s.scProtect_event n p .low⟩
  · obtain ⟨only, within⟩ := s.scDetect_off_frame n p hi lo
    exact ⟨_, exec_shortCircuitDetect_acts s n p v ha hg hv hb, s.scDetect_off_event n p hi lo, only, within,
      (s.scDetect_off_leg n p p hi lo).trans (if_pos rfl), fun r hr => (s.scDetect_off_leg n p r hi lo).trans (if_neg hr),
      s.scDetect_off_pwm n p hi lo⟩
  · have unblanked : (s.modLeg n p fun l => { l with scBlank := false }).leg n p = { s.leg n p with scBlank := false } := by
      rw [State.leg_modLeg, if_pos ⟨rfl, rfl⟩]
    refine ⟨_, exec_scBlankEnd_acts s n p v ha hg hv hb, ?_⟩
    rw [State.scDetect_hi _ n p (by rw [unblanked]; exact hi)]
    obtain ⟨off, held, blank⟩ := State.scProtect_leg (s.modLeg n p fun l => { l with scBlank := false }) n p .high
    exact ⟨off, held, blank.trans (by rw [unblanked])⟩

end Sys2Proof.Machine
end

section
/-! The queue of the host port (R429 to R438): which entry may start, what its run leaves of the queue and of the registers, and
what its completion does to the fence of its stream. -/

namespace Sys2Proof.Machine

/-! ### One entry of the queue -/

theorem State.modEntry_within (s : State) (k : Nat) (f : HEntry → HEntry) : s.Within (s.modEntry k f) [.host] :=
  State.Within.refl.modEntry k f (List.mem_singleton_self _)

theorem State.modEntry_queue (s : State) (k : Nat) (f : HEntry → HEntry) :
    (s.modEntry k f).host.queue = s.host.queue.modify k f := rfl

/-- The changed entry reads back. -/
theorem State.queue_modEntry_same {s : State} {k : Nat} {e : HEntry} (h : s.host.queue[k]? = some e) (f : HEntry → HEntry) :
    (s.modEntry k f).host.queue[k]? = some (f e) := by
  rw [State.modEntry_queue, List.getElem?_modify_eq, h]
  rfl

/-! ### Which entry may start (R434, R438) -/

/-- The place that is found holds an entry that may start behind those before it. -/
theorem entryFree_of_firstFree {held : BitVec 12} {before l : List HEntry} {i k : Nat}
    (h : firstFree held before l i = some k) :
    ∃ j e, k = i + j ∧ l[j]? = some e ∧ entryFree held (before ++ l.take j) e = true := by
  induction l generalizing before i with
  | nil => cases h
  | cons x l ih =>
    unfold firstFree at h
    split at h
    · rename_i free
      cases h
      exact ⟨0, x, rfl, rfl, by simpa using free⟩
    · obtain ⟨j, e, rfl, at_j, free⟩ := ih h
      exact ⟨j + 1, e, by omega, at_j, by simpa using free⟩

/-- An entry that starts may start behind the entries before it. -/
theorem State.entryFree_of_entryStarts {s : State} {k : Nat} {e : HEntry} (hs : s.entryStarts k = true)
    (hk : s.host.queue[k]? = some e) : entryFree s.host.held (s.host.queue.take k) e = true := by
  unfold State.entryStarts at hs
  rw [Bool.and_eq_true, beq_iff_eq] at hs
  obtain ⟨j, x, place, at_j, free⟩ := entryFree_of_firstFree hs.2
  obtain rfl : k = j := place.trans (Nat.zero_add j)
  cases hk.symm.trans at_j
  exact free

/-- Behind an unfinished entry of its stream, none may start (R434). -/
theorem entryFree_eq_false {held : BitVec 12} {before : List HEntry} {e x : HEntry} (hx : x ∈ before)
    (hs : x.stream = e.stream) (hp : x.phase ≠ .done) : entryFree held before e = false := by
  have blocked : (before.all fun y => y.phase == .done || (e.kind != 2 && y.kind != 2 && y.stream != e.stream)) = false :=
    List.all_eq_false.mpr ⟨x, hx, by simp [hs, hp]⟩
  unfold entryFree
  rw [blocked, Bool.and_false]

theorem State.entryStarts_eq_false {s : State} {i k : Nat} {x e : HEntry} (hik : i < k) (hx : s.host.queue[i]? = some x)
    (hk : s.host.queue[k]? = some e) (hs : x.stream = e.stream) (hp : x.phase ≠ .done) : s.entryStarts k = false := by
  have before : x ∈ s.host.queue.take k := List.mem_of_getElem? ((List.getElem?_take_of_lt hik).trans hx)
  by_contra starts
  have free := State.entryFree_of_entryStarts (Bool.eq_true_of_not_eq_false starts) hk
  rw [entryFree_eq_false before hs hp] at free
  cases free

/-! ### The tests of a write do not look at the entries of the queue (R431) -/

theorem State.storeWord_modEntry (s : State) (k : Nat) (f : HEntry → HEntry) (a : Nat) (v : Word) :
    (s.modEntry k f).storeWord a v = (s.storeWord a v).modEntry k f := by
  unfold State.storeWord
  split
  · rfl
  · split <;> rfl

theorem State.storeAll_modEntry (s : State) (k : Nat) (f : HEntry → HEntry) (ws : List (Nat × Word)) :
    (s.modEntry k f).storeAll ws = (s.storeAll ws).modEntry k f := by
  unfold State.storeAll
  induction ws generalizing s with
  | nil => rfl
  | cons p ws ih => rw [List.foldl_cons, List.foldl_cons, State.storeWord_modEntry, ih]

/-- Of the host port, only the holds count, for CANCELQ (R541). -/
theorem State.wordFails_modEntry (s left : State) (k : Nat) (f : HEntry → HEntry) (m : Master) (a : Nat) (v : Word) :
    (s.modEntry k f).wordFails (left.modEntry k f) m a v = s.wordFails left m a v := rfl

@[simp] theorem State.writeFails_modEntry (s : State) (k : Nat) (f : HEntry → HEntry) (m : Master) (ws : List (Nat × Word)) :
    (s.modEntry k f).writeFails m ws = s.writeFails m ws := by
  unfold State.writeFails
  simp only [State.storeAll_modEntry, State.wordFails_modEntry]

/-! ### Words that an entry reads (R429) -/

@[simp] theorem State.clearRc_host (s : State) (a : Nat) : (s.clearRc a).host = s.host := by
  unfold State.clearRc
  split
  · rfl
  · split <;> rfl

@[simp] theorem State.readReg_host (s : State) (m a : Nat) : (s.readReg m a).2.host = s.host := by
  unfold State.readReg
  dsimp only
  split
  · exact s.clearRc_host a
  · split
    · rfl
    · split
      · split <;> rfl
      · rfl

@[simp] theorem State.readWords_host (s : State) (a n : Nat) : (s.readWords a n).2.2.host = s.host := by
  induction n generalizing s a with
  | zero => rfl
  | succ n ih => exact (ih _ _).trans (s.readReg_host 1 a)

@[simp] theorem State.readWords_length (s : State) (a n : Nat) : (s.readWords a n).1.length = n := by
  induction n generalizing s a with
  | zero => rfl
  | succ n ih => exact congrArg (· + 1) (ih _ _)

/-! ### The access of an entry, case by case (R429 to R433, R436) -/

/-- The stream of the entry is fenced. -/
def State.streamFenced (s : State) (e : HEntry) : Bool := e.stream < 15 && s.host.fenced.getLsbD e.stream

theorem State.streamFenced_eq_true {s : State} {e : HEntry} (hs : e.stream < 15)
    (hf : s.host.fenced.getLsbD e.stream = true) : s.streamFenced e = true := by
  unfold State.streamFenced
  rw [hf, Bool.and_true, decide_eq_true hs]

theorem State.streamFenced_eq_false {s : State} {e : HEntry} (h : e.stream = 15 ∨ s.host.fenced.getLsbD e.stream = false) :
    s.streamFenced e = false := by
  unfold State.streamFenced
  obtain barrier | open_ := h
  · simp [barrier]
  · rw [open_, Bool.and_false]

/-- The words of a WRITE entry at their native addresses. -/
def State.entryWords (s : State) (e : HEntry) : List (Nat × Word) :=
  e.data.zipIdx.map fun p => (hostAddr s.compat e.addr + p.2, p.1)

/-- The entry ends without an answer: its status and the address to record. -/
def State.entryFail (s : State) (k st adr : Nat) : State := s.modEntry k fun x => { x with status := st, failAdr := adr }
/-- The entry ends with an answer: its status and the words read. -/
def State.entryAnswer (s : State) (k st : Nat) (l : List Word) : State :=
  s.modEntry k fun x => { x with status := st, reads := l }

theorem State.entryAccess_fenced {s : State} {e : HEntry} (k : Nat) (stall : Option Nat) (hf : s.streamFenced e = true) :
    s.entryAccess k e stall = s.entryAnswer k 1 [] := if_pos hf

theorem State.entryAccess_empty {s : State} {e : HEntry} (k : Nat) (stall : Option Nat) (hf : s.streamFenced e = false)
    (hc : e.count = 0) : s.entryAccess k e stall = s.entryAnswer k 0 [] :=
  (if_neg (Bool.eq_false_iff.mp hf)).trans (if_pos hc)

theorem State.entryAccess_outside {s : State} {e : HEntry} (k : Nat) (stall : Option Nat) (hf : s.streamFenced e = false)
    (hc : e.count ≠ 0) (hr : rangeOk s.compat e.addr e.count = false) :
    s.entryAccess k e stall = s.entryFail k 2 e.addr := by
  refine (if_neg (Bool.eq_false_iff.mp hf)).trans ((if_neg hc).trans (if_pos ?_))
  rw [hr]; rfl

/-- A WRITE of an open stream within one row (R429, R431, R433). -/
def State.entryWrite (s : State) (k : Nat) (e : HEntry) : Option Nat → State
  | some i => s.entryFail k 5 (hostAddr s.compat e.addr + min i (e.count - 1))
  | none =>
      match s.writeFails .host (s.entryWords e) with
      | some a => s.entryFail k 3 a
      | none => (s.applyWrite .host (s.entryWords e)).entryAnswer k 0 []

theorem State.entryWrite_refused {s : State} {e : HEntry} {a : Nat} (k : Nat)
    (h : s.writeFails .host (s.entryWords e) = some a) : s.entryWrite k e none = s.entryFail k 3 a := by
  unfold State.entryWrite
  rw [h]

theorem State.entryWrite_applied {s : State} {e : HEntry} (k : Nat) (h : s.writeFails .host (s.entryWords e) = none) :
    s.entryWrite k e none = (s.applyWrite .host (s.entryWords e)).entryAnswer k 0 [] := by
  unfold State.entryWrite
  rw [h]

/-- A READ of an open stream within one row: it ends where an access stalls (R429, R433). -/
def State.entryRead (s : State) (k : Nat) (e : HEntry) : Option Nat → State
  | some i => (s.readWords (hostAddr s.compat e.addr) (min i (e.count - 1))).2.2.entryFail k 5
      (hostAddr s.compat e.addr + min i (e.count - 1))
  | none =>
      let r := s.readWords (hostAddr s.compat e.addr) e.count
      r.2.2.entryAnswer k (if r.2.1 then 6 else 0) r.1

theorem State.entryAccess_inside {s : State} {e : HEntry} (k : Nat) (stall : Option Nat) (hf : s.streamFenced e = false)
    (hc : e.count ≠ 0) (hr : rangeOk s.compat e.addr e.count = true) :
    s.entryAccess k e stall = if e.kind = 0 then s.entryWrite k e stall else s.entryRead k e stall := by
  refine (if_neg (Bool.eq_false_iff.mp hf)).trans ((if_neg hc).trans (if_neg ?_))
  rw [hr]; exact Bool.noConfusion

/-! ### ENTRY_RUN -/

/-- The port has started entry `k`. -/
def State.entryStarted (s : State) (k : Nat) : State := s.modEntry k fun x => { x with phase := .running }

theorem exec_entryRun_waits {s : State} {k : Nat} {e : HEntry} (stall : Option Nat) (hk : s.host.queue[k]? = some e)
    (hs : s.entryStarts k = false) : exec (.entryRun k stall) s = .next s := by
  refine congrArg Host.Outcome.next ?_
  rw [hk]
  exact if_pos (by rw [hs]; simp)

/-- A started entry of kind WRITE or READ makes its access, any other only runs. -/
theorem exec_entryRun_starts {s : State} {k : Nat} {e : HEntry} (stall : Option Nat) (ha : s.awake = true)
    (hk : s.host.queue[k]? = some e) (hs : s.entryStarts k = true) :
    exec (.entryRun k stall) s =
      .next (if e.kind ≤ 1 then (s.entryStarted k).entryAccess k e stall else s.entryStarted k) := by
  refine congrArg Host.Outcome.next ?_
  rw [hk]
  exact if_neg (by rw [ha, hs]; simp)

theorem State.entryStarted_queue {s : State} {k : Nat} {e : HEntry} (hk : s.host.queue[k]? = some e) :
    (s.entryStarted k).host.queue[k]? = some { e with phase := .running } := State.queue_modEntry_same hk _

/-- Reading leaves the queue as it was: the entry that reads still runs in its place. -/
theorem State.readWords_queue {s : State} {k : Nat} {e : HEntry} (hk : s.host.queue[k]? = some e) (a n : Nat) :
    ((s.entryStarted k).readWords a n).2.2.host.queue[k]? = some { e with phase := .running } := by
  rw [State.readWords_host]
  exact State.entryStarted_queue hk

/-- The port runs entry `k` with status `st` and has changed no register and nothing outside its own state. -/
def State.RunsAlone (s t : State) (k st : Nat) : Prop :=
  (t.host.queue[k]?.map fun x => (x.phase, x.status)) = some (.running, st) ∧ t.regs = s.regs ∧ s.Within t [.host]

theorem State.modEntry_runsAlone {s : State} {k : Nat} {e : HEntry} (hk : s.host.queue[k]? = some e) (f : HEntry → HEntry)
    (hp : (f { e with phase := .running }).phase = .running) :
    s.RunsAlone ((s.entryStarted k).modEntry k f) k (f { e with phase := .running }).status := by
  refine ⟨?_, rfl, (s.modEntry_within k _).trans (State.modEntry_within _ k f)⟩
  rw [State.queue_modEntry_same (State.entryStarted_queue hk), Option.map_some, hp]

theorem State.entryFail_runsAlone {s : State} {k : Nat} {e : HEntry} (hk : s.host.queue[k]? = some e) (st adr : Nat) :
    s.RunsAlone ((s.entryStarted k).entryFail k st adr) k st := State.modEntry_runsAlone hk _ rfl

theorem State.entryAnswer_runsAlone {s : State} {k : Nat} {e : HEntry} (hk : s.host.queue[k]? = some e) (st : Nat)
    (l : List Word) : s.RunsAlone ((s.entryStarted k).entryAnswer k st l) k st := State.modEntry_runsAlone hk _ rfl

section
variable {s : State} {k : Nat} {e : HEntry} (ha : s.awake = true) (hk : s.host.queue[k]? = some e)
  (hs : s.entryStarts k = true)
include ha hk hs

theorem exec_entryRun_accesses (stall : Option Nat) (kind : e.kind ≤ 1) :
    exec (.entryRun k stall) s = .next ((s.entryStarted k).entryAccess k e stall) := by
  rw [exec_entryRun_starts stall ha hk hs, if_pos kind]

/-- An entry of a fenced stream accesses nothing (R436). -/
theorem entryRun_fenced (stall : Option Nat) (kind : e.kind ≤ 1) (hf : s.streamFenced e = true) :
    Does (.entryRun k stall) s (s.RunsAlone · k 1) := by
  refine ⟨_, exec_entryRun_accesses ha hk hs stall kind, ?_⟩
  rw [State.entryAccess_fenced (s := s.entryStarted k) k stall hf]
  exact State.entryAnswer_runsAlone hk 1 []

/-- An entry with COUNT 0 makes no access, stalled or not (R432). -/
theorem entryRun_empty (stall : Option Nat) (kind : e.kind ≤ 1) (hf : s.streamFenced e = false) (hc : e.count = 0) :
    Does (.entryRun k stall) s (s.RunsAlone · k 0) := by
  refine ⟨_, exec_entryRun_accesses ha hk hs stall kind, ?_⟩
  rw [State.entryAccess_empty (s := s.entryStarted k) k stall hf hc]
  exact State.entryAnswer_runsAlone hk 0 []

/-- An entry outside one row of the map fails with ADDRESS (R430). -/
theorem entryRun_outside (stall : Option Nat) (kind : e.kind ≤ 1) (hf : s.streamFenced e = false) (hc : e.count ≠ 0)
    (hr : rangeOk s.compat e.addr e.count = false) : Does (.entryRun k stall) s (s.RunsAlone · k 2) := by
  refine ⟨_, exec_entryRun_accesses ha hk hs stall kind, ?_⟩
  rw [State.entryAccess_outside (s := s.entryStarted k) k stall hf hc hr]
  exact State.entryFail_runsAlone hk 2 e.addr

/-- A BARRIER and a FENCEREL only run (R437, R439). -/
theorem entryRun_marker (stall : Option Nat) (kind : e.kind = 2 ∨ e.kind = 3) :
    exec (.entryRun k stall) s = .next (s.entryStarted k) :=
  (exec_entryRun_starts stall ha hk hs).trans (congrArg _ (if_neg (by omega)))

variable (hf : s.streamFenced e = false) (hc : e.count ≠ 0) (hr : rangeOk s.compat e.addr e.count = true)
include hf hc hr

theorem exec_entryRun_write (stall : Option Nat) (kind : e.kind = 0) :
    exec (.entryRun k stall) s = .next ((s.entryStarted k).entryWrite k e stall) := by
  rw [exec_entryRun_accesses ha hk hs stall (by omega),
    State.entryAccess_inside (s := s.entryStarted k) k stall hf hc hr, if_pos kind]

theorem exec_entryRun_read (stall : Option Nat) (kind : e.kind = 1) :
    exec (.entryRun k stall) s = .next ((s.entryStarted k).entryRead k e stall) := by
  rw [exec_entryRun_accesses ha hk hs stall (by omega),
    State.entryAccess_inside (s := s.entryStarted k) k stall hf hc hr, if_neg (by omega)]

/-- A WRITE that a rule forbids changes no register, and records the failing address (R431, R436). -/
theorem entryRun_refused {a : Nat} (kind : e.kind = 0) (hw : s.writeFails .host (s.entryWords e) = some a) :
    Does (.entryRun k none) s fun t => s.RunsAlone t k 3 ∧ (t.host.queue[k]?.map (·.failAdr)) = some a := by
  have refused : (s.entryStarted k).writeFails .host ((s.entryStarted k).entryWords e) = some a :=
    (s.writeFails_modEntry k _ .host _).trans hw
  refine ⟨_, exec_entryRun_write ha hk hs hf hc hr none kind, ?_⟩
  rw [State.entryWrite_refused k refused]
  exact ⟨State.entryFail_runsAlone hk 3 a,
    congrArg (Option.map _) (State.queue_modEntry_same (State.entryStarted_queue hk) _)⟩

/-- An accepted WRITE is applied whole in one step (R429). -/
theorem entryRun_applied (kind : e.kind = 0) (hw : s.writeFails .host (s.entryWords e) = none) :
    Does (.entryRun k none) s fun t => t.regs = ((s.entryStarted k).applyWrite .host (s.entryWords e)).regs := by
  have accepted : (s.entryStarted k).writeFails .host ((s.entryStarted k).entryWords e) = none :=
    (s.writeFails_modEntry k _ .host _).trans hw
  refine ⟨_, exec_entryRun_write ha hk hs hf hc hr none kind, ?_⟩
  rw [State.entryWrite_applied k accepted]
  rfl

/-- A stalled WRITE has changed nothing (R433). -/
theorem entryRun_stalledWrite (i : Nat) (kind : e.kind = 0) : Does (.entryRun k (some i)) s (s.RunsAlone · k 5) :=
  ⟨_, exec_entryRun_write ha hk hs hf hc hr (some i) kind, State.entryFail_runsAlone hk 5 _⟩

/-- A READ returns as many words as it asked for (R429). -/
theorem entryRun_read (kind : e.kind = 1) :
    Does (.entryRun k none) s fun t => (t.host.queue[k]?.map fun x => (x.phase, x.reads.length)) = some (.running, e.count) := by
  refine ⟨_, exec_entryRun_read ha hk hs hf hc hr none kind, ?_⟩
  refine (congrArg (Option.map _) (State.queue_modEntry_same (State.readWords_queue hk _ _) _)).trans ?_
  exact congrArg (fun n => some (EntryPhase.running, n)) (State.readWords_length _ _ _)

/-- A READ that meets a stalled crossing fails with STALLED (R433). -/
theorem entryRun_stalledRead (i : Nat) (kind : e.kind = 1) :
    Does (.entryRun k (some i)) s fun t => (t.host.queue[k]?.map fun x => (x.phase, x.status)) = some (.running, 5) :=
  ⟨_, exec_entryRun_read ha hk hs hf hc hr (some i) kind,
    congrArg (Option.map _) (State.queue_modEntry_same (State.readWords_queue hk _ _) _)⟩

end

/-! ### Fences (R436, R437) -/

/-- The fence of stream `j` is set, and HP_EVT shows it. -/
def State.fence (s : State) (j : Nat) : State :=
  (s.modHost fun h => { h with fenced := h.fenced ||| (1#15 <<< j) }).setb HP_EVT 10

theorem State.fence_within (s : State) (j : Nat) : s.Within (s.fence j) [.host, .page 9] := by
  have zone : regZone HP_EVT = .page 9 := rfl
  exact (State.Within.refl.modHost _ (by simp)).setb HP_EVT 10 (by simp [zone])

/-- The event of the failure that fences a stream. -/
def State.fenceEvent (s : State) (e : HEntry) : Event :=
  { src := 0x22, affected := s.allBerths, master := 1, acc := if e.kind = 0 then 1 else 0, kind := 0, adr := e.failAdr }

theorem State.fenceFor_open {s : State} {e : HEntry} (h : s.host.fenced.getLsbD e.stream = false) :
    s.fenceFor e = (s.fence e.stream).raise ((s.fence e.stream).fenceEvent e) := if_neg (Bool.eq_false_iff.mp h)

theorem getLsbD_fenced (f : BitVec 15) (j i : Nat) (hj : j < 15) :
    (f ||| (1#15 <<< j)).getLsbD i = (f.getLsbD i || decide (j = i)) := by
  rw [← BitVec.twoPow_eq, BitVec.getLsbD_or, BitVec.getLsbD_twoPow, decide_eq_true hj, Bool.true_and]

theorem getLsbD_unfenced (f : BitVec 15) (j : Nat) : (f &&& ~~~(1#15 <<< j)).getLsbD j = false := by
  rw [← BitVec.twoPow_eq, BitVec.getLsbD_and, BitVec.getLsbD_not, BitVec.getLsbD_twoPow]
  cases decide (j < 15) <;> simp

theorem State.fenceFor_host {s : State} {e : HEntry} (h : s.host.fenced.getLsbD e.stream = false) :
    (s.fenceFor e).host = { s.host with fenced := s.host.fenced ||| (1#15 <<< e.stream) } := by
  rw [State.fenceFor_open h, State.raise_eq]
  rfl

theorem State.fenceFor_event {s : State} {e : HEntry} (h : s.host.fenced.getLsbD e.stream = false) :
    (s.fenceFor e).flag HP_EVT 10 = true := by
  have shown : (s.fence e.stream).flag HP_EVT 10 = true := State.flag_put_same _ HP_EVT 10 1 (by decide)
  rw [State.fenceFor_open h]
  unfold State.flag State.get at shown ⊢
  rwa [State.rd_raise]

theorem State.fenceFor_only (s : State) (e : HEntry) : s.Only (s.fenceFor e) [(HP_EVT, 10, 10)] := by
  unfold State.fenceFor
  exact .ite _ .rfl (.raise _ ((State.Only.rfl.upd rfl).setb _ _ (by decide) (List.mem_singleton_self _)))

theorem State.fenceFor_within (s : State) (e : HEntry) : s.Within (s.fenceFor e) [.host, .coll, .page 9] :=
  State.Within.refl.fenceFor e (by simp) (by simp) (by simp)

theorem State.fenceFor_raised {s : State} {e : HEntry} (h : s.host.fenced.getLsbD e.stream = false)
    (hr : s.canRaise 0x22 = true) : (s.fenceFor e).Raised 0x22 := by
  have can : (s.fence e.stream).canRaise 0x22 = s.canRaise 0x22 := by
    have within := s.fence_within e.stream
    exact State.canRaise_of_parts (within.dev (by simp)) (within.coll (by simp)) _
  rw [State.fenceFor_open h]
  exact State.raise_raised _ ((s.fence e.stream).fenceEvent e) (can.trans hr)

/-! ### ENTRY_COMPLETE -/

/-- Entry `k` has completed. -/
def State.entryDone (s : State) (k : Nat) : State := s.modEntry k fun x => { x with phase := .done }

theorem State.entryDone_phase {s : State} {k : Nat} {e : HEntry} (hk : s.host.queue[k]? = some e) :
    ((s.entryDone k).host.queue[k]?.map (·.phase)) = some .done :=
  congrArg (Option.map _) (State.queue_modEntry_same hk _)

theorem exec_entryComplete_idle {s : State} {k : Nat} {e : HEntry} (hk : s.host.queue[k]? = some e)
    (hp : e.phase ≠ .running) : exec (.entryComplete k) s = .next s := by
  refine congrArg Host.Outcome.next ?_
  rw [hk]
  exact if_pos (by simp [hp])

section
variable {s : State} {k : Nat} {e : HEntry} (ha : s.awake = true) (hk : s.host.queue[k]? = some e) (hp : e.phase = .running)
include ha hk hp

/-- What a running entry does when it completes. -/
theorem exec_entryComplete_running :
    exec (.entryComplete k) s = .next (
      if e.kind = 3 then (s.entryDone k).modHost fun h => { h with fenced := h.fenced &&& ~~~(1#15 <<< e.stream) }
      else if e.kind ≤ 1 ∧ (e.status = 2 ∨ e.status = 3 ∨ e.status = 5) then (s.entryDone k).fenceFor e
      else if e.status = 6 then (s.entryDone k).setb HP_EVT 9
      else s.entryDone k) := by
  refine congrArg Host.Outcome.next ?_
  rw [hk]
  exact if_neg (by rw [ha, hp]; decide)

theorem exec_entryComplete_ok (kind : e.kind ≤ 1) (hs : e.status = 0) :
    exec (.entryComplete k) s = .next (s.entryDone k) := by
  rw [exec_entryComplete_running ha hk hp, if_neg (by omega), if_neg (by omega), if_neg (by omega)]

theorem exec_entryComplete_failed (kind : e.kind ≤ 1) (hs : e.status = 2 ∨ e.status = 3 ∨ e.status = 5) :
    exec (.entryComplete k) s = .next ((s.entryDone k).fenceFor e) := by
  rw [exec_entryComplete_running ha hk hp, if_neg (by omega), if_pos ⟨kind, hs⟩]

theorem exec_entryComplete_fencerel (kind : e.kind = 3) :
    exec (.entryComplete k) s =
      .next ((s.entryDone k).modHost fun h => { h with fenced := h.fenced &&& ~~~(1#15 <<< e.stream) }) := by
  rw [exec_entryComplete_running ha hk hp, if_pos kind]

/-- A failure fences its stream alone, shows it in HP_EVT and raises source 0x22 (R436). -/
theorem entryComplete_fences (kind : e.kind ≤ 1) (hs : e.status = 2 ∨ e.status = 3 ∨ e.status = 5) (stream : e.stream < 15)
    (hf : s.host.fenced.getLsbD e.stream = false) : Does (.entryComplete k) s fun t =>
      t.host.fenced.getLsbD e.stream = true ∧ (∀ j, j ≠ e.stream → t.host.fenced.getLsbD j = s.host.fenced.getLsbD j) ∧
      (t.host.queue[k]?.map (·.phase)) = some .done ∧ t.flag HP_EVT 10 = true ∧ s.Only t [(HP_EVT, 10, 10)] ∧
      s.Within t [.host, .coll, .page 9] ∧ (s.canRaise 0x22 = true → t.Raised 0x22) := by
  have fenced : ∀ j, ((s.entryDone k).fenceFor e).host.fenced.getLsbD j =
      (s.host.fenced.getLsbD j || decide (e.stream = j)) := fun j => by
    rw [State.fenceFor_host (s := s.entryDone k) hf]
    exact getLsbD_fenced _ _ j stream
  have queue : ((s.entryDone k).fenceFor e).host.queue = (s.entryDone k).host.queue := by
    rw [State.fenceFor_host (s := s.entryDone k) hf]
  have only : s.Only (s.entryDone k) [(HP_EVT, 10, 10)] := State.Only.rfl.upd rfl
  have within : s.Within (s.entryDone k) [.host, .coll, .page 9] := (s.modEntry_within k _).mono (by simp)
  refine ⟨_, exec_entryComplete_failed ha hk hp kind hs, by simp [fenced], fun j hj => by simp [fenced, hj.symm], ?_,
    State.fenceFor_event (s := s.entryDone k) hf, only.trans (State.fenceFor_only _ e),
    within.trans (State.fenceFor_within _ e), State.fenceFor_raised (s := s.entryDone k) hf⟩
  rw [queue]
  exact State.entryDone_phase hk

/-- A FENCEREL ends the fence of its stream (R437). -/
theorem entryComplete_unfences (kind : e.kind = 3) : Does (.entryComplete k) s fun t =>
    t.host.fenced.getLsbD e.stream = false ∧ (t.host.queue[k]?.map (·.phase)) = some .done ∧ t.regs = s.regs ∧
      s.Within t [.host] :=
  ⟨_, exec_entryComplete_fencerel ha hk hp kind, getLsbD_unfenced _ _, State.entryDone_phase hk, rfl,
    (s.modEntry_within k _).modHost _ (List.mem_singleton_self _)⟩

end

/-- Settles O49: an entry that runs, by what its stream, its range and its words allow; an entry that completes, by its status. -/
theorem entriesRunAndComplete : Obligations.EntriesRunAndComplete := by
  refine ⟨fun s k e ha hk => ⟨fun hs kind stream hf => ?_, fun hs kind open_ hc hr => ?_, fun hs kind open_ hc hr => ?_,
      fun hs kind open_ hc hr => ?_, fun i hs kind open_ hc hr => ?_, fun stall hs kind open_ hc => ?_, fun hs kind => ?_,
      fun ⟨i, hik, x, hx, stream, unfinished⟩ stall => ?_⟩,
    fun s k e ha hk => ⟨exec_entryComplete_idle hk, fun hp kind hs => ⟨_, exec_entryComplete_ok ha hk hp kind hs, rfl⟩,
      fun hp kind hs stream hf => entryComplete_fences ha hk hp kind hs stream hf,
      fun hp kind _ => entryComplete_unfences ha hk hp kind⟩⟩
  · exact entryRun_fenced ha hk hs none kind (State.streamFenced_eq_true stream hf)
  · exact entryRun_outside ha hk hs none kind (State.streamFenced_eq_false open_) hc hr
  · have unfenced := State.streamFenced_eq_false open_
    refine ⟨fun a hw => ?_, entryRun_applied ha hk hs unfenced hc hr kind⟩
    obtain ⟨t, run, ⟨status, regs, within⟩, failAdr⟩ := entryRun_refused ha hk hs unfenced hc hr kind hw
    exact ⟨t, run, status, failAdr, regs, within⟩
  · exact entryRun_read ha hk hs (State.streamFenced_eq_false open_) hc hr kind
  · have unfenced := State.streamFenced_eq_false open_
    obtain write | read : e.kind = 0 ∨ e.kind = 1 := by omega
    · obtain ⟨t, run, status, regs, within⟩ := entryRun_stalledWrite ha hk hs unfenced hc hr i write
      exact ⟨t, run, status, fun _ => ⟨regs, within⟩⟩
    · obtain ⟨t, run, status⟩ := entryRun_stalledRead ha hk hs unfenced hc hr i read
      exact ⟨t, run, status, fun write => by omega⟩
  · exact entryRun_empty ha hk hs stall kind (State.streamFenced_eq_false open_) hc
  · exact ⟨_, entryRun_marker ha hk hs none kind, rfl⟩
  · exact exec_entryRun_waits stall hk (State.entryStarts_eq_false hik hx hk stream unfinished)

end Sys2Proof.Machine
end

section
/-! The slots of the mooring ring (R487 to R497, R505): joining and its timeout, what receiving a slot leaves of the link, and
what a repeater and an anchor send on. -/

namespace Sys2Proof.Machine

/-! ### Fields read through registers that stand -/

theorem State.get_of_rd {s t : State} {a : Nat} (h : t.rd a = s.rd a) (hi lo : Nat) : t.get a hi lo = s.get a hi lo :=
  congrArg (bits · hi lo) h

theorem State.flag_of_rd {s t : State} {a : Nat} (h : t.rd a = s.rd a) (b : Nat) : t.flag a b = s.flag a b :=
  congrArg (· == 1) (State.get_of_rd h b b)

theorem State.rd_of_regs {s t : State} (h : t.regs = s.regs) (a : Nat) : t.rd a = s.rd a := congrArg (look · a) h

theorem State.numbered_of_rd {s t : State} (h : t.rd ML_NODE = s.rd ML_NODE) : t.numbered = s.numbered := by
  unfold State.numbered
  rw [State.get_of_rd h, State.flag_of_rd h]

/-- Which frame is the own one depends on the frame in flight alone. -/
theorem State.isOwn_of_flight {s t : State} (h : t.moor.flight = s.moor.flight) (f : MFrame) : t.isOwn f = s.isOwn f := by
  unfold State.isOwn
  rw [h]

/-! ### ML_STAT.MODE -/

theorem State.mlMode_putMlMode (s : State) (v : Nat) : (s.putMlMode v).mlMode = v % 4 :=
  s.get_put_same ML_STAT 9 8 v (by decide) (by decide)

theorem State.putMlMode_moor (s : State) (v : Nat) : (s.putMlMode v).moor = s.moor := s.wr_moor _ _

theorem State.flag_putMlMode_anchor (s : State) (v : Nat) : (s.putMlMode v).flag ML_STAT 7 = s.flag ML_STAT 7 :=
  congrArg (· == 1) (s.get_put_apart ML_STAT 9 8 v 7 7 (by decide) (by decide) (by decide))

theorem State.putMlMode_only (s : State) (v : Nat) : s.Only (s.putMlMode v) [(ML_STAT, 9, 8)] :=
  State.Only.rfl.put _ _ _ _ (by decide) (by decide) (List.mem_singleton_self _)

/-! ### Frames that the device originates (R490) -/

/-- Nothing changes but the own frames that wait. -/
def State.Queues (s t : State) : Prop :=
  ∃ out ownA ownB, t = s.modMoor fun m => { m with out := out, ownA := ownA, ownB := ownB }

theorem State.Queues.rfl {s : State} : s.Queues s := ⟨s.moor.out, s.moor.ownA, s.moor.ownB, Eq.refl _⟩

theorem State.originate_queues (s : State) (typ dst : Nat) (pay : List Word) : s.Queues (s.originate typ dst pay) := by
  unfold State.originate
  dsimp only
  split
  · exact .rfl
  · split
    · exact ⟨s.moor.out, _, _, rfl⟩
    · exact ⟨_, s.moor.ownA, s.moor.ownB, rfl⟩

theorem State.joined_queues (s : State) : s.Queues s.joined := by
  unfold State.joined State.announceSelf
  dsimp only
  split
  · exact s.originate_queues _ _ _
  · exact .rfl

/-! ### Joining (R495, R497) -/

/-- Without delimiters a candidate for anchor starts a ring of its own (R495, R497). -/
theorem State.noSlots_candidate (s : State) (h : 0 < s.get ML_CTL 17 15) :
    s.noSlots.regs = (s.putMlMode mlRing).regs ∧ s.noSlots.moor.role = .provisional ∧
      s.noSlots.moor.flight = s.moor.flight := by
  obtain ⟨out, ownA, ownB, joins⟩ :=
    ((s.putMlMode mlRing).modMoor fun m => { m with role := .provisional, yields := false }).joined_queues
  unfold State.noSlots
  rw [if_pos h, joins]
  exact ⟨by rw [State.modMoor_regs, State.modMoor_regs], rfl, rfl⟩

theorem State.noSlots_waits (s : State) (h : s.get ML_CTL 17 15 = 0) : s.noSlots = s.putMlMode mlJoining :=
  if_neg (by omega)

/-- Of the registers, the wait for slots ends with a change of the mode alone. -/
theorem State.noSlots_regs (s : State) : ∃ v, s.noSlots.regs = (s.putMlMode v).regs := by
  rcases Nat.eq_zero_or_pos (s.get ML_CTL 17 15) with zero | pos
  · exact ⟨mlJoining, by rw [s.noSlots_waits zero]⟩
  · exact ⟨mlRing, (s.noSlots_candidate pos).1⟩

theorem State.mlMode_noSlots_candidate (s : State) (h : 0 < s.get ML_CTL 17 15) : s.noSlots.mlMode = mlRing :=
  (State.get_of_rd (State.rd_of_regs (s.noSlots_candidate h).1 ML_STAT) 9 8).trans (s.mlMode_putMlMode mlRing)

theorem State.mlMode_noSlots_waits (s : State) (h : s.get ML_CTL 17 15 = 0) : s.noSlots.mlMode = mlJoining := by
  rw [s.noSlots_waits h]
  exact s.mlMode_putMlMode mlJoining

theorem exec_bypassOpen {s : State} (hc : s.committed = true) (ha : s.awake = true) (hm : s.hasMooring = true)
    (hb : s.dev.bypassOpen = false) :
    exec .bypassOpen s = .next ((s.modDev fun d => { d with bypassOpen := true }).putMlMode mlJoining) :=
  congrArg Host.Outcome.next (if_pos (by simp [hc, ha, hm, hb]))

/-- The opened bypass lets the device join (R495). -/
theorem bypassOpen_joins {s : State} (hc : s.committed = true) (ha : s.awake = true) (hm : s.hasMooring = true)
    (hb : s.dev.bypassOpen = false) : Does .bypassOpen s fun t =>
      t.dev.bypassOpen = true ∧ t.mlMode = mlJoining ∧ t.moor = s.moor ∧ s.Only t [(ML_STAT, 9, 8)] :=
  ⟨_, exec_bypassOpen hc ha hm hb, rfl, State.mlMode_putMlMode _ mlJoining,
    State.putMlMode_moor _ mlJoining, State.putMlMode_only _ mlJoining⟩

theorem exec_joinTimeout {s : State} (h : s.mlMode = mlJoining) : exec (.joinTimeout true) s = .next s.noSlots :=
  congrArg Host.Outcome.next (if_pos (by simp [h]))

theorem joinTimeout_candidate {s : State} (h : s.mlMode = mlJoining) (apri : 0 < s.get ML_CTL 17 15) :
    Does (.joinTimeout true) s fun t => t.mlMode = mlRing ∧ t.moor.role = .provisional ∧ s.Only t [(ML_STAT, 9, 8)] := by
  obtain ⟨regs, role, -⟩ := s.noSlots_candidate apri
  exact ⟨_, exec_joinTimeout h, s.mlMode_noSlots_candidate apri, role, (s.putMlMode_only mlRing).upd regs⟩

theorem joinTimeout_waits {s : State} (h : s.mlMode = mlJoining) (apri : s.get ML_CTL 17 15 = 0) :
    Does (.joinTimeout true) s fun t => t.mlMode = mlJoining ∧ t.moor = s.moor :=
  ⟨_, exec_joinTimeout h, s.mlMode_noSlots_waits apri,
    (congrArg State.moor (s.noSlots_waits apri)).trans (s.putMlMode_moor mlJoining)⟩

/-- The ring is lost: the event, no anchor any more, nothing in flight (R497). -/
def State.slotsLost (s : State) : State :=
  ((s.mlEvt 2).clrb ML_STAT 7).modMoor fun m => { m with role := .repeater, flight := none, yields := false }

theorem exec_slotLoss {s : State} (h : s.mlMode = mlRing) : exec .slotLoss s = .next s.slotsLost.noSlots :=
  congrArg Host.Outcome.next (if_pos h)

theorem State.slotsLost_apri (s : State) : s.slotsLost.get ML_CTL 17 15 = s.get ML_CTL 17 15 :=
  ((s.mlEvt 2).get_put_other ML_STAT 7 7 0 ML_CTL 17 15 (by decide)).trans
    (s.get_put_other ML_EVT 2 2 1 ML_CTL 17 15 (by decide))

theorem State.slotsLost_event (s : State) : s.slotsLost.flag ML_EVT 2 = true := by
  refine ((s.mlEvt 2).flag_clrb ML_STAT 7 ML_EVT 2 (by decide)).trans ?_
  rw [State.mlEvt, State.flag_setb _ _ _ _ _ (by decide)]
  simp

theorem State.slotsLost_anchor (s : State) : s.slotsLost.flag ML_STAT 7 = false :=
  (s.mlEvt 2).flag_put_same ML_STAT 7 0 (by decide)

/-- A device that loses its ring begins anew, as when it joins (R497). -/
theorem slotLoss_restarts {s : State} (h : s.mlMode = mlRing) : Does .slotLoss s fun t =>
    t.flag ML_EVT 2 = true ∧ t.flag ML_STAT 7 = false ∧ t.moor.flight = none ∧
      (0 < s.get ML_CTL 17 15 → t.mlMode = mlRing ∧ t.moor.role = .provisional) ∧
      (s.get ML_CTL 17 15 = 0 → t.mlMode = mlJoining ∧ t.moor.role = .repeater) := by
  obtain ⟨v, regs⟩ := s.slotsLost.noSlots_regs
  have reads := State.rd_of_regs regs
  have event : s.slotsLost.noSlots.rd ML_EVT = s.slotsLost.rd ML_EVT :=
    (reads ML_EVT).trans (by rw [State.putMlMode, State.rd_put, if_neg (by decide)])
  refine ⟨_, exec_slotLoss h, (State.flag_of_rd event 2).trans s.slotsLost_event,
    (State.flag_of_rd (reads ML_STAT) 7).trans ((State.flag_putMlMode_anchor _ v).trans s.slotsLost_anchor), ?_, ?_, ?_⟩
  · rcases Nat.eq_zero_or_pos (s.slotsLost.get ML_CTL 17 15) with zero | pos
    · rw [State.noSlots_waits _ zero]; rfl
    · exact (State.noSlots_candidate _ pos).2.2
  · rw [← s.slotsLost_apri]
    exact fun pos => ⟨State.mlMode_noSlots_candidate _ pos, (State.noSlots_candidate _ pos).2.1⟩
  · rw [← s.slotsLost_apri]
    exact fun zero => ⟨State.mlMode_noSlots_waits _ zero, by rw [State.noSlots_waits _ zero]; rfl⟩

/-! ### The own frame to send next (R492) -/

/-- The next frame is one that waits, and none that waits ranks before it. -/
theorem nextFrame_first {l : List MFrame} (h : l ≠ []) :
    ∃ f ∈ l, nextFrame l = some f ∧ ∀ g ∈ l, sendRank f.typ ≤ sendRank g.typ := by
  induction l with
  | nil => exact absurd rfl h
  | cons x l ih =>
    rcases eq_or_ne l [] with rfl | more
    · exact ⟨x, List.mem_singleton_self x, rfl, by simp⟩
    obtain ⟨g, mem, next, least⟩ := ih more
    by_cases before : sendRank g.typ < sendRank x.typ
    · refine ⟨g, List.mem_cons_of_mem x mem, by simp [nextFrame, next, before], fun k hk => ?_⟩
      rcases List.mem_cons.mp hk with rfl | hk
      · exact before.le
      · exact least k hk
    · refine ⟨x, List.mem_cons_self, by simp [nextFrame, next, before], fun k hk => ?_⟩
      rcases List.mem_cons.mp hk with rfl | hk
      · exact le_rfl
      · exact (not_lt.mp before).trans (least k hk)

theorem State.stamped_of_ne_time (s : State) (f : MFrame) (seg : Nat) (h : f.typ ≠ 5) : s.stamped f seg = f := if_neg h

/-! ### The slot that leaves port B (R72, R491 to R493) -/

theorem State.fillSlot_docked (s : State) (e : Bool) (h : s.moor.dockB = true) : s.fillSlot e = s := by
  unfold State.fillSlot
  split <;> exact if_pos h

theorem State.fillSlot_first (s : State) (e : Bool) (f : MFrame) (hb : s.moor.dockB = false) (hf : s.moor.flight = none)
    (hn : nextFrame s.moor.out = some f) :
    s.fillSlot e = s.modMoor fun m => { m with
      out := m.out.erase f, flight := some (s.stamped f ML_SEGDLYB), sent := some ⟨e, some (s.stamped f ML_SEGDLYB)⟩
      echo := false } := by
  unfold State.fillSlot
  rw [hf, hn]
  exact if_neg (Bool.eq_false_iff.mp hb)

theorem State.fillSlot_empty (s : State) (e : Bool) (hb : s.moor.dockB = false) (h : s.moor.flight ≠ none ∨ s.moor.out = []) :
    s.fillSlot e = s.modMoor fun m => { m with sent := some ⟨e, none⟩, echo := false } := by
  unfold State.fillSlot
  split
  next f flight first =>
    rcases h with busy | idle
    · exact absurd flight busy
    · rw [idle] at first
      cases first
  next => exact if_neg (Bool.eq_false_iff.mp hb)

theorem State.sendSlot_docked (s : State) (x : Option MFrame) (h : s.moor.dockB = true) : s.sendSlot x = s := if_pos h

theorem State.sendSlot_open (s : State) (x : Option MFrame) (h : s.moor.dockB = false) :
    s.sendSlot x = s.modMoor fun m => { m with sent := some ⟨m.echo, x⟩, echo := false } :=
  if_neg (Bool.eq_false_iff.mp h)

/-- A full slot is emptied, or it goes on with the frame `g`, whose residence is one free value. -/
def State.sendOn (s : State) (emptied : Bool) (g : MFrame) : State :=
  if emptied then s.sendSlot none else (s.sendSlot (some g)).useFree 1

/-- The frame that leaves in a slot that has been full. -/
def sentFrame (emptied : Bool) (g : MFrame) : Option MFrame := if emptied then none else some g

theorem State.sendOn_docked (s : State) (emptied : Bool) (g : MFrame) (h : s.moor.dockB = true) :
    (s.sendOn emptied g).moor = s.moor := by
  unfold State.sendOn
  rw [s.sendSlot_docked _ h, s.sendSlot_docked _ h]
  split <;> rfl

theorem State.sendOn_moor (s : State) (emptied : Bool) (g : MFrame) (h : s.moor.dockB = false) :
    (s.sendOn emptied g).moor = { s.moor with sent := some ⟨s.moor.echo, sentFrame emptied g⟩, echo := false } := by
  unfold State.sendOn sentFrame
  rw [s.sendSlot_open _ h, s.sendSlot_open _ h]
  split <;> rfl

/-- Sending changes nothing but the link's own state and the free values used. -/
theorem State.sendOn_eq (s : State) (emptied : Bool) (g : MFrame) :
    ∃ m k, s.sendOn emptied g = { s with moor := m, free := k } := by
  unfold State.sendOn State.sendSlot
  split
  · split
    · exact ⟨s.moor, s.free, rfl⟩
    · exact ⟨_, s.free, rfl⟩
  · split
    · exact ⟨s.moor, _, rfl⟩
    · exact ⟨_, _, rfl⟩

/-! ### The slot that comes on port A (R489, R494, R505, R506) -/

/-- The state with `k` echo bursts sent (R506). -/
def State.withEchoes (s : State) (k : Nat) : State := s.modMoor fun m => { m with sentEcho := k }

/-- An echo is only counted. -/
theorem State.echoBurst_eq (s : State) (e : Bool) : ∃ k, s.echoBurst e = s.withEchoes k := by
  unfold State.echoBurst
  split
  · exact ⟨_, rfl⟩
  · exact ⟨s.moor.sentEcho, rfl⟩

theorem State.raise_moor (s : State) (e : Event) : (s.raise e).moor = s.moor := by rw [State.raise_eq]

/-- A check error leaves the link as it was, but for the times of such errors. -/
theorem State.checkError_moor (s : State) : ∃ errs, s.checkError.moor = { s.moor with errs := errs } := by
  unfold State.checkError
  dsimp only
  split
  · refine ⟨[], ?_⟩
    rw [State.modMoor_moor, State.raiseAll, State.raise_moor]
    rfl
  · exact ⟨_, rfl⟩

/-- The state in which a check error is counted, and its time noted. -/
def State.errorCounted (s : State) : State :=
  (s.incSat ML_ERRCNT).modMoor fun m => { m with
    errs := s.tide.now :: s.moor.errs.filter fun u => since s.tide.now u < 2000000 }

/-- With this check error, those of the last 100 ms reach ML_ERRLIM (R505). -/
def State.ErrorLimit (s : State) : Prop :=
  (s.rd ML_ERRLIM).toNat ≤ (s.moor.errs.filter fun u => since s.tide.now u < 2000000).length + 1

/-- `t` is `s` after a check error (R505): the count, the event and its source at the limit, no other register. -/
structure State.CountsError (s t : State) : Prop where
  count : (t.rd ML_ERRCNT).toNat = min ((s.rd ML_ERRCNT).toNat + 1) 0x3FFFF
  limit : s.ErrorLimit → t.flag ML_EVT 1 = true ∧ (s.canRaise 0x29 = true → t.Raised 0x29)
  only : s.Only t [whole ML_ERRCNT, (ML_EVT, 1, 1)]

theorem State.checkError_limit {s : State} (h : s.ErrorLimit) :
    s.checkError = ((s.errorCounted.mlEvt 1).raiseAll 0x29 ML_EVT).modMoor fun m => { m with errs := [] } := if_pos h

theorem State.checkError_below {s : State} (h : ¬ s.ErrorLimit) : s.checkError = s.errorCounted := if_neg h

/-- Of the registers, a check error writes its counter and its event at most. -/
theorem State.checkError_regs (s : State) :
    s.checkError.regs = s.errorCounted.regs ∨ s.checkError.regs = (s.errorCounted.mlEvt 1).regs := by
  by_cases limit : s.ErrorLimit
  · right
    rw [State.checkError_limit limit, State.modMoor_regs, State.raiseAll, State.raise_regs]
  · left
    rw [State.checkError_below limit]

theorem State.checkError_only (s : State) : s.Only s.checkError [whole ML_ERRCNT, (ML_EVT, 1, 1)] := by
  have counted : s.Only s.errorCounted [whole ML_ERRCNT, (ML_EVT, 1, 1)] :=
    (State.Only.rfl.wr ML_ERRCNT _ List.mem_cons_self).upd rfl
  rcases s.checkError_regs with regs | regs
  · exact counted.upd regs
  · exact (counted.setb ML_EVT 1 (by decide) (by simp)).upd regs

/-- A register other than the counter and the event. -/
theorem State.rd_checkError_other (s : State) (a : Nat) (hc : a ≠ ML_ERRCNT) (he : a ≠ ML_EVT) :
    s.checkError.rd a = s.rd a := by
  have counted : s.errorCounted.rd a = s.rd a := (s.rd_wr ML_ERRCNT a _).trans (if_neg hc)
  rcases s.checkError_regs with regs | regs
  · exact (State.rd_of_regs regs a).trans counted
  · exact (State.rd_of_regs regs a).trans (((s.errorCounted.rd_put ML_EVT a 1 1 1).trans (if_neg he)).trans counted)

/-- The counter saturates at its largest value. -/
theorem State.checkError_count (s : State) :
    (s.checkError.rd ML_ERRCNT).toNat = min ((s.rd ML_ERRCNT).toNat + 1) 0x3FFFF := by
  have counted : s.errorCounted.rd ML_ERRCNT = BitVec.ofNat 18 (min ((s.rd ML_ERRCNT).toNat + 1) 0x3FFFF) :=
    (s.rd_wr ML_ERRCNT ML_ERRCNT _).trans (if_pos rfl)
  have reads : s.checkError.rd ML_ERRCNT = s.errorCounted.rd ML_ERRCNT := by
    rcases s.checkError_regs with regs | regs
    · exact State.rd_of_regs regs _
    · exact (State.rd_of_regs regs _).trans ((s.errorCounted.rd_put ML_EVT ML_ERRCNT 1 1 1).trans (if_neg (by decide)))
  rw [reads, counted, BitVec.toNat_ofNat, Nat.mod_eq_of_lt (by omega)]

/-- At the limit the event shows, and its source is raised (R505). -/
theorem State.checkError_raises {s : State} (h : s.ErrorLimit) :
    s.checkError.flag ML_EVT 1 = true ∧ (s.canRaise 0x29 = true → s.checkError.Raised 0x29) := by
  rw [State.checkError_limit h]
  have shown : (s.errorCounted.mlEvt 1).flag ML_EVT 1 = true := s.errorCounted.flag_put_same ML_EVT 1 1 (by decide)
  have can : (s.errorCounted.mlEvt 1).canRaise 0x29 = s.canRaise 0x29 := State.canRaise_of_parts rfl rfl 0x29
  refine ⟨(State.flag_of_rd ?_ 1).trans shown, fun raises => State.Raised.of_coll (State.modMoor_coll _ _)
    (State.raise_raised _ { src := 0x29, affected := _, adr := ML_EVT } (can.trans raises))⟩
  rw [State.rd_modMoor, State.rd_raiseAll]

theorem State.checkError_counts (s : State) : s.CountsError s.checkError :=
  ⟨s.checkError_count, State.checkError_raises, s.checkError_only⟩

/-- The checks of a frame that arrives (R489). -/
def State.checked (s : State) (f : MFrame) : State := if frameOk f then s else s.checkError

/-- A frame is received: its checks, and the end of the own frame's way (R489, R494). -/
def State.received (s : State) (f : MFrame) : State :=
  if (s.checked f).isOwn f then (s.checked f).modMoor fun m => { m with flight := none } else s.checked f

theorem State.checked_moor (s : State) (f : MFrame) : ∃ errs, (s.checked f).moor = { s.moor with errs := errs } := by
  unfold State.checked
  split
  · exact ⟨s.moor.errs, rfl⟩
  · exact s.checkError_moor

theorem State.isOwn_checked (s : State) (f : MFrame) : (s.checked f).isOwn f = s.isOwn f := by
  obtain ⟨errs, moor⟩ := s.checked_moor f
  exact State.isOwn_of_flight (by rw [moor]) f

theorem State.numbered_checked (s : State) (f : MFrame) : (s.checked f).numbered = s.numbered := by
  unfold State.checked
  split
  · rfl
  · exact State.numbered_of_rd (s.rd_checkError_other ML_NODE (by decide) (by decide))

/-- Receiving a frame ends the flight of the own one, and notes the time of a check error. -/
theorem State.received_moor (s : State) (f : MFrame) :
    ∃ errs, (s.received f).moor = { s.moor with
      errs := errs, flight := if s.isOwn f then none else s.moor.flight } := by
  obtain ⟨errs, moor⟩ := s.checked_moor f
  refine ⟨errs, ?_⟩
  unfold State.received
  rw [s.isOwn_checked f]
  split
  · rw [State.modMoor_moor, moor]
  · exact moor

/-- Beyond the link's own state, receiving a frame does what its checks do. -/
theorem State.received_eq (s : State) (f : MFrame) : ∃ m, s.received f = { s.checked f with moor := m } := by
  unfold State.received
  split
  · exact ⟨_, rfl⟩
  · exact ⟨(s.checked f).moor, rfl⟩

/-- A frame that is received leaves nothing on a docked port B (R72). -/
theorem State.sendOn_received_docked (s : State) (emptied : Bool) (f g : MFrame) (h : s.moor.dockB = true) :
    ((s.received f).sendOn emptied g).moor.sent = s.moor.sent := by
  obtain ⟨errs, moor⟩ := s.received_moor f
  rw [State.sendOn_docked _ _ _ (by rw [moor]; exact h), moor]

/-! ### SLOT_ARRIVAL -/

/-- No slot is taken: port A is docked, the device neither joins nor repeats (R72, R491). -/
def State.ignoresSlots (s : State) : Bool :=
  s.moor.dockA || (s.mlMode != mlJoining && s.mlMode != mlRing) || (s.mlMode = mlRing && s.moor.role != .repeater)

/-- A slot arrives with its E bit: it is echoed, and its delimiter ends the joining (R495, R506). -/
def State.slotCame (s : State) (e : Bool) : State :=
  if s.mlMode = mlJoining then
    (((s.echoBurst e).putMlMode mlRing).modMoor fun m => { m with role := .repeater }).joined
  else s.echoBurst e

/-- A repeater empties the slot of its own frame, and an unnumbered one the slot of a ROLL (R494, R499). -/
def State.repeaterEmpties (s : State) (f : MFrame) : Bool :=
  (s.isOwn f && s.numbered) || (frameOk f && f.typ = 3 && !s.numbered)

theorem exec_slotArrival_ignored {s : State} (h : s.ignoresSlots = true) (sl : MSlot) : exec (.slotArrival sl) s = .next s :=
  congrArg Host.Outcome.next (if_pos h)

theorem exec_slotArrival_empty {s : State} (h : s.ignoresSlots = false) (e : Bool) :
    exec (.slotArrival ⟨e, none⟩) s = .next ((s.slotCame e).fillSlot s.moor.echo) :=
  congrArg Host.Outcome.next (if_neg (Bool.eq_false_iff.mp h))

theorem exec_slotArrival_full {s : State} (h : s.ignoresSlots = false) (e : Bool) (f : MFrame) :
    exec (.slotArrival ⟨e, some f⟩) s = .next (((s.slotCame e).received f).sendOn
      (((s.slotCame e).checked f).repeaterEmpties f) (((s.slotCame e).received f).passB f)) :=
  congrArg Host.Outcome.next (if_neg (Bool.eq_false_iff.mp h))

/-- A slot that comes leaves what was sent last, and the docking of port B. -/
theorem State.slotCame_moor (s : State) (e : Bool) :
    (s.slotCame e).moor.sent = s.moor.sent ∧ (s.slotCame e).moor.dockB = s.moor.dockB := by
  obtain ⟨k, echoed⟩ := s.echoBurst_eq e
  unfold State.slotCame
  split
  · obtain ⟨out, ownA, ownB, joins⟩ :=
      (((s.echoBurst e).putMlMode mlRing).modMoor fun m => { m with role := .repeater }).joined_queues
    rw [joins, echoed]
    exact ⟨rfl, rfl⟩
  · rw [echoed]
    exact ⟨rfl, rfl⟩

/-- Nothing leaves on a docked port B (R72). -/
theorem slotArrival_docked {s : State} (h : s.moor.dockB = true) (sl : MSlot) :
    Does (.slotArrival sl) s fun t => t.moor.sent = s.moor.sent := by
  obtain ⟨e, frame⟩ := sl
  obtain ⟨sent, dockB⟩ := s.slotCame_moor e
  cases ignored : s.ignoresSlots with
  | true => exact ⟨s, exec_slotArrival_ignored ignored _, rfl⟩
  | false =>
    cases frame with
    | none =>
      exact ⟨_, exec_slotArrival_empty ignored e,
        (congrArg (·.moor.sent) (State.fillSlot_docked _ _ (dockB.trans h))).trans sent⟩
    | some f =>
      exact ⟨_, exec_slotArrival_full ignored e f, (State.sendOn_received_docked _ _ f _ (dockB.trans h)).trans sent⟩

/-! ### SLOT_START -/

/-- What the anchor hears: on a docked port A nothing (R72). -/
def State.heardOnA (s : State) (a : Option MSlot) : Option MSlot := if s.moor.dockA then none else a

/-- The anchor echoes the E bit of what it hears. -/
def State.slotHeard (s : State) (a : Option MSlot) : State := s.echoBurst (((s.heardOnA a).map (·.echo)).getD false)

/-- The anchor empties the slot of its own frame, and a marked one (R493, R494). -/
def State.anchorEmpties (s : State) (f : MFrame) : Bool := (s.isOwn f && s.numbered) || f.mark

theorem exec_slotStart_ignored {s : State} (h : s.mlMode ≠ mlRing ∨ s.moor.role = .repeater) (a : Option MSlot) :
    exec (.slotStart a) s = .next s :=
  congrArg Host.Outcome.next (if_pos (by simpa using h))

theorem exec_slotStart_yields {s : State} (hm : s.mlMode = mlRing) (hr : s.moor.role ≠ .repeater)
    (hy : s.moor.yields = true) (a : Option MSlot) :
    exec (.slotStart a) s = .next ((s.clrb ML_STAT 7).modMoor fun m => { m with role := .repeater, yields := false }) :=
  congrArg Host.Outcome.next ((if_neg (by simp [hm, hr])).trans (if_pos hy))

theorem exec_slotStart_empty {s : State} {a : Option MSlot} (hm : s.mlMode = mlRing) (hr : s.moor.role ≠ .repeater)
    (hy : s.moor.yields = false) (h : (s.heardOnA a).bind (·.frame) = none) :
    exec (.slotStart a) s = .next ((s.slotHeard a).fillSlot s.moor.echo) := by
  refine congrArg Host.Outcome.next ((if_neg (by simp [hm, hr])).trans ((if_neg (Bool.eq_false_iff.mp hy)).trans ?_))
  unfold State.heardOnA at h
  dsimp only
  rw [h]
  rfl

theorem exec_slotStart_full {s : State} {a : Option MSlot} {f : MFrame} (hm : s.mlMode = mlRing)
    (hr : s.moor.role ≠ .repeater) (hy : s.moor.yields = false) (h : (s.heardOnA a).bind (·.frame) = some f) :
    exec (.slotStart a) s = .next (((s.slotHeard a).received f).sendOn (((s.slotHeard a).checked f).anchorEmpties f)
      { ((s.slotHeard a).received f).passB f with mark := true }) := by
  refine congrArg Host.Outcome.next ((if_neg (by simp [hm, hr])).trans ((if_neg (Bool.eq_false_iff.mp hy)).trans ?_))
  unfold State.heardOnA at h
  dsimp only
  rw [h]
  rfl

/-- An anchor that has heard a higher claim is a repeater from its next slot on (R496). -/
theorem slotStart_yields {s : State} (hm : s.mlMode = mlRing) (hr : s.moor.role ≠ .repeater) (hy : s.moor.yields = true)
    (a : Option MSlot) : Does (.slotStart a) s fun t =>
      t.moor = { s.moor with role := .repeater, yields := false } ∧ t.flag ML_STAT 7 = false :=
  ⟨_, exec_slotStart_yields hm hr hy a, rfl, s.flag_put_same ML_STAT 7 0 (by decide)⟩

theorem State.slotHeard_moor (s : State) (a : Option MSlot) :
    (s.slotHeard a).moor.sent = s.moor.sent ∧ (s.slotHeard a).moor.dockB = s.moor.dockB := by
  obtain ⟨k, echoed⟩ := s.echoBurst_eq (((s.heardOnA a).map (·.echo)).getD false)
  unfold State.slotHeard
  rw [echoed]
  exact ⟨rfl, rfl⟩

theorem slotStart_docked {s : State} (h : s.moor.dockB = true) (a : Option MSlot) :
    Does (.slotStart a) s fun t => t.moor.sent = s.moor.sent := by
  by_cases ignored : s.mlMode ≠ mlRing ∨ s.moor.role = .repeater
  · exact ⟨s, exec_slotStart_ignored ignored a, rfl⟩
  obtain ⟨hm, hr⟩ : s.mlMode = mlRing ∧ s.moor.role ≠ .repeater := by simpa [not_or] using ignored
  rcases Bool.eq_false_or_eq_true s.moor.yields with hy | hy
  · exact ⟨_, exec_slotStart_yields hm hr hy a, rfl⟩
  obtain ⟨sent, dockB⟩ := s.slotHeard_moor a
  cases frame : (s.heardOnA a).bind (·.frame) with
  | none =>
    exact ⟨_, exec_slotStart_empty hm hr hy frame,
      (congrArg (·.moor.sent) (State.fillSlot_docked _ _ (dockB.trans h))).trans sent⟩
  | some f =>
    exact ⟨_, exec_slotStart_full hm hr hy frame, (State.sendOn_received_docked _ _ f _ (dockB.trans h)).trans sent⟩

/-! ### A frame that a repeater or an anchor takes in RING mode -/

/-- A frame arrives in a slot with its E bit, is checked, and leaves or is emptied. -/
def State.takeFrame (s : State) (e emptied : Bool) (f : MFrame) (g : State → MFrame) : State :=
  ((s.echoBurst e).received f).sendOn emptied (g ((s.echoBurst e).received f))

/-- What is sent of a frame that is taken, and what is left in flight. -/
theorem State.takeFrame_moor (s : State) (e emptied : Bool) (f : MFrame) (g : State → MFrame) (hb : s.moor.dockB = false) :
    (s.takeFrame e emptied f g).moor.sent = some ⟨s.moor.echo, sentFrame emptied (g ((s.echoBurst e).received f))⟩ ∧
      (s.takeFrame e emptied f g).moor.flight = if s.isOwn f then none else s.moor.flight := by
  obtain ⟨k, echoed⟩ := s.echoBurst_eq e
  obtain ⟨errs, moor⟩ := (s.echoBurst e).received_moor f
  unfold State.takeFrame
  rw [echoed] at moor ⊢
  rw [State.sendOn_moor _ _ _ (by rw [moor]; exact hb), moor]
  exact ⟨rfl, rfl⟩

/-- Beyond the link's own state and the free values, a frame that is taken does what its checks do. -/
theorem State.takeFrame_eq (s : State) (e emptied : Bool) (f : MFrame) (g : State → MFrame) :
    ∃ m k, s.takeFrame e emptied f g = { (s.echoBurst e).checked f with moor := m, free := k } := by
  obtain ⟨m, received⟩ := (s.echoBurst e).received_eq f
  obtain ⟨n, k, sends⟩ := ((s.echoBurst e).received f).sendOn_eq emptied (g ((s.echoBurst e).received f))
  refine ⟨n, k, ?_⟩
  unfold State.takeFrame
  rw [sends, received]

/-- A frame without a check error writes no register. -/
theorem State.takeFrame_regs (s : State) (e emptied : Bool) (f : MFrame) (g : State → MFrame) (ok : frameOk f = true) :
    (s.takeFrame e emptied f g).regs = s.regs := by
  obtain ⟨m, k, takes⟩ := s.takeFrame_eq e emptied f g
  obtain ⟨n, echoed⟩ := s.echoBurst_eq e
  rw [takes, State.checked, if_pos ok, echoed]
  rfl

/-- A frame with a check error is counted (R505). -/
theorem State.takeFrame_counts (s : State) (e emptied : Bool) (f : MFrame) (g : State → MFrame) (bad : frameOk f = false) :
    s.CountsError (s.takeFrame e emptied f g) := by
  obtain ⟨m, k, takes⟩ := s.takeFrame_eq e emptied f g
  obtain ⟨n, echoed⟩ := s.echoBurst_eq e
  obtain ⟨count, limit, only⟩ := (s.withEchoes n).checkError_counts
  have echo : s.Only (s.withEchoes n) [whole ML_ERRCNT, (ML_EVT, 1, 1)] := State.Only.rfl.upd rfl
  rw [takes, State.checked, if_neg (Bool.eq_false_iff.mp bad), echoed]
  exact ⟨count, limit, echo.trans (only.upd rfl)⟩

/-! ### What goes on to port B (R488, R491) -/

/-- A frame that goes on: one hop more, and only a TIME frame's payload may change. -/
structure PassedOn (f g : MFrame) : Prop where
  typ : g.typ = f.typ
  src : g.src = f.src
  dst : g.dst = f.dst
  crc : g.crc = f.crc
  hops : g.hops = min (f.hops + 1) 511
  pay : f.typ ≠ 5 → g.pay = f.pay

theorem passed_passedOn (f : MFrame) (ticks : Nat) : PassedOn f (passed f ticks) :=
  ⟨rfl, rfl, rfl, rfl, rfl, fun time => by simp [passed, time]⟩

theorem State.passB_passedOn (s : State) (f : MFrame) : PassedOn f (s.passB f) := passed_passedOn f _

/-! ### A repeater's slots -/

section
variable {s : State} (hm : s.mlMode = mlRing) (hr : s.moor.role = .repeater) (ha : s.moor.dockA = false)
include hm hr ha

theorem State.repeater_takesSlots : s.ignoresSlots = false := by simp [State.ignoresSlots, hm, hr, ha]

omit hr ha in
theorem State.slotCame_ring (e : Bool) : s.slotCame e = s.echoBurst e := if_neg (by rw [hm]; decide)

theorem exec_slotArrival_repeater_empty (e : Bool) :
    exec (.slotArrival ⟨e, none⟩) s = .next ((s.echoBurst e).fillSlot s.moor.echo) := by
  rw [exec_slotArrival_empty (State.repeater_takesSlots hm hr ha), State.slotCame_ring hm]

theorem exec_slotArrival_repeater_full (e : Bool) (f : MFrame) :
    exec (.slotArrival ⟨e, some f⟩) s = .next (s.takeFrame e (s.repeaterEmpties f) f fun t => t.passB f) := by
  obtain ⟨k, echoed⟩ := s.echoBurst_eq e
  have empties : ((s.echoBurst e).checked f).repeaterEmpties f = s.repeaterEmpties f := by
    unfold State.repeaterEmpties
    rw [State.isOwn_checked, State.numbered_checked, echoed]
    rfl
  rw [exec_slotArrival_full (State.repeater_takesSlots hm hr ha), State.slotCame_ring hm, empties]
  rfl

variable (hb : s.moor.dockB = false)
include hb

/-- An empty slot takes the first own frame when none is in flight (R492). -/
theorem slotArrival_fills (e : Bool) (hf : s.moor.flight = none) (ho : s.moor.out ≠ []) :
    Does (.slotArrival ⟨e, none⟩) s fun t => ∃ f ∈ s.moor.out,
      (∀ g ∈ s.moor.out, sendRank f.typ ≤ sendRank g.typ) ∧ t.moor.out = s.moor.out.erase f ∧ t.moor.flight ≠ none ∧
      (f.typ ≠ 5 → t.moor.sent = some ⟨s.moor.echo, some f⟩ ∧ t.moor.flight = some f) ∧ t.regs = s.regs := by
  obtain ⟨f, mem, next, least⟩ := nextFrame_first ho
  obtain ⟨k, echoed⟩ := s.echoBurst_eq e
  refine ⟨_, exec_slotArrival_repeater_empty hm hr ha e, f, mem, least, ?_⟩
  rw [echoed, State.fillSlot_first (s.withEchoes k) _ f hb hf next]
  refine ⟨rfl, Option.some_ne_none _, fun time => ?_, rfl⟩
  rw [State.stamped_of_ne_time _ f ML_SEGDLYB time]
  exact ⟨rfl, rfl⟩

theorem slotArrival_leavesEmpty (e : Bool) (h : s.moor.flight ≠ none ∨ s.moor.out = []) :
    Does (.slotArrival ⟨e, none⟩) s fun t => t.moor.sent = some ⟨s.moor.echo, none⟩ ∧ t.moor.out = s.moor.out ∧
      t.moor.flight = s.moor.flight ∧ t.regs = s.regs := by
  obtain ⟨k, echoed⟩ := s.echoBurst_eq e
  refine ⟨_, exec_slotArrival_repeater_empty hm hr ha e, ?_⟩
  rw [echoed, State.fillSlot_empty (s.withEchoes k) _ hb h]
  exact ⟨rfl, rfl, rfl, rfl⟩

theorem slotArrival_own (e : Bool) (f : MFrame) (own : s.isOwn f = true) (numbered : s.numbered = true) :
    Does (.slotArrival ⟨e, some f⟩) s fun t => t.moor.sent = some ⟨s.moor.echo, none⟩ ∧ t.moor.flight = none := by
  have empties : s.repeaterEmpties f = true := by simp [State.repeaterEmpties, own, numbered]
  obtain ⟨sent, flight⟩ := s.takeFrame_moor e (s.repeaterEmpties f) f (fun t => t.passB f) hb
  rw [empties] at sent
  rw [own] at flight
  exact ⟨_, exec_slotArrival_repeater_full hm hr ha e f, by rw [empties]; exact sent, flight⟩

/-- Every other frame goes on, with no register written (R491, R492). -/
theorem slotArrival_passes (e : Bool) (f : MFrame) (ok : frameOk f = true) (own : s.isOwn f = false)
    (roll : f.typ ≠ 3 ∨ s.numbered = true) : Does (.slotArrival ⟨e, some f⟩) s fun t =>
      ∃ g, t.moor.sent = some ⟨s.moor.echo, some g⟩ ∧ PassedOn f g ∧ g.mark = f.mark ∧ t.moor.flight = s.moor.flight ∧
        t.regs = s.regs := by
  have passes : s.repeaterEmpties f = false := by
    rcases roll with other | numbered
    · simp [State.repeaterEmpties, own, other]
    · simp [State.repeaterEmpties, own, numbered]
  obtain ⟨sent, flight⟩ := s.takeFrame_moor e (s.repeaterEmpties f) f (fun t => t.passB f) hb
  have regs := s.takeFrame_regs e (s.repeaterEmpties f) f (fun t => t.passB f) ok
  refine ⟨_, exec_slotArrival_repeater_full hm hr ha e f, ((s.echoBurst e).received f).passB f, ?_,
    State.passB_passedOn _ f, rfl, ?_, regs⟩
  · rw [sent, passes]; rfl
  · rw [flight, own]; rfl

omit hb in
theorem slotArrival_counts (e : Bool) (f : MFrame) (bad : frameOk f = false) :
    Does (.slotArrival ⟨e, some f⟩) s s.CountsError :=
  ⟨_, exec_slotArrival_repeater_full hm hr ha e f, s.takeFrame_counts e _ f _ bad⟩

end

/-! ### An anchor's slots -/

section
variable {s : State} (hm : s.mlMode = mlRing) (hr : s.moor.role ≠ .repeater) (hy : s.moor.yields = false)
  (ha : s.moor.dockA = false)
include hm hr hy ha

theorem exec_slotStart_anchor_full (e : Bool) (f : MFrame) :
    exec (.slotStart (some ⟨e, some f⟩)) s =
      .next (s.takeFrame e (s.anchorEmpties f) f fun t => { t.passB f with mark := true }) := by
  have hears : s.heardOnA (some ⟨e, some f⟩) = some ⟨e, some f⟩ := if_neg (Bool.eq_false_iff.mp ha)
  have heard : s.slotHeard (some ⟨e, some f⟩) = s.echoBurst e := by rw [State.slotHeard, hears]; rfl
  obtain ⟨k, echoed⟩ := s.echoBurst_eq e
  have empties : ((s.echoBurst e).checked f).anchorEmpties f = s.anchorEmpties f := by
    unfold State.anchorEmpties
    rw [State.isOwn_checked, State.numbered_checked, echoed]
    rfl
  rw [exec_slotStart_full hm hr hy (by rw [hears]; rfl), heard, empties]
  rfl

variable (hb : s.moor.dockB = false)
include hb

/-- What the anchor empties leaves as an empty slot, and an own frame has ended its way (R493, R494). -/
theorem slotStart_empties (e : Bool) (f : MFrame) (empties : s.anchorEmpties f = true) :
    Does (.slotStart (some ⟨e, some f⟩)) s fun t => t.moor.sent = some ⟨s.moor.echo, none⟩ ∧
      t.moor.flight = if s.isOwn f then none else s.moor.flight := by
  obtain ⟨sent, flight⟩ := s.takeFrame_moor e (s.anchorEmpties f) f (fun t => { t.passB f with mark := true }) hb
  refine ⟨_, exec_slotStart_anchor_full hm hr hy ha e f, ?_, flight⟩
  rw [sent, empties]
  rfl

/-- What the anchor passes on is marked (R493). -/
theorem slotStart_marks (e : Bool) (f : MFrame) (passes : s.anchorEmpties f = false) :
    Does (.slotStart (some ⟨e, some f⟩)) s fun t => ∃ g, t.moor.sent = some ⟨s.moor.echo, some g⟩ ∧ g.mark = true ∧
      PassedOn f g ∧ (frameOk f = true → t.regs = s.regs) := by
  obtain ⟨sent, -⟩ := s.takeFrame_moor e (s.anchorEmpties f) f (fun t => { t.passB f with mark := true }) hb
  have on := State.passB_passedOn ((s.echoBurst e).received f) f
  refine ⟨_, exec_slotStart_anchor_full hm hr hy ha e f,
    { ((s.echoBurst e).received f).passB f with mark := true }, ?_, rfl,
    ⟨on.typ, on.src, on.dst, on.crc, on.hops, on.pay⟩, s.takeFrame_regs e _ f _⟩
  rw [sent, passes]
  rfl

end

/-- Settles O52: joining and its timeout, the docked ports, a repeater's slots, an anchor's slots. -/
theorem mooringSlots : Obligations.MooringSlots := by
  refine fun s => ⟨bypassOpen_joins, fun joining => ⟨joinTimeout_candidate joining, joinTimeout_waits joining⟩,
    slotLoss_restarts, fun ha => exec_slotArrival_ignored (by simp [State.ignoresSlots, ha]),
    fun hb => ⟨slotArrival_docked hb, slotStart_docked hb⟩, fun hm hr ha hb => ?_, fun hm hr hy ha hb => ?_,
    slotStart_yields⟩
  · refine ⟨slotArrival_fills hm hr ha hb, slotArrival_leavesEmpty hm hr ha hb, slotArrival_own hm hr ha hb,
      fun e f ok own roll => ?_, fun e f bad => ?_⟩
    · obtain ⟨t, run, g, sent, on, mark, flight, regs⟩ := slotArrival_passes hm hr ha hb e f ok own roll
      exact ⟨t, run, g, sent, on.typ, on.src, on.dst, on.crc, mark, on.hops, on.pay, flight, regs⟩
    · obtain ⟨t, run, count, limit, only⟩ := slotArrival_counts hm hr ha e f bad
      exact ⟨t, run, count, limit, only⟩
  · refine ⟨fun e f mark => ?_, fun e f own numbered => ?_, fun e f mark foreign => ?_⟩
    · obtain ⟨t, run, sent, -⟩ := slotStart_empties hm hr hy ha hb e f (by simp [State.anchorEmpties, mark])
      exact ⟨t, run, sent⟩
    · obtain ⟨t, run, sent, flight⟩ := slotStart_empties hm hr hy ha hb e f (by simp [State.anchorEmpties, own, numbered])
      exact ⟨t, run, sent, by rw [flight, own]; rfl⟩
    · have passes : s.anchorEmpties f = false := by
        rcases foreign with other | unnumbered
        · simp [State.anchorEmpties, mark, other]
        · simp [State.anchorEmpties, mark, unnumbered]
      obtain ⟨t, run, g, sent, marked, on, regs⟩ := slotStart_marks hm hr hy ha hb e f passes
      exact ⟨t, run, g, sent, marked, on.typ, on.src, on.hops, on.pay, regs⟩

end Sys2Proof.Machine
end
